-- ==== Sys2Proof/Word.lean ====
section
/-! DEFINITION. The word type of the exchange memory and the link: one byte. Quantities of the part (energies, money,
times, millivolts) are `Nat` or `Int`, as the manual's units table gives them (00_scope.md, Units and conventions);
bit vectors are kept for what the manual treats as bits. -/

namespace Sys2Proof

/-- One byte of the exchange memory or of a link frame (R167, R169). -/
abbrev Byte := BitVec 8

end Sys2Proof
end

