-- ==== Sys2Proof/Config.lean ====
section
/-! DEFINITION. What the manual fixes for every part: the numbers that the rules state in their text. The ranges and
defaults of the protected settings stand in Machine/SettingsTable.lean. The manual leaves no value to an implementation
that a step would read, so no free value (a constant without a body) is needed; notes/assumptions/2.md says why. -/

namespace Sys2Proof.Config

/-- CREDIT_CAP, the greatest balance the part holds, in mil (03_credit_accounting.md, R55). -/
def creditCap : Int := 10000000000

/-- One microwatt-hour in units of a calibrated product: 2^32 (R2). -/
def energyUnit : Nat := 4294967296

/-- One kilowatt-hour in microwatt-hours, the divisor of the energy charge (R43). -/
def chargeUnit : Nat := 1000000000

/-- The value at which meter time saturates (R25). -/
def timeMax : Nat := 4294967295

/-- Seconds of a day and of an hour (R28, R46). -/
def daySeconds : Nat := 86400
def hourSeconds : Nat := 3600

/-- SET TIME in service: the daily allowance and the limit of one order, in seconds (R34). -/
def dayAllowance : Nat := 900
def orderLimit : Int := 300

/-- The length of a lockout and the failures that start it (R72, R85). -/
def lockoutSeconds : Nat := 600
def failureLimit : Nat := 5

/-- How many serials the used-code list holds (R82). -/
def usedCapacity : Nat := 32

/-- The SETTLE phase and the qualification of CASE and TERMINAL, in ms (R98, R115). -/
def settleMs : Nat := 100
def lineMs : Nat := 50

/-- Delivered seconds that qualify MAGNET (R116). -/
def magnetSeconds : Nat := 2

/-- Blocks that qualify REVERSE and BYPASS (R19). -/
def reverseBlocks : Nat := 40
def bypassBlocks : Nat := 16

/-- Blocks of the voltage counts (R142, R143, R144). -/
def overVoltageBlocks : Nat := 40
def recoveryBlocks : Nat := 240
def sagBlocks : Nat := 8

/-- Seconds of the Switch Unit's closed time and STUCK wait (R106, R102). -/
def closedSeconds : Nat := 600
def stuckSeconds : Nat := 300

/-- Seconds between HOLD readings, between RUN readings of the backup cell, and between periodic sweeps
(R137, R147, R161). -/
def holdReadingSeconds : Nat := 60
def backupReadingSeconds : Nat := 3600
def sweepSeconds : Nat := 60

/-- The journal ring, the append queue and the unread count at which entries are discarded (R206, R208). -/
def ringEntries : Nat := 48
def queueEntries : Nat := 32
def overflowUnread : Nat := 46

/-- Block completions of one publication (R210). -/
def publicationBlocks : Nat := 8

end Sys2Proof.Config
end

