-- ==== Sys2Proof/Syntax.lean ====
section
/-! DEFINITION. The commands of the part: `Instr` has one constructor for each row of spec/opcode_table.json, with the
operands that the row's rule gives its arrival. The types before it are the operands: what one unit tells another, and
what the outside hands the part. The table gives no bits; the link's own encoding of a frame stands in Decode.lean. -/

namespace Sys2Proof

/-- The current channels L and N (R2). -/
inductive Channel where
  | line
  | neutral
  deriving DecidableEq, Repr

/-- A channel's direction for a block (R4, R5). -/
inductive Direction where
  | forward
  | reverse
  | none
  deriving DecidableEq, Repr

/-- The relay states (R91, R185). -/
inductive RelayState where
  | closed
  | opening
  | open
  | ready
  | closing
  | stuck
  deriving DecidableEq, Repr

/-- The service states (R155). -/
inductive ServiceState where
  | commissioning
  | inService
  deriving DecidableEq, Repr

/-- The credit states (R51). -/
inductive CreditState where
  | normal
  | low
  | emergency
  | exhausted
  deriving DecidableEq, Repr

/-- The cause of a change of credit state (R52). -/
inductive CreditCause where
  | block
  | hour
  | topUp
  | emergency
  | tariff
  deriving DecidableEq, Repr

/-- The disconnect reasons (R89). -/
inductive Reason where
  | credit
  | overLimit
  | overVoltage
  | tamper
  | remote
  deriving DecidableEq, Repr

/-- The reason set: any subset of the five reasons (05_supply_switch.md). -/
structure ReasonSet where
  credit : Bool
  overLimit : Bool
  overVoltage : Bool
  tamper : Bool
  remote : Bool
  deriving DecidableEq, Repr

/-- The empty reason set. -/
def ReasonSet.empty : ReasonSet := ⟨false, false, false, false, false⟩

/-- The over-limit mode (R104). -/
inductive LimitMode where
  | none
  | backoff
  | lockout
  deriving DecidableEq, Repr

/-- The direction of a relay operation (R95). -/
inductive OpDirection where
  | opening
  | closing
  deriving DecidableEq, Repr

/-- The six tamper sources, numbered 0 to 5 (R114). -/
inductive Source where
  | case
  | terminal
  | magnet
  | imbalance
  | reverse
  | bypass
  deriving DecidableEq, Repr

/-- The three line inputs of the Tamper Unit (R115, R116). -/
inductive Line where
  | case
  | terminal
  | magnet
  deriving DecidableEq, Repr

/-- The state of an energy condition that a block result reports (R14). -/
structure ConditionReport where
  qualified : Bool
  testQualified : Bool
  deriving DecidableEq, Repr

/-- The block result (R14). -/
structure BlockResult where
  billed : Nat
  channel : Channel
  direction : Direction
  lineMagnitude : Nat
  neutralMagnitude : Nat
  voltage : Nat
  relay : RelayState
  imbalance : ConditionReport
  reverse : ConditionReport
  bypass : ConditionReport
  deriving DecidableEq, Repr

/-- The 27 protected settings, in the order of their ids (R151). -/
inductive SettingId where
  | meterKey
  | meterNumber
  | kL
  | kN
  | kV
  | creep
  | imbT
  | imbFloor
  | imbBlocks
  | revFloor
  | bypassFloor
  | maskCase
  | maskTerminal
  | maskMagnet
  | maskImbalance
  | maskReverse
  | maskBypass
  | pulseLen
  | limitHold
  | limitBackoff
  | uHigh
  | uHyst
  | uLow
  | csMin
  | csNom
  | bcLow
  | bcRetain
  deriving DecidableEq, Repr

/-- The outcomes of a code evaluation, numbered 0 to 10 (R86). -/
inductive CodeOutcome where
  | accepted
  | lockedOut
  | malformed
  | keyFault
  | badCheck
  | wrongMeter
  | unknownClass
  | used
  | invalidAmount
  | wrongState
  | overCap
  deriving DecidableEq, Repr

/-- How an INTEGRITY entry is marked (R162, R164). -/
inductive IntegrityMark where
  | clear
  | set
  | test
  deriving DecidableEq, Repr

/-- What a journal entry records, by kind 1 to 18 (R186). -/
inductive Event where
  | tamper (source : Source) (test standby : Bool) (a b : Nat)
  | tamperCleared (byOrder : Bool) (mask latches : BitVec 6)
  | code (cls serial amount : Nat)
  | lockout (outcome : CodeOutcome) (lockoutEnd : Nat)
  | credit (old new : CreditState) (cause : CreditCause) (c : Int) (b : BitVec 64)
  | emergency (c : Int) (ec : Nat)
  | relay (state : RelayState) (reasons : ReasonSet) (consent sensedClosed : Bool)
  | relayFault (direction : OpDirection) (sensedClosed : Bool)
  | overLimit (trip : Nat) (mode : LimitMode) (billed pLim : Nat)
  | overVoltage (set : Bool) (voltage uHigh : Nat)
  | sag (voltage uLow : Nat)
  | backupLow (reading bcLow : Nat)
  | time (oldT : Nat) (delta : Int)
  | tariff (band : Fin 4) (friendly : Bool)
  | service (byCode : Bool) (old new : ServiceState)
  | integrity (mark : IntegrityMark) (stored computed : BitVec 16)
  | power (doubt : Bool) (holdStart duration : Nat)
  | overflow (kind : Nat)
  deriving DecidableEq, Repr

/-- A journal entry as its owner sends it (R186, R206). -/
structure Entry where
  time : Nat
  event : Event
  deriving DecidableEq, Repr

/-- The result codes (R199). -/
inductive ResultCode where
  | ok
  | refusedLocked
  | wrongState
  | badArgument
  | stageHeld
  | aborted
  | unknownKind
  | failed
  deriving DecidableEq, Repr

/-- The result data of an answer, by what the owner's rule names (R185). An answer without data is `none`, and from the Tamper Unit
`noneOfTamper`, so that the data tell the owner (notes/assumptions/42.md); both are written as 0. -/
inductive ResultData where
  | none
  | noneOfTamper
  | code (outcome : CodeOutcome) (cls serial amount : Nat) (balance : Int) (lockout : Nat)
  | relay (state : RelayState) (reasons : ReasonSet)
  | emergency (state : CreditState) (ea em : Bool) (c : Int)
  | setTime (requested applied : Int) (remaining : Nat)
  | tariffRefused (item index : Nat)
  | tariffAdopted (band : Fin 4) (friendly : Bool)
  | setting (id : SettingId) (clamped fault : Bool) (applied : Nat)
  | item (number : Nat)
  | clearTamper (mask latches : BitVec 6)
  | target (target : Nat)
  | testOk (target timer t : Nat)
  | testFailed (target deadline : Nat)
  | integrityTest (isMatch : Bool)
  deriving DecidableEq, Repr

/-- An order, by its slot and by the number of the take that made it (R193): the identity by which a late reply is told from one for a
new order of the slot (R198, R202, notes/assumptions/47.md). -/
structure OrderId where
  slot : Fin 8
  number : Nat
  deriving DecidableEq, Repr

/-- The owners that may park an order: the Switch Unit a DISCONNECT, the Tamper Unit a SELF TEST (R198, R200). -/
inductive ParkingOwner where
  | switch
  | tamper
  deriving DecidableEq, Repr

/-- A park: the owner that parks, and the order (R198). -/
structure Park where
  owner : ParkingOwner
  order : OrderId
  deriving DecidableEq, Repr

/-- The two semaphores (R180). -/
inductive Semaphore where
  | mirror
  | stage
  deriving DecidableEq, Repr

/-- How a segment of a frame begins: CSN falls and the host sends the command and the start address (`at`), or only
`bytes` bytes more before CSN rises, too few for a data byte (`short`, R169), or the frame in progress goes on (`goOn`). -/
inductive FrameStart where
  | at (address : BitVec 16)
  | short (bytes : Fin 3)
  | goOn
  deriving DecidableEq, Repr

/-- A segment of a READ frame: `count` data bytes whose shifting begins, and whether CSN rises after them. -/
structure ReadSegment where
  start : FrameStart
  count : Nat
  last : Bool
  deriving DecidableEq, Repr

/-- A segment of a WRITE frame: the data bytes that are complete, and whether CSN rises after them. -/
structure WriteSegment where
  start : FrameStart
  data : List Byte
  last : Bool
  deriving DecidableEq, Repr

/-- The commands: the 116 rows of spec/opcode_table.json, in the table's order. -/
inductive Instr where
  /-- BLOCK_COMPLETION (R1): the three sums of a complete metering block. -/
  | blockCompletion (sL sN : Int) (sV : Nat)
  /-- CALIBRATION_WRITE_NEWS (R3): K_L or K_N has been written. -/
  | calibrationWriteNews (channel : Channel)
  /-- ENERGY_HOLD_ENTRY (R21). -/
  | energyHoldEntry
  /-- CONDITIONS_UNQUALIFIED_NEWS (R117). -/
  | conditionsUnqualifiedNews
  /-- ENERGY_WARM_START (R24). -/
  | energyWarmStart
  /-- SECOND_TICK (R25). -/
  | secondTick
  /-- FRIENDLY_FLAG_NEWS (R60): the new flag. -/
  | friendlyFlagNews (friendly : Bool)
  /-- CALENDAR_WARM_START (R27). -/
  | calendarWarmStart
  /-- SET_TIME (R33): the order and its target. -/
  | setTime (order : OrderId) (target : BitVec 32)
  /-- NEW_T_ARRIVAL (R46). -/
  | newTArrival
  /-- STAGING_COPY_DONE (R38). -/
  | stagingCopyDone
  /-- TARIFF_IMAGE_ARRIVAL (R39): the order and its 256 copied bytes. -/
  | tariffImageArrival (order : OrderId) (image : List Byte)
  /-- NEW_TABLE_ARRIVAL (R58): the friendly flag, if it has changed. -/
  | newTableArrival (friendly : Option Bool)
  /-- CREDIT_BLOCK_RESULT (R43). -/
  | creditBlockResult (result : BlockResult)
  /-- CREDIT_SECOND (R46). -/
  | creditSecond
  /-- EMERGENCY (R53): the order. -/
  | emergency (order : OrderId)
  /-- TOP_UP_REQUEST (R55): the amount in minor units. -/
  | topUpRequest (amount : Nat)
  /-- SERVICE_STATE_NEWS_CREDIT (R60): the new service state. -/
  | serviceStateNewsCredit (state : ServiceState)
  /-- CREDIT_WARM_START (R66). -/
  | creditWarmStart
  /-- ENTER_CODE (R67): the order and its 24 code bytes. -/
  | enterCode (order : OrderId) (digits : List Byte)
  /-- KEY_WRITE_NEWS (R84). -/
  | keyWriteNews
  /-- CODE_WARM_START (R88). -/
  | codeWarmStart
  /-- REASON_REQUEST (R89): an add or a remove of one reason. -/
  | reasonRequest (add : Bool) (reason : Reason)
  /-- CONSENT (R94): the order. -/
  | consent (order : OrderId)
  /-- DISCONNECT (R108): the order. -/
  | disconnect (order : OrderId)
  /-- PERMIT (R109): the order. -/
  | permit (order : OrderId)
  /-- COIL_READING_REQUEST (R146): the conversion of COIL_SUPPLY that the supervisor makes, in mV. -/
  | coilReadingRequest (coil : Nat)
  /-- COIL_READING (R96): the reading handed over, in mV. -/
  | coilReading (coil : Nat)
  /-- DRIVE_END (R97). -/
  | driveEnd
  /-- SETTLE_END (R98). -/
  | settleEnd
  /-- LOAD_SENSE_CHANGE (R100): whether the load side is now energised. -/
  | loadSenseChange (energised : Bool)
  /-- STUCK_RETRY (R102). -/
  | stuckRetry
  /-- SWITCH_BLOCK_RESULT (R103). -/
  | switchBlockResult (result : BlockResult)
  /-- TRIP (R104): the block result at which the limit run reaches LIMIT_HOLD. -/
  | trip (result : BlockResult)
  /-- SWITCH_SECOND (R105). -/
  | switchSecond
  /-- BACKOFF_EXPIRY (R105): the second at which the back-off reaches 0. -/
  | backoffExpiry
  /-- CLOSED_TIME_EXPIRY (R106): the second at which the closed time reaches 600. -/
  | closedTimeExpiry
  /-- LIMIT_REQUEST (R107): the amount in watts. -/
  | limitRequest (watts : Nat)
  /-- SWITCH_HOLD_ENTRY (R111). -/
  | switchHoldEntry
  /-- SWITCH_WARM_START (R112). -/
  | switchWarmStart
  /-- LINE_CHANGE (R115): the line and whether it now stands in its tamper level. -/
  | lineChange (line : Line) (tampered : Bool)
  /-- QUALIFICATION_TIMER_EXPIRY (R115): the line, CASE or TERMINAL. -/
  | qualificationTimerExpiry (line : Line)
  /-- TAMPER_SECOND (R116). -/
  | tamperSecond
  /-- MAGNET_COUNT_REACHED (R116): the second at which the MAGNET count reaches 2. -/
  | magnetCountReached
  /-- TAMPER_BLOCK_RESULT (R117). -/
  | tamperBlockResult (result : BlockResult)
  /-- CLEAR_REQUEST (R122): the mask of sources. -/
  | clearRequest (mask : BitVec 6)
  /-- CLEAR_TAMPER (R123): the order and its mask argument. -/
  | clearTamper (order : OrderId) (mask : Byte)
  /-- ACTION_MASK_NEWS (R124). -/
  | actionMaskNews
  /-- SERVICE_STATE_NEWS_TAMPER (R124). -/
  | serviceStateNewsTamper
  /-- TAMPER_HOLD_ENTRY (R125). -/
  | tamperHoldEntry
  /-- TAMPER_WARM_START (R127). -/
  | tamperWarmStart
  /-- SELF_TEST (R128): the order and its target argument. -/
  | selfTest (order : OrderId) (target : Byte)
  /-- FORCED_TIMER_EXPIRY (R129). -/
  | forcedTimerExpiry
  /-- INJECTION_DEADLINE (R133). -/
  | injectionDeadline
  /-- TAMPER_LINK_RESET (R131). -/
  | tamperLinkReset
  /-- HOLD_ENTRY (R135): SUPPLY_FAIL asserted; the reading of the backup cell, in mV. -/
  | holdEntry (cell : Nat)
  /-- HOLD_READING (R137): the reading of the backup cell, in mV. -/
  | holdReading (cell : Nat)
  /-- COLD_START (R138): SUPPLY_FAIL released without the retention mark; the reading of the backup cell, in mV. -/
  | coldStart (cell : Nat)
  /-- WARM_START (R139): SUPPLY_FAIL released in HOLD with the retention mark; the reading of the backup cell, in mV. -/
  | warmStart (cell : Nat)
  /-- SUPERVISOR_BLOCK_RESULT (R142). -/
  | supervisorBlockResult (result : BlockResult)
  /-- OVER_VOLTAGE_SET (R142): the block result at which the count reaches 40. -/
  | overVoltageSet (result : BlockResult)
  /-- OVER_VOLTAGE_CLEAR (R143): the block result at which the count reaches 240. -/
  | overVoltageClear (result : BlockResult)
  /-- SAG_COUNT_REACHED (R144): the block result at which the sag count reaches 8. -/
  | sagCountReached (result : BlockResult)
  /-- SUPERVISOR_SECOND (R146): the readings of the coil supply, and of the backup cell where the hour ends, in mV. -/
  | supervisorSecond (coil cell : Nat)
  /-- BACKUP_READING (R147): the second at which the hourly count expires; both readings, in mV. -/
  | backupReading (coil cell : Nat)
  /-- WRITE_SETTING (R152): the order, its setting id and its value. -/
  | writeSetting (order : OrderId) (id : Byte) (value : BitVec 64)
  /-- ENTER_SERVICE (R156): the order. -/
  | enterService (order : OrderId)
  /-- RELEASE_REQUEST (R158). -/
  | releaseRequest
  /-- SETTINGS_SECOND (R161). -/
  | settingsSecond
  /-- PERIODIC_SWEEP (R161): the second at which the sweep count would reach 60. -/
  | periodicSweep
  /-- WARM_START_SWEEP (R161). -/
  | warmStartSweep
  /-- INTEGRITY_TEST_REQUEST (R164). -/
  | integrityTestRequest
  /-- SETTINGS_WARM_START (R166). -/
  | settingsWarmStart
  /-- READ_ASCEND (R171), command 0xB0. -/
  | readAscend (segment : ReadSegment)
  /-- READ_DESCEND (R171), command 0xB1. -/
  | readDescend (segment : ReadSegment)
  /-- READ_HOLD (R171), command 0xB2. -/
  | readHold (segment : ReadSegment)
  /-- READ_LINE_ASCEND (R171), command 0xB3. -/
  | readLineAscend (segment : ReadSegment)
  /-- WRITE_ASCEND (R172), command 0x70. -/
  | writeAscend (segment : WriteSegment)
  /-- WRITE_DESCEND (R172), command 0x71. -/
  | writeDescend (segment : WriteSegment)
  /-- WRITE_HOLD (R172), command 0x72. -/
  | writeHold (segment : WriteSegment)
  /-- WRITE_LINE_ASCEND (R172), command 0x73. -/
  | writeLineAscend (segment : WriteSegment)
  /-- INVALID_COMMAND (R168): the command byte and how many bytes follow it before CSN rises. -/
  | invalidCommand (command : Byte) (count : Nat)
  /-- FRAME_WHILE_CLOSED (R174): how many bytes are clocked, and whether CSN rises after them. -/
  | frameWhileClosed (count : Nat) (last : Bool)
  /-- ACCESS_GRANT (R173). -/
  | accessGrant
  /-- POST (R190). -/
  | post (slot : Fin 8)
  /-- WITHDRAW (R191). -/
  | withdraw (slot : Fin 8)
  /-- RELEASE (R192). -/
  | release (slot : Fin 8)
  /-- NOTICE_CLEAR (R178): the byte written to NOTICE. -/
  | noticeClear (bits : Byte)
  /-- NOTICE_ENABLE (R179): the byte written to NOTICE ENABLE. -/
  | noticeEnable (mask : Byte)
  /-- SEMAPHORE_TAKE (R180): a link read of SEM MIRROR or SEM STAGE. -/
  | semaphoreTake (semaphore : Semaphore)
  /-- SEMAPHORE_GIVE (R181): a link write of a semaphore register. -/
  | semaphoreGive (semaphore : Semaphore) (value : Byte)
  /-- REGISTER_WRITE_OTHER (R176): a link write of an unassigned register address. -/
  | registerWriteOther (address : BitVec 12) (value : Byte)
  /-- EXCHANGE_HOLD_ENTRY (R174). -/
  | exchangeHoldEntry
  /-- EXCHANGE_WARM_START (R182). -/
  | exchangeWarmStart
  /-- ANSWERS_WRITTEN_NEWS (R174). -/
  | answersWrittenNews
  /-- LINK_RESET (R183): LINKRSTN asserted. -/
  | linkReset
  /-- LINKRSTN_RELEASE (R183): LINKRSTN released. -/
  | linkrstnRelease
  /-- SLOT_COPY_DONE (R194). -/
  | slotCopyDone
  /-- OWNER_ANSWER (R197): the order, the result code and the result data. -/
  | ownerAnswer (order : OrderId) (code : ResultCode) (data : ResultData)
  /-- OWNER_PARK (R198): the owner that parks, and the order. -/
  | ownerPark (park : Park)
  /-- RELAY_STATE_REPORT (R198): the state arrived at, and the reason set with it. -/
  | relayStateReport (state : RelayState) (reasons : ReasonSet)
  /-- ANSWER_COMPLETE (R197). -/
  | answerComplete
  /-- STATE_BYTE_WRITTEN (R189). -/
  | stateByteWritten
  /-- ENGINE_HOLD_ENTRY (R201). -/
  | engineHoldEntry
  /-- ENGINE_WARM_START (R202). -/
  | engineWarmStart
  /-- ENGINE_LINK_RESET (R203). -/
  | engineLinkReset
  /-- ENTRY_ARRIVAL (R206). -/
  | entryArrival (entry : Entry)
  /-- ENTRY_HANDLING (R207). -/
  | entryHandling
  /-- ENTRY_WRITTEN (R208). -/
  | entryWritten
  /-- REPORT_HOLD_ENTRY (R209). -/
  | reportHoldEntry
  /-- REPORT_WARM_START (R212). -/
  | reportWarmStart
  /-- BLOCK_COMPLETION_REPORT (R210). -/
  | blockCompletionReport
  /-- PUBLICATION_DUE (R210): the report at which the block count would reach 8. -/
  | publicationDue
  /-- MIRROR_FREED_NEWS (R210). -/
  | mirrorFreedNews
  /-- PUBLICATION_END (R211). -/
  | publicationEnd
  /-- RETENTION_LOSS (R138). -/
  | retentionLoss
  deriving DecidableEq, Repr

end Sys2Proof
end

