-- ==== Sys2Proof/WellFormed.lean ====
section
/-! DEFINITION. The well-formed commands: every operand lies in the range that the manual gives it. -/

namespace Sys2Proof

/-- The greatest magnitude of a product sum, and the greatest voltage sum (R1). -/
def sumLimit : Nat := 500 * 2 ^ 30

/-- A conversion to millivolts (R137, R146, R147). -/
def readingOk (mv : Nat) : Bool := decide (mv ≤ 65535)

/-- The ranges of a block result: U (R10), and a billed energy and magnitudes below 2^40 µWh, as |a_c| < 2^71 gives (R2, R5,
R14). -/
def BlockResult.wellFormed (r : BlockResult) : Bool :=
  decide (r.voltage ≤ 32767) && decide (r.billed < 2 ^ 40) && decide (r.lineMagnitude < 2 ^ 40)
    && decide (r.neutralMagnitude < 2 ^ 40)

/-- A start of a READ segment: without a data byte where CSN rises before the address is complete or the fill byte has been
sent (R169). -/
def ReadSegment.wellFormed (g : ReadSegment) : Bool :=
  match g.start with
  | .short _ => decide (g.count = 0) && g.last
  | .at _ => true
  | .goOn => true

/-- A start of a WRITE segment: a frame with a complete address is no short one (R169). -/
def WriteSegment.wellFormed (g : WriteSegment) : Bool :=
  match g.start with
  | .short k => decide (k.val < 2) && g.data.isEmpty && g.last
  | .at _ => true
  | .goOn => true

/-- The command bytes of READ and WRITE frames (R168). -/
def frameCommand (c : Byte) : Bool := decide (c.toNat / 4 = 0x2C) || decide (c.toNat / 4 = 0x1C)

/-- An unassigned address among or above the link registers (R167, R176). -/
def unassignedRegister (a : Nat) : Bool :=
  decide (0xFC5 ≤ a) && decide (a ≤ 0xFC7) || decide (0xFCA ≤ a) && decide (a ≤ 0xFFF)

/-- The reasons that other units ask for (R89). -/
def Reason.requested : Reason → Bool
  | .credit => true
  | .overVoltage => true
  | .tamper => true
  | .overLimit => false
  | .remote => false

/-- The relay states that the Switch Unit reports (R99). -/
def RelayState.reported : RelayState → Bool
  | .closed => true
  | .open => true
  | .ready => true
  | .stuck => true
  | .opening => false
  | .closing => false

/-- The ranges of an entry's time (R25, R186). -/
def Entry.wellFormed (e : Entry) : Bool := decide (e.time ≤ Config.timeMax)

/-- A command's operands lie in the manual's ranges. -/
def Instr.wellFormed : Instr → Bool
  | .blockCompletion sL sN sV =>
    decide (sL.natAbs ≤ sumLimit) && decide (sN.natAbs ≤ sumLimit) && decide (sV ≤ sumLimit)
  | .calibrationWriteNews _ => true
  | .energyHoldEntry => true
  | .conditionsUnqualifiedNews => true
  | .energyWarmStart => true
  | .secondTick => true
  | .friendlyFlagNews _ => true
  | .calendarWarmStart => true
  | .setTime _ _ => true
  | .newTArrival => true
  | .stagingCopyDone => true
  | .tariffImageArrival _ image => decide (image.length = 256)
  | .newTableArrival _ => true
  | .creditBlockResult r => r.wellFormed
  | .creditSecond => true
  | .emergency _ => true
  | .topUpRequest amount => decide (0 < amount) && decide (amount < 2 ^ 24)
  | .serviceStateNewsCredit _ => true
  | .creditWarmStart => true
  | .enterCode _ digits => decide (digits.length = 24)
  | .keyWriteNews => true
  | .codeWarmStart => true
  | .reasonRequest _ reason => reason.requested
  | .consent _ => true
  | .disconnect _ => true
  | .permit _ => true
  | .coilReadingRequest coil => readingOk coil
  | .coilReading coil => readingOk coil
  | .driveEnd => true
  | .settleEnd => true
  | .loadSenseChange _ => true
  | .stuckRetry => true
  | .switchBlockResult r => r.wellFormed
  | .trip r => r.wellFormed
  | .switchSecond => true
  | .backoffExpiry => true
  | .closedTimeExpiry => true
  | .limitRequest watts => decide (watts ≤ 65535)
  | .switchHoldEntry => true
  | .switchWarmStart => true
  | .lineChange _ _ => true
  | .qualificationTimerExpiry line => decide (line ≠ .magnet)
  | .tamperSecond => true
  | .magnetCountReached => true
  | .tamperBlockResult r => r.wellFormed
  | .clearRequest mask => decide (mask ≠ 0)
  | .clearTamper _ _ => true
  | .actionMaskNews => true
  | .serviceStateNewsTamper => true
  | .tamperHoldEntry => true
  | .tamperWarmStart => true
  | .selfTest _ _ => true
  | .forcedTimerExpiry => true
  | .injectionDeadline => true
  | .tamperLinkReset => true
  | .holdEntry cell => readingOk cell
  | .holdReading cell => readingOk cell
  | .coldStart cell => readingOk cell
  | .warmStart cell => readingOk cell
  | .supervisorBlockResult r => r.wellFormed
  | .overVoltageSet r => r.wellFormed
  | .overVoltageClear r => r.wellFormed
  | .sagCountReached r => r.wellFormed
  | .supervisorSecond coil cell => readingOk coil && readingOk cell
  | .backupReading coil cell => readingOk coil && readingOk cell
  | .writeSetting _ _ _ => true
  | .enterService _ => true
  | .releaseRequest => true
  | .settingsSecond => true
  | .periodicSweep => true
  | .warmStartSweep => true
  | .integrityTestRequest => true
  | .settingsWarmStart => true
  | .readAscend g => g.wellFormed
  | .readDescend g => g.wellFormed
  | .readHold g => g.wellFormed
  | .readLineAscend g => g.wellFormed
  | .writeAscend g => g.wellFormed
  | .writeDescend g => g.wellFormed
  | .writeHold g => g.wellFormed
  | .writeLineAscend g => g.wellFormed
  | .invalidCommand command _ => !frameCommand command
  | .frameWhileClosed _ _ => true
  | .accessGrant => true
  | .post _ => true
  | .withdraw _ => true
  | .release _ => true
  | .noticeClear _ => true
  | .noticeEnable _ => true
  | .semaphoreTake _ => true
  | .semaphoreGive _ _ => true
  | .registerWriteOther address _ => unassignedRegister address.toNat
  | .exchangeHoldEntry => true
  | .exchangeWarmStart => true
  | .answersWrittenNews => true
  | .linkReset => true
  | .linkrstnRelease => true
  | .slotCopyDone => true
  | .ownerAnswer _ _ _ => true
  | .ownerPark _ => true
  | .relayStateReport st _ => st.reported
  | .answerComplete => true
  | .stateByteWritten => true
  | .engineHoldEntry => true
  | .engineWarmStart => true
  | .engineLinkReset => true
  | .entryArrival e => e.wellFormed
  | .entryHandling => true
  | .entryWritten => true
  | .reportHoldEntry => true
  | .reportWarmStart => true
  | .blockCompletionReport => true
  | .publicationDue => true
  | .mirrorFreedNews => true
  | .publicationEnd => true
  | .retentionLoss => true

end Sys2Proof
end

