-- ==== Sys2Proof/Decode.lean ====
section
/-! DEFINITION. The bits of commands. The opcode table gives no row any bits, so no word of it spells a command. The commands
that come over the link have the manual's own encoding, the bytes of a frame (R168, R169): `decodeFrame` reads the bytes of a
whole frame as a command, and `encodeFrame` writes them. -/

namespace Sys2Proof

/-- The command that a word of the opcode table spells: none, for the table gives no bits (notes/assumptions/8.md). -/
def decodeTableWord (_nbits _w : Nat) : Option Instr := none

/-- A READ command of a walk, by the low two bits of its command byte (R168). -/
def readCommand (walk : Nat) (g : ReadSegment) : Instr :=
  match walk with
  | 0 => .readAscend g
  | 1 => .readDescend g
  | 2 => .readHold g
  | _ => .readLineAscend g

/-- A WRITE command of a walk (R168). -/
def writeCommand (walk : Nat) (g : WriteSegment) : Instr :=
  match walk with
  | 0 => .writeAscend g
  | 1 => .writeDescend g
  | 2 => .writeHold g
  | _ => .writeLineAscend g

/-- What follows a READ command byte: the address, the fill byte, the data bytes (R169). -/
def readRest : List Byte → ReadSegment
  | hi :: lo :: _ :: rest => ⟨.at (hi ++ lo), rest.length, true⟩
  | [_, _] => ⟨.short 2, 0, true⟩
  | [_] => ⟨.short 1, 0, true⟩
  | [] => ⟨.short 0, 0, true⟩

/-- What follows a WRITE command byte: the address, the data bytes (R169). -/
def writeRest : List Byte → WriteSegment
  | hi :: lo :: rest => ⟨.at (hi ++ lo), rest, true⟩
  | [_] => ⟨.short 1, [], true⟩
  | [] => ⟨.short 0, [], true⟩

/-- The command of a whole frame's bytes as the host shifts them in (R168, R169). A frame without a byte is none. -/
def decodeFrame : List Byte → Option Instr
  | [] => none
  | c :: rest =>
    if c.toNat / 4 = 0x2C then some (readCommand (c.toNat % 4) (readRest rest))
    else if c.toNat / 4 = 0x1C then some (writeCommand (c.toNat % 4) (writeRest rest))
    else some (.invalidCommand c rest.length)

/-- The high and the low byte of an address (R169). -/
def addressBytes (a : BitVec 16) : List Byte := [a.extractLsb' 8 8, a.extractLsb' 0 8]

/-- The bytes of a whole READ frame. A segment that begins or ends inside a frame has none. -/
def encodeRead (command : Byte) (g : ReadSegment) : Option (List Byte) :=
  if g.last then
    match g.start with
    | .at a => some (command :: addressBytes a ++ List.replicate (g.count + 1) 0)
    | .short k => some (command :: List.replicate k.val 0)
    | .goOn => none
  else none

/-- The bytes of a whole WRITE frame. -/
def encodeWrite (command : Byte) (g : WriteSegment) : Option (List Byte) :=
  if g.last then
    match g.start with
    | .at a => some (command :: addressBytes a ++ g.data)
    | .short k => some (command :: List.replicate k.val 0)
    | .goOn => none
  else none

/-- The bytes of the frame that a command stands for, with 0 for the bytes whose value is ignored (R168, R169). -/
def encodeFrame : Instr → Option (List Byte)
  | .readAscend g => encodeRead 0xB0 g
  | .readDescend g => encodeRead 0xB1 g
  | .readHold g => encodeRead 0xB2 g
  | .readLineAscend g => encodeRead 0xB3 g
  | .writeAscend g => encodeWrite 0x70 g
  | .writeDescend g => encodeWrite 0x71 g
  | .writeHold g => encodeWrite 0x72 g
  | .writeLineAscend g => encodeWrite 0x73 g
  | .invalidCommand command count => some (command :: List.replicate count 0)
  | _ => none

end Sys2Proof
end

