-- ==== Sys2Proof/Machine/SettingsTable.lean ====
section
/-! DEFINITION. The table of the 27 protected settings (08_service_state_and_protected_settings.md, R151): each setting's
id, the width in bytes at which the integrity sweep takes it, its range and its default. -/

namespace Sys2Proof

/-- One row of the table of protected settings: width in bytes, range, default. -/
structure SettingRow where
  width : Nat
  low : Nat
  high : Nat
  default : Nat
  deriving DecidableEq, Repr

/-- The table of protected settings (R151). -/
def SettingId.row : SettingId → SettingRow
  | .meterKey => ⟨8, 0, 18446744073709551615, 0⟩
  | .meterNumber => ⟨4, 0, 4294967295, 0⟩
  | .kL => ⟨4, 0, 4294967295, 0⟩
  | .kN => ⟨4, 0, 4294967295, 0⟩
  | .kV => ⟨2, 0, 65535, 0⟩
  | .creep => ⟨2, 0, 1000, 2⟩
  | .imbT => ⟨1, 1, 63, 8⟩
  | .imbFloor => ⟨2, 0, 65535, 2000⟩
  | .imbBlocks => ⟨1, 8, 240, 40⟩
  | .revFloor => ⟨2, 0, 65535, 2000⟩
  | .bypassFloor => ⟨2, 1, 65535, 500⟩
  | .maskCase => ⟨1, 0, 7, 7⟩
  | .maskTerminal => ⟨1, 0, 7, 7⟩
  | .maskMagnet => ⟨1, 0, 7, 7⟩
  | .maskImbalance => ⟨1, 0, 7, 7⟩
  | .maskReverse => ⟨1, 0, 7, 7⟩
  | .maskBypass => ⟨1, 0, 7, 7⟩
  | .pulseLen => ⟨1, 20, 200, 60⟩
  | .limitHold => ⟨1, 1, 240, 8⟩
  | .limitBackoff => ⟨2, 10, 600, 60⟩
  | .uHigh => ⟨2, 1000, 32767, 2645⟩
  | .uHyst => ⟨2, 0, 999, 100⟩
  | .uLow => ⟨2, 1, 32767, 1955⟩
  | .csMin => ⟨2, 0, 30000, 10800⟩
  | .csNom => ⟨2, 0, 30000, 12000⟩
  | .bcLow => ⟨2, 0, 10000, 3100⟩
  | .bcRetain => ⟨2, 0, 10000, 2700⟩

/-- The settings in the order of their ids, which is the order in which the sweep takes them (R151, R159). -/
def SettingId.all : List SettingId :=
  [.meterKey, .meterNumber, .kL, .kN, .kV, .creep, .imbT, .imbFloor, .imbBlocks,
   .revFloor, .bypassFloor, .maskCase, .maskTerminal, .maskMagnet, .maskImbalance, .maskReverse, .maskBypass, .pulseLen,
   .limitHold, .limitBackoff, .uHigh, .uHyst, .uLow, .csMin, .csNom, .bcLow, .bcRetain]

/-- A setting's place in the table, from 0. Its id is one more (R151). -/
def SettingId.index : SettingId → Fin 27
  | .meterKey => 0
  | .meterNumber => 1
  | .kL => 2
  | .kN => 3
  | .kV => 4
  | .creep => 5
  | .imbT => 6
  | .imbFloor => 7
  | .imbBlocks => 8
  | .revFloor => 9
  | .bypassFloor => 10
  | .maskCase => 11
  | .maskTerminal => 12
  | .maskMagnet => 13
  | .maskImbalance => 14
  | .maskReverse => 15
  | .maskBypass => 16
  | .pulseLen => 17
  | .limitHold => 18
  | .limitBackoff => 19
  | .uHigh => 20
  | .uHyst => 21
  | .uLow => 22
  | .csMin => 23
  | .csNom => 24
  | .bcLow => 25
  | .bcRetain => 26

/-- The setting that an id names; an id of 0 or above 27 names none (R152). -/
def SettingId.ofId (id : Nat) : Option SettingId :=
  if id = 0 then none else SettingId.all[id - 1]?

/-- A setting's id, 1..27 (R151). -/
def SettingId.id (x : SettingId) : Nat := x.index.val + 1

/-- The default values, in the order of the ids: what a cold start leaves (R151). -/
def SettingId.defaults : Vector Nat 27 :=
  #v[0, 0, 0, 0, 0, 2, 8, 2000, 40, 2000, 500, 7, 7, 7, 7, 7, 7, 60, 8, 60, 2645, 100, 1955, 10800, 12000, 3100, 2700]

end Sys2Proof
end

