-- ==== Sys2Proof/Machine/State.lean ====
section
/-! DEFINITION. The state of the part: every piece of state that the chapters give its eleven units, its input lines, the
arrivals that have been sent and not yet taken, and the queue of commands. Plain data. `State.reset` is the part right
after a cold start with every line at rest (the "After cold start" columns; notes/assumptions/5.md). -/

namespace Sys2Proof.Machine

/-- The reasons for which the part stops: none. The manual names no event that stops the machine; every refusal of the part
is an answer, an outcome or a notice, and is a next state. -/
inductive Fault where
  deriving DecidableEq, Repr

/-- Why a command has no meaning. -/
inductive Refusal where
  /-- Raised by an arm of `exec` whose command has no meaning yet; no arm raises it. Safe: a run that would need the
  command stops. -/
  | notModelled (mnemonic : String)
  deriving DecidableEq, Repr

/-! ### Energy Unit (01_energy_measurement.md) -/

/-- One qualification counter with its forcing (R19, R20). -/
structure Qualifier where
  count : Nat
  forced : Bool
  forcedCount : Nat
  deriving DecidableEq, Repr

/-- The Energy Unit's state (R5, R8, R11, R12, R19, R20). -/
structure Energy where
  rL : Nat
  rN : Nat
  billed : BitVec 64
  forward : BitVec 64
  reverse : BitVec 64
  settling : Bool
  imbalance : Qualifier
  reverseFlow : Qualifier
  bypass : Qualifier
  power : Nat
  voltage : Nat
  deriving DecidableEq, Repr

/-! ### Calendar Unit (02_meter_time_and_the_tariff_table.md) -/

/-- A switch point: from its second onward its band is in force (R29, R32). -/
structure SwitchPoint where
  second : Nat
  band : Fin 4
  deriving DecidableEq, Repr

/-- A friendly window (R31, R32). -/
structure Window where
  start : Nat
  stop : Nat
  mask : BitVec 7
  deriving DecidableEq, Repr

/-- The tariff table (R32). -/
structure Tariff where
  rates : Vector Nat 4
  workday : List SwitchPoint
  restDay : List SwitchPoint
  windows : List Window
  w0 : Nat
  restMask : BitVec 7
  sc : Nat
  lowT : Nat
  df : Nat
  ec : Nat
  deriving DecidableEq, Repr

/-- The Calendar Unit's state. -/
structure Calendar where
  t : Nat
  allowance : Nat
  allowanceDay : Nat
  table : Tariff
  adopted : Bool
  band : Fin 4
  friendly : Bool
  deriving DecidableEq, Repr

/-! ### Credit Unit (03_credit_accounting.md) -/

/-- The Credit Unit's state. -/
structure Credit where
  c : Int
  q : Nat
  hLast : Nat
  b : BitVec 64
  ea : Bool
  em : Bool
  state : CreditState
  friendlyView : Bool
  serviceView : ServiceState
  requested : Bool
  deferral : Bool
  deriving DecidableEq, Repr

/-! ### Code Unit (04_top_up_codes.md) -/

/-- An evaluation that waits until an owner has taken its request (R67, R77, R78). -/
structure Evaluation where
  order : OrderId
  cls : Nat
  serial : Nat
  amount : Nat
  deriving DecidableEq, Repr

/-- The Code Unit's state. -/
structure Code where
  used : List Nat
  floor : Nat
  failures : Nat
  lockoutEnd : Option Nat
  evaluation : Option Evaluation
  deriving DecidableEq, Repr

/-! ### Switch Unit (05_supply_switch.md) -/

/-- The phases of an operation (R95 to R98), with the milliseconds that have run and, for DRIVE, the PULSE_LEN that stood
when the phase began (R97). -/
inductive OpPhase where
  | coilWait
  | drive (elapsed length : Nat)
  | settle (elapsed : Nat)
  deriving DecidableEq, Repr

/-- Where an operation comes from (R95). -/
inductive OpOrigin where
  | ordinary
  | stuckRetry
  deriving DecidableEq, Repr

/-- The operation record (R95). -/
structure Operation where
  direction : OpDirection
  phase : OpPhase
  attempt : Nat
  duty : Option Nat
  reverse : Bool
  origin : OpOrigin
  deriving DecidableEq, Repr

/-- The Switch Unit's state. `hold` is set from its HOLD entry until its re-sense (R111, R112). -/
structure Switch where
  relay : RelayState
  operation : Option Operation
  reasons : ReasonSet
  consent : Bool
  sensedClosed : Bool
  pLim : Nat
  limitRun : Nat
  trips : Nat
  mode : LimitMode
  backoff : Nat
  closedTime : Nat
  stuckWait : Nat
  lastDuty : Nat
  coilWait : Bool
  hold : Bool
  deriving DecidableEq, Repr

/-! ### Tamper Unit (06_tamper_detection.md) -/

/-- The stages of a line (R115). -/
inductive Stage where
  | normal
  | pending
  | qualified
  deriving DecidableEq, Repr

/-- A line's stage and its timer: milliseconds for CASE and TERMINAL, delivered seconds for MAGNET (R115, R116). -/
structure LineStage where
  stage : Stage
  timer : Nat
  deriving DecidableEq, Repr

/-- The standby mark: the time of the first standby occurrence of the HOLD and their number (R126). -/
structure StandbyMark where
  time : Nat
  number : Nat
  deriving DecidableEq, Repr

/-- A source record (R118, R126). -/
structure SourceRecord where
  latch : Bool
  active : Bool
  count : Nat
  first : Nat
  last : Nat
  standby : Option StandbyMark
  deriving DecidableEq, Repr

/-- A block report (R117) with the two journal values of the block result that qualified it (R119). -/
structure BlockReport where
  qualified : Bool
  valueA : Nat
  valueB : Nat
  deriving DecidableEq, Repr

/-- The injection record (R128, R129), with the parked order. -/
structure Injection where
  target : Source
  deadline : Nat
  timer : Nat
  stage : Stage
  forcedTimer : Nat
  order : OrderId
  deriving DecidableEq, Repr

/-- The Tamper Unit's state. `hold` is set from its HOLD entry until its warm start (R125, R127). -/
structure Tamper where
  records : Vector SourceRecord 6
  caseLine : LineStage
  terminalLine : LineStage
  magnetLine : LineStage
  imbalance : BlockReport
  reverseFlow : BlockReport
  bypass : BlockReport
  requested : Bool
  injection : Option Injection
  integrityTest : Option OrderId
  hold : Bool
  deriving DecidableEq, Repr

/-! ### Supply Supervisor (07_supervision_and_power_states.md) -/

/-- The power states (R135). -/
inductive Power where
  | run
  | hold
  deriving DecidableEq, Repr

/-- The Supply Supervisor's state. A `holdTimer` of 60 is a HOLD reading that is due (R137), or
was due when a warm start was taken (notes/assumptions/24.md). -/
structure Supply where
  power : Power
  retention : Bool
  holdStart : Nat
  holdTimer : Nat
  doubt : Bool
  overVoltage : Bool
  overVoltageCount : Nat
  sag : Bool
  sagCount : Nat
  backupLow : Bool
  backupCount : Nat
  deriving DecidableEq, Repr

/-! ### Settings Unit (08_service_state_and_protected_settings.md) -/

/-- The unit that depends on a setting written and is told of it (R154). -/
inductive Neighbour where
  | energy
  | code
  | tamper
  deriving DecidableEq, Repr

/-- An arrival of the Settings Unit that waits until its neighbours have taken its news: a write (R154), or a change of the
service state by an order or, with none, by a release request (R155). -/
inductive SettingsWait where
  | write (order : OrderId) (id : SettingId) (clamped : Bool) (applied : Nat) (awaits : Neighbour)
  | service (credit tamper : Bool) (order : Option OrderId)
  deriving DecidableEq, Repr

/-- The Settings Unit's state. -/
structure Settings where
  values : Vector Nat 27
  keySet : Bool
  checkWord : BitVec 16
  service : ServiceState
  fault : Bool
  forcedMismatch : Bool
  sweepCount : Nat
  waiting : Option SettingsWait
  deriving DecidableEq, Repr

/-! ### Exchange Unit (09_exchange_memory_and_the_link.md) -/

/-- The exchange memory: the bytes that differ from what the cold start leaves, by rising address (R167, R184). -/
abbrev Memory := List Host.Cell

/-- The eight notices, at their bits of the notice word (R175). -/
inductive Notice where
  | answer
  | journal
  | mirror
  | tamper
  | relay
  | credit
  | fault
  | link
  deriving DecidableEq, Repr

/-- The link states (R174). -/
inductive LinkState where
  | closed
  | open
  deriving DecidableEq, Repr

/-- How a frame's address moves (R170). -/
inductive Walk where
  | ascend
  | descend
  | hold
  | lineAscend
  deriving DecidableEq, Repr

/-- The frame's current word (R171, R172): none, a fetched word, or the bytes gathered for a word, by address. -/
inductive CurrentWord where
  | none
  | fetched (word : Nat) (bytes : List Byte)
  | gathered (word : Nat) (bytes : List Host.Cell)
  deriving DecidableEq, Repr

/-- The frame record in its data phase (R168). -/
structure Frame where
  write : Bool
  walk : Walk
  address : BitVec 12
  word : CurrentWord
  deriving DecidableEq, Repr

/-- The holders of a semaphore (R180). -/
inductive Holder where
  | none
  | link
  | internal
  deriving DecidableEq, Repr

/-- A word access of the link: a fetch, or a write of the gathered bytes that remain (R171, R172). -/
inductive LinkAccess where
  | fetch (word : Nat)
  | store (bytes : List Host.Cell)
  deriving DecidableEq, Repr

/-- The Exchange Unit's state. `ignoring`: CSN is low on a frame that is not served; `hold`: from its HOLD entry until its
warm start; `answersTold`: the Order Engine has told that its warm-start answers are written (R174); `resetPending`: a link
reset's eight state bytes are not all written (R183); `miso`: the bytes the host saw in the latest frame. -/
structure Exchange where
  mem : Memory
  link : LinkState
  frame : Option Frame
  ignoring : Bool
  notices : BitVec 8
  enable : BitVec 8
  mirrorHolder : Holder
  stageHolder : Holder
  linkRequest : Option LinkAccess
  hold : Bool
  answersTold : Bool
  resetPending : Bool
  miso : List Byte
  deriving DecidableEq, Repr

/-! ### Order Engine (10_orders.md) -/

/-- The slot states (R189). -/
inductive SlotState where
  | free
  | posted
  | taken
  | done
  deriving DecidableEq, Repr

/-- The phases of the current order (10_orders.md). -/
inductive OrderPhase where
  | copying
  | withOwner
  | answering
  deriving DecidableEq, Repr

/-- The current order; `bytes` are the bytes of the slot copied so far: kind, state byte, tag, arguments (R194). -/
structure CurrentOrder where
  id : OrderId
  bytes : List Byte
  phase : OrderPhase
  abandoned : Bool
  deriving DecidableEq, Repr

/-- A parked order (R198). -/
structure ParkedOrder where
  id : OrderId
  kind : Nat
  deriving DecidableEq, Repr

/-- The items of the work list (R196). -/
inductive WorkItem where
  | copy (slot : Fin 8)
  | staging
  | answer (slot : Fin 8) (code : ResultCode) (data : ResultData)
  | state (slot : Fin 8)
  deriving DecidableEq, Repr

/-- The engine modes (R201). -/
inductive EngineMode where
  | running
  | stopped
  deriving DecidableEq, Repr

/-- The Order Engine's state. `granted` counts the accesses granted of the item at the head of the work list; `staged` holds
the bytes of the staging area copied so far; `hold` is set from its HOLD entry until its warm start, while no item is
performed; `resetWriting` while a link reset's state items are being written; `takes`, the model's own, counts the takes, and its count
names the next order (notes/assumptions/47.md). -/
structure Engine where
  slots : Vector SlotState 8
  current : Option CurrentOrder
  parked : List ParkedOrder
  work : List WorkItem
  granted : Nat
  staged : List Byte
  mode : EngineMode
  hold : Bool
  resetWriting : Bool
  takes : Nat
  deriving DecidableEq, Repr

/-! ### Report Unit (11_journal_and_status_mirror.md) -/

/-- How far the journal writer is with the entry in hand: waiting for its read of the read index (R207), writing its bytes
with some accesses granted (R208), or stopped by a HOLD entry (R209), `withLoss` where the OVERFLOW entry of a queue loss
was cut short. -/
inductive WriterStage where
  | reading
  | writing (bytes : List Byte) (granted : Nat)
  | stopped (withLoss : Bool)
  deriving DecidableEq, Repr

/-- The journal writer's work: the entry in hand, with the OVERFLOW entry of a queue loss before it (R206), and the overflow
state and loss mark when it began the entry at the head (R209). -/
structure Writer where
  entries : List Entry
  stage : WriterStage
  savedOverflow : Bool
  savedLoss : Option Nat
  deriving DecidableEq, Repr

/-- A publication being written: its 128 collected bytes and the words granted (R211). -/
structure Publication where
  bytes : List Byte
  granted : Nat
  deriving DecidableEq, Repr

/-- The Report Unit's state. `hold` is set from its HOLD entry until its warm start (R209, R212). -/
structure Report where
  queue : List Entry
  loss : Option Nat
  writer : Option Writer
  w : Nat
  p : Nat
  seq : BitVec 16
  overflow : Bool
  blockCount : Nat
  pubCount : BitVec 32
  pendingPub : Bool
  publishing : Bool
  publication : Option Publication
  hold : Bool
  deriving DecidableEq, Repr

/-! ### The whole part -/

/-- The input lines as they stand (00_scope.md, Signals): `true` is open, asserted or energised. -/
structure Pins where
  caseOpen : Bool
  terminalOpen : Bool
  magnetOn : Bool
  loadSense : Bool
  supplyFail : Bool
  linkrstn : Bool
  deriving DecidableEq, Repr

/-- The state of the part. `inFlight`: the arrivals sent and not yet taken, oldest first (notes/assumptions/1.md).
`pending`: the commands that wait, first in first out. -/
structure State where
  energy : Energy
  calendar : Calendar
  credit : Credit
  code : Code
  switch : Switch
  tamper : Tamper
  supply : Supply
  settings : Settings
  exchange : Exchange
  engine : Engine
  report : Report
  pins : Pins
  inFlight : List Instr
  pending : List Instr
  deriving DecidableEq, Repr

/-- What a step answers. -/
abbrev Outcome := Host.Outcome State Fault Refusal

/-- R23. -/
def Energy.cold : Energy :=
  { rL := 0, rN := 0, billed := 0, forward := 0, reverse := 0, settling := true,
    imbalance := ⟨0, false, 0⟩, reverseFlow := ⟨0, false, 0⟩, bypass := ⟨0, false, 0⟩, power := 0, voltage := 0 }

/-- The table after a cold start (R32). -/
def Tariff.cold : Tariff :=
  { rates := #v[0, 0, 0, 0], workday := [⟨0, 0⟩], restDay := [⟨0, 0⟩], windows := [], w0 := 0, restMask := 0,
    sc := 0, lowT := 0, df := 0, ec := 0 }

/-- R27, R32, R37. -/
def Calendar.cold : Calendar :=
  { t := 0, allowance := 900, allowanceDay := 0, table := Tariff.cold, adopted := false, band := 0, friendly := false }

/-- R65. -/
def Credit.cold : Credit :=
  { c := 0, q := 0, hLast := 0, b := 0, ea := true, em := false, state := .exhausted, friendlyView := false,
    serviceView := .commissioning, requested := false, deferral := false }

/-- R87. -/
def Code.cold : Code :=
  { used := [], floor := 0, failures := 0, lockoutEnd := none, evaluation := none }

/-- R110, with the load side not energised: DESIGN CHOICE, notes/assumptions/5.md. -/
def Switch.cold : Switch :=
  { relay := .ready, operation := none, reasons := ReasonSet.empty, consent := true, sensedClosed := false, pLim := 0,
    limitRun := 0, trips := 0, mode := .none, backoff := 0, closedTime := 0, stuckWait := 0, lastDuty := 0,
    coilWait := false, hold := false }

/-- A source record after a cold start (R134). -/
def SourceRecord.cold : SourceRecord :=
  { latch := false, active := false, count := 0, first := 0, last := 0, standby := none }

/-- R134. -/
def Tamper.cold : Tamper :=
  { records := #v[SourceRecord.cold, SourceRecord.cold, SourceRecord.cold, SourceRecord.cold, SourceRecord.cold,
      SourceRecord.cold],
    caseLine := ⟨.normal, 0⟩, terminalLine := ⟨.normal, 0⟩, magnetLine := ⟨.normal, 0⟩,
    imbalance := ⟨false, 0, 0⟩, reverseFlow := ⟨false, 0, 0⟩, bypass := ⟨false, 0, 0⟩,
    requested := false, injection := none, integrityTest := none, hold := false }

/-- R149. -/
def Supply.cold : Supply :=
  { power := .run, retention := true, holdStart := 0, holdTimer := 0, doubt := false, overVoltage := false,
    overVoltageCount := 0, sag := false, sagCount := 0, backupLow := false, backupCount := 0 }

/-- R166; the check word is the CRC of R159 over the defaults (theorem test_reset_check_word). -/
def Settings.cold : Settings :=
  { values := SettingId.defaults, keySet := false, checkWord := 0xE48A, service := .commissioning, fault := false,
    forcedMismatch := false, sweepCount := 0, waiting := none }

/-- R184; the header is what an unlisted address reads as. -/
def Exchange.cold : Exchange :=
  { mem := [], link := .open, frame := none, ignoring := false, notices := 0, enable := 0, mirrorHolder := .none,
    stageHolder := .none, linkRequest := none, hold := false, answersTold := true, resetPending := false, miso := [] }

/-- R205. -/
def Engine.cold : Engine :=
  { slots := #v[.free, .free, .free, .free, .free, .free, .free, .free], current := none, parked := [], work := [],
    granted := 0, staged := [], mode := .running, hold := false, resetWriting := false, takes := 0 }

/-- R209, R212. -/
def Report.cold : Report :=
  { queue := [], loss := none, writer := none, w := 0, p := 0, seq := 0, overflow := false, blockCount := 0,
    pubCount := 0, pendingPub := false, publishing := false, publication := none, hold := false }

/-- Every line at rest: DESIGN CHOICE, notes/assumptions/5.md. -/
def Pins.rest : Pins :=
  { caseOpen := false, terminalOpen := false, magnetOn := false, loadSense := false, supplyFail := false,
    linkrstn := false }

/-- The part right after a cold start with every line at rest. -/
def State.reset : State :=
  { energy := Energy.cold, calendar := Calendar.cold, credit := Credit.cold, code := Code.cold, switch := Switch.cold,
    tamper := Tamper.cold, supply := Supply.cold, settings := Settings.cold, exchange := Exchange.cold,
    engine := Engine.cold, report := Report.cold, pins := Pins.rest, inFlight := [], pending := [] }

end Sys2Proof.Machine
end

