-- ==== Sys2Proof/Machine/Ops.lean ====
section
/-! DEFINITION. The shared operations over the state: one update per unit, the arrivals in flight, notices, journal entries
and answers, the exchange memory, the protected settings, the reason set and the source records, and the two pieces of
arithmetic that several chapters use (the integer square root of R10 and the check of R70 and R159). -/

namespace Sys2Proof

/-! ### Operands: arrivals, reasons, sources -/

/-- The arrival that a command takes, as it stands in flight: a row that names one case of an arrival (TRIP, BACKOFF_EXPIRY,
…) takes that arrival, and a reading that is made when the arrival is taken is no part of what was sent. -/
def Instr.sentForm : Instr → Instr
  | .trip r => .switchBlockResult r
  | .stuckRetry => .switchSecond
  | .backoffExpiry => .switchSecond
  | .closedTimeExpiry => .switchSecond
  | .magnetCountReached => .tamperSecond
  | .overVoltageSet r => .supervisorBlockResult r
  | .overVoltageClear r => .supervisorBlockResult r
  | .sagCountReached r => .supervisorBlockResult r
  | .supervisorSecond _ _ => .supervisorSecond 0 0
  | .backupReading _ _ => .supervisorSecond 0 0
  | .coilReadingRequest _ => .coilReadingRequest 0
  | .periodicSweep => .settingsSecond
  | .publicationDue => .blockCompletionReport
  | c => c

/-- Whether a reason is in the set (R89). -/
def ReasonSet.has (r : ReasonSet) : Reason → Bool
  | .credit => r.credit
  | .overLimit => r.overLimit
  | .overVoltage => r.overVoltage
  | .tamper => r.tamper
  | .remote => r.remote

/-- Puts a reason into the set or takes it out (R89). -/
def ReasonSet.set (r : ReasonSet) (x : Reason) (v : Bool) : ReasonSet :=
  match x with
  | .credit => { r with credit := v }
  | .overLimit => { r with overLimit := v }
  | .overVoltage => { r with overVoltage := v }
  | .tamper => { r with tamper := v }
  | .remote => { r with remote := v }

/-- Whether no reason is in the set. -/
def ReasonSet.isEmpty (r : ReasonSet) : Bool :=
  !(r.credit || r.overLimit || r.overVoltage || r.tamper || r.remote)

/-- A source's number (R114). -/
def Source.index : Source → Fin 6
  | .case => 0
  | .terminal => 1
  | .magnet => 2
  | .imbalance => 3
  | .reverse => 4
  | .bypass => 5

/-- The sources in number order (R114). -/
def Source.all : List Source := [.case, .terminal, .magnet, .imbalance, .reverse, .bypass]

/-- The source that a number names (R114). -/
def Source.ofNumber (n : Nat) : Option Source := Source.all[n]?

/-- The setting that holds a source's action mask (R151). -/
def Source.maskSetting : Source → SettingId
  | .case => .maskCase
  | .terminal => .maskTerminal
  | .magnet => .maskMagnet
  | .imbalance => .maskImbalance
  | .reverse => .maskReverse
  | .bypass => .maskBypass

end Sys2Proof

namespace Sys2Proof.Machine

/-! ### One update per unit -/

def State.onEnergy (s : State) (f : Energy → Energy) : State := { s with energy := f s.energy }
def State.onCalendar (s : State) (f : Calendar → Calendar) : State := { s with calendar := f s.calendar }
def State.onCredit (s : State) (f : Credit → Credit) : State := { s with credit := f s.credit }
def State.onCode (s : State) (f : Code → Code) : State := { s with code := f s.code }
def State.onSwitch (s : State) (f : Switch → Switch) : State := { s with switch := f s.switch }
def State.onTamper (s : State) (f : Tamper → Tamper) : State := { s with tamper := f s.tamper }
def State.onSupply (s : State) (f : Supply → Supply) : State := { s with supply := f s.supply }
def State.onSettings (s : State) (f : Settings → Settings) : State := { s with settings := f s.settings }
def State.onExchange (s : State) (f : Exchange → Exchange) : State := { s with exchange := f s.exchange }
def State.onEngine (s : State) (f : Engine → Engine) : State := { s with engine := f s.engine }
def State.onReport (s : State) (f : Report → Report) : State := { s with report := f s.report }
def State.onPins (s : State) (f : Pins → Pins) : State := { s with pins := f s.pins }

/-! ### Arrivals in flight -/

/-- A unit sends an arrival: it joins the arrivals in flight. -/
def State.send (s : State) (c : Instr) : State := { s with inFlight := s.inFlight ++ [c] }

/-- The command `c` takes its arrival: the oldest like it leaves the arrivals in flight. -/
def State.took (s : State) (c : Instr) : State := { s with inFlight := s.inFlight.erase c.sentForm }

/-- The arrivals that `drop` names and that stand before the first `stop` are never taken (R136). -/
def discardBefore (stop : Instr) (drop : Instr → Bool) : List Instr → List Instr
  | [] => []
  | c :: cs => if c = stop then c :: cs else if drop c then discardBefore stop drop cs else c :: discardBefore stop drop cs

/-- A unit drops what was in flight to it when its HOLD entry was made (R136). -/
def State.dropStale (s : State) (stop : Instr) (drop : Instr → Bool) : State :=
  { s with inFlight := discardBefore stop drop s.inFlight }

/-- The orders whose owner takes them in RUN alone: a code (R67, R88), a set of the time (R37), a tariff image (R47) and an entry
into service (R60); see notes/assumptions/31.md for the orders of the other kinds. -/
def Instr.runOrder : Instr → Bool
  | .enterCode _ _ => true
  | .setTime _ _ => true
  | .tariffImageArrival _ _ => true
  | .enterService _ => true
  | _ => false

/-- Such an order is begun only in RUN, and not while a HOLD entry is on its way to the engine that handed it over: the order then
stays taken, unevaluated, and is answered ABORTED at the warm start (R37, R42, R47, R57, R60, R67, R88). -/
def State.takesRunOrders (s : State) : Bool :=
  decide (s.supply.power = .run) && decide (Instr.engineHoldEntry ∉ s.inFlight)

/-! ### Notices, entries and answers -/

/-- The bit of a notice (R175). -/
def Notice.bit : Notice → Nat
  | .answer => 0
  | .journal => 1
  | .mirror => 2
  | .tamper => 3
  | .relay => 4
  | .credit => 5
  | .fault => 6
  | .link => 7

/-- A notice is set; setting it again leaves it set (R178). -/
def State.raise (s : State) (n : Notice) : State :=
  s.onExchange fun x => { x with notices := x.notices ||| BitVec.ofNat 8 (2 ^ n.bit) }

/-- An owner sends the Report Unit an entry made now (R186, R206). -/
def State.journal (s : State) (e : Event) : State := s.send (.entryArrival ⟨s.calendar.t, e⟩)

/-- An owner sends the Report Unit an entry that names another time (R186). -/
def State.journalAt (s : State) (t : Nat) (e : Event) : State := s.send (.entryArrival ⟨t, e⟩)

/-- An owner answers an order (R197). -/
def State.answer (s : State) (order : OrderId) (code : ResultCode) (data : ResultData) : State :=
  s.send (.ownerAnswer order code data)

/-! ### The exchange memory -/

/-- What an address reads as when nothing is listed for it: what the cold start leaves there, which is 0 everywhere but in the
header's layout mark 0x0201, ring capacity 48 and entry size 16 (R184). -/
def Memory.unlisted (a : Nat) : Byte :=
  if a = 0 then 0x02 else if a = 1 then 0x01 else if a = 2 then 48 else if a = 3 then 16 else 0

/-- The byte at an address. -/
def Memory.read : Memory → Nat → Byte
  | [], a => Memory.unlisted a
  | (x, v) :: m, a => if a = x then v else Memory.read m a

/-- The byte `b` at `a` before the rest `m`, left out where an unlisted address reads so. -/
def Memory.put (m : Memory) (a : Nat) (b : Byte) : Memory :=
  if b = Memory.unlisted a then m else (a, b) :: m

/-- Writes one byte and keeps the canonical form. -/
def Memory.write : Memory → Nat → Byte → Memory
  | [], a, b => Memory.put [] a b
  | (x, v) :: m, a, b =>
    if a < x then Memory.put ((x, v) :: m) a b
    else if a = x then Memory.put m a b
    else (x, v) :: Memory.write m a b

/-- Writes listed bytes, first to last. -/
def Memory.writeAll (m : Memory) : List Host.Cell → Memory
  | [] => m
  | (a, b) :: cs => Memory.writeAll (Memory.write m a b) cs

/-- Writes consecutive bytes from an address upward. -/
def Memory.writeFrom (m : Memory) (a : Nat) : List Byte → Memory
  | [] => m
  | b :: bs => Memory.writeFrom (Memory.write m a b) (a + 1) bs

/-- The four bytes of a word: the aligned group that begins at `4 * w` (R167). -/
def Memory.readWord (m : Memory) (w : Nat) : List Byte :=
  [Memory.read m (4 * w), Memory.read m (4 * w + 1), Memory.read m (4 * w + 2), Memory.read m (4 * w + 3)]

/-- The canonical form from `low` upward: addresses strictly rising, no entry equal to what its address reads as unlisted. -/
def Memory.wfFrom : Nat → Memory → Bool
  | _, [] => true
  | low, (a, b) :: m => decide (low ≤ a) && b != Memory.unlisted a && Memory.wfFrom (a + 1) m

/-- The canonical form of the exchange memory. -/
def Memory.wf (m : Memory) : Bool := Memory.wfFrom 0 m

/-- A write access of one of the part's writers (R173). -/
def State.store (s : State) (a : Nat) (bytes : List Byte) : State :=
  s.onExchange fun x => { x with mem := Memory.writeFrom x.mem a bytes }

/-! ### Protected settings and source records -/

/-- A setting as it stands (R151). -/
def State.setting (s : State) (x : SettingId) : Nat := s.settings.values[x.index]

/-- A source's record. -/
def Tamper.record (x : Tamper) (i : Source) : SourceRecord := x.records[i.index]

/-- Replaces a source's record. -/
def Tamper.setRecord (x : Tamper) (i : Source) (r : SourceRecord) : Tamper :=
  { x with records := x.records.set i.index r }

/-! ### Semaphores -/

/-- The holder of a semaphore (R180). -/
def Exchange.holder (x : Exchange) : Semaphore → Holder
  | .mirror => x.mirrorHolder
  | .stage => x.stageHolder

/-- Sets the holder of a semaphore. -/
def Exchange.setHolder (x : Exchange) (m : Semaphore) (h : Holder) : Exchange :=
  match m with
  | .mirror => { x with mirrorHolder := h }
  | .stage => { x with stageHolder := h }

/-! ### Arithmetic -/

/-- The square root built from its bit `k` downward. -/
def isqrtBits : Nat → Nat → Nat → Nat
  | 0, _, r => r
  | k + 1, n, r => isqrtBits k n (if (r + 2 ^ k) * (r + 2 ^ k) ≤ n then r + 2 ^ k else r)

/-- isqrt(x): the greatest integer whose square does not exceed x (00_scope.md, Units and conventions). -/
def isqrt (n : Nat) : Nat := isqrtBits (Nat.log2 n / 2 + 1) n 0

/-- `x` brought into `low..high`. -/
def clampInt (low high x : Int) : Int := if x < low then low else if high < x then high else x

/-- One bit of the check: the register's top bit is compared with the input bit, the register shifts left, and 0x1021 is
combined where the two differ (R70). -/
def crcBit (reg : BitVec 16) (bit : Bool) : BitVec 16 :=
  if reg.msb != bit then (reg <<< 1) ^^^ 0x1021#16 else reg <<< 1

/-- One byte of the check, from its most significant bit to its least (R70). -/
def crcByte (reg : BitVec 16) (b : Byte) : BitVec 16 :=
  [7, 6, 5, 4, 3, 2, 1, 0].foldl (fun r i => crcBit r (b.getLsbD i)) reg

/-- The check of R70 and R159: polynomial 0x1021, preset 0xFFFF, no inversion. -/
def crc16 (bytes : List Byte) : BitVec 16 := bytes.foldl crcByte 0xFFFF#16

end Sys2Proof.Machine
end

