-- ==== Sys2Proof/Machine/Operands.lean ====
section
/-! DEFINITION. Every byte layout of the manual (09_exchange_memory_and_the_link.md, Layouts): numbers as bytes, the memory
map and its owners, the walks, the slot's arguments and result data, the journal entry, the status mirror and the tariff
image. Fields are most significant byte first and signed fields two's complement. -/

namespace Sys2Proof

/-! ### Numbers as bytes -/

/-- `n` bytes of `v`, most significant first. -/
def beBytes : Nat → Nat → List Byte
  | 0, _ => []
  | n + 1, v => BitVec.ofNat 8 (v / 256 ^ n) :: beBytes n v

/-- The number that bytes spell, most significant first. -/
def beNat (bytes : List Byte) : Nat := bytes.foldl (fun a b => a * 256 + b.toNat) 0

/-- `n` bytes of a signed number, two's complement. -/
def signedBytes (n : Nat) (x : Int) : List Byte := beBytes n (x % (256 ^ n : Nat)).toNat

/-- An unsigned value in `n` bytes, written as the greatest the field holds where it is too large (R186, R187). -/
def cappedBytes (n v : Nat) : List Byte := beBytes n (min v (256 ^ n - 1))

/-- A signed value in `n` bytes, written as the greatest or the least the field holds where it lies outside (R186). -/
def cappedSigned (n : Nat) (x : Int) : List Byte :=
  signedBytes n (if x < -(256 ^ n / 2 : Nat) then -(256 ^ n / 2 : Nat) else if (256 ^ n / 2 : Nat) ≤ x then (256 ^ n / 2 : Nat) - 1 else x)

/-- A flag as a number: 1 set, 0 clear (R185). -/
def flagNat (b : Bool) : Nat := if b then 1 else 0

/-- One byte holding a number. -/
def byteOf (n : Nat) : Byte := BitVec.ofNat 8 n

/-! ### Enumerated values (R185, R199, R86) -/

def RelayState.number : RelayState → Nat
  | .closed => 0
  | .opening => 1
  | .open => 2
  | .ready => 3
  | .closing => 4
  | .stuck => 5

def ReasonSet.number (r : ReasonSet) : Nat :=
  flagNat r.credit + 2 * flagNat r.overLimit + 4 * flagNat r.overVoltage + 8 * flagNat r.tamper + 16 * flagNat r.remote

def CreditState.number : CreditState → Nat
  | .normal => 0
  | .low => 1
  | .emergency => 2
  | .exhausted => 3

def ServiceState.number : ServiceState → Nat
  | .commissioning => 0
  | .inService => 1

def CreditCause.number : CreditCause → Nat
  | .block => 0
  | .hour => 1
  | .topUp => 2
  | .emergency => 3
  | .tariff => 4

def LimitMode.number : LimitMode → Nat
  | .none => 0
  | .backoff => 1
  | .lockout => 2

def OpDirection.number : OpDirection → Nat
  | .opening => 0
  | .closing => 1

def IntegrityMark.number : IntegrityMark → Nat
  | .clear => 0
  | .set => 1
  | .test => 2

def Channel.number : Channel → Nat
  | .line => 0
  | .neutral => 1

def CodeOutcome.number : CodeOutcome → Nat
  | .accepted => 0
  | .lockedOut => 1
  | .malformed => 2
  | .keyFault => 3
  | .badCheck => 4
  | .wrongMeter => 5
  | .unknownClass => 6
  | .used => 7
  | .invalidAmount => 8
  | .wrongState => 9
  | .overCap => 10

def ResultCode.number : ResultCode → Nat
  | .ok => 0
  | .refusedLocked => 1
  | .wrongState => 2
  | .badArgument => 3
  | .stageHeld => 4
  | .aborted => 5
  | .unknownKind => 6
  | .failed => 7

/-! ### Result data (R185) -/

/-- The first bytes of a field of `n`, the rest 0. -/
def padTo (n : Nat) (bytes : List Byte) : List Byte := (bytes ++ List.replicate n 0).take n

/-- The fields that an answer carries, from offset 42 of the slot. -/
def ResultData.fields : ResultData → List Byte
  | .none => []
  | .noneOfTamper => []
  | .code o cls serial amount balance lockout =>
    [byteOf o.number, byteOf cls] ++ beBytes 3 serial ++ beBytes 3 amount ++ signedBytes 8 balance ++ beBytes 2 lockout
  | .relay st r => [byteOf st.number, byteOf r.number]
  | .emergency st ea em c => [byteOf st.number, byteOf (flagNat ea), byteOf (flagNat em)] ++ signedBytes 8 c
  | .setTime req app rem => signedBytes 8 req ++ signedBytes 8 app ++ beBytes 2 rem
  | .tariffRefused number index => [byteOf number, byteOf index]
  | .tariffAdopted band friendly => [0, 0, byteOf band.val, byteOf (flagNat friendly)]
  | .setting x clamped fault applied =>
    [byteOf x.id, byteOf (flagNat clamped), byteOf (flagNat fault), 0, 0, 0] ++ beBytes 8 applied
  | .item n => [byteOf n]
  | .clearTamper mask latches => [byteOf mask.toNat, byteOf latches.toNat]
  | .target n => [byteOf n]
  | .testOk n timer t => [byteOf n] ++ beBytes 4 timer ++ beBytes 4 t
  | .testFailed n deadline => [byteOf n] ++ beBytes 4 deadline
  | .integrityTest m => [6, 0, 0, 0, 0, 0, 0, 0, 0, byteOf (flagNat m)]

/-- The 24 bytes of result code and result data; every byte the answer does not fill is 0 (R185, R197). -/
def answerBytes (code : ResultCode) (data : ResultData) : List Byte :=
  beBytes 2 code.number ++ padTo 22 data.fields

/-! ### Journal entries (R186) -/

/-- The kind of an entry. -/
def Event.kind : Event → Nat
  | .tamper .. => 1
  | .tamperCleared .. => 2
  | .code .. => 3
  | .lockout .. => 4
  | .credit .. => 5
  | .emergency .. => 6
  | .relay .. => 7
  | .relayFault .. => 8
  | .overLimit .. => 9
  | .overVoltage .. => 10
  | .sag .. => 11
  | .backupLow .. => 12
  | .time .. => 13
  | .tariff .. => 14
  | .service .. => 15
  | .integrity .. => 16
  | .power .. => 17
  | .overflow .. => 18

/-- The detail byte of an entry. -/
def Event.detail : Event → Nat
  | .tamper i test standby _ _ => i.index.val + 8 * flagNat test + 16 * flagNat standby
  | .tamperCleared byOrder _ _ => flagNat byOrder
  | .code cls _ _ => cls
  | .lockout o _ => o.number
  | .credit old new cause _ _ => old.number + 4 * new.number + 16 * cause.number
  | .emergency _ _ => 0
  | .relay st _ _ _ => st.number
  | .relayFault d _ => d.number
  | .overLimit trip mode _ _ => trip + 4 * mode.number
  | .overVoltage set _ _ => flagNat set
  | .sag _ _ => 0
  | .backupLow _ _ => 0
  | .time _ delta => flagNat (decide (delta < 0))
  | .tariff _ _ => 0
  | .service byCode _ _ => flagNat byCode
  | .integrity mark _ _ => mark.number
  | .power doubt _ _ => flagNat doubt
  | .overflow _ => 0

/-- Value A and value B of four bytes each. -/
def valuePair (a b : Nat) : List Byte := cappedBytes 4 a ++ cappedBytes 4 b

/-- The eight bytes from offset 8 of an entry. -/
def Event.payload : Event → List Byte
  | .tamper _ _ _ a b => valuePair a b
  | .tamperCleared _ mask latches => valuePair mask.toNat latches.toNat
  | .code _ serial amount => valuePair serial amount
  | .lockout _ lockoutEnd => valuePair lockoutEnd 0
  | .credit _ _ _ c b => cappedSigned 5 c ++ cappedBytes 3 b.toNat
  | .emergency c ec => cappedSigned 4 c ++ cappedBytes 4 ec
  | .relay _ r consent sensed => valuePair r.number (flagNat consent + 2 * flagNat sensed)
  | .relayFault _ sensed => valuePair (flagNat sensed) 0
  | .overLimit _ _ billed pLim => cappedBytes 5 billed ++ cappedBytes 2 pLim ++ [0]
  | .overVoltage _ u uHigh => valuePair u uHigh
  | .sag u uLow => valuePair u uLow
  | .backupLow reading bcLow => valuePair reading bcLow
  | .time oldT delta => valuePair oldT delta.natAbs
  | .tariff band friendly => valuePair band.val (flagNat friendly)
  | .service _ old new => valuePair old.number new.number
  | .integrity _ stored computed => valuePair stored.toNat computed.toNat
  | .power _ start duration => valuePair start duration
  | .overflow kind => valuePair kind 0

/-- The 16 bytes of an entry with its sequence number (R186). -/
def entryBytes (seq : BitVec 16) (e : Entry) : List Byte :=
  beBytes 2 seq.toNat ++ [byteOf e.event.kind, byteOf e.event.detail] ++ cappedBytes 4 e.time ++ e.event.payload

/-! ### The memory map (R167) -/

/-- The owner of a byte of the exchange memory. -/
inductive Owner where
  | part
  | host
  | unassigned
  deriving DecidableEq, Repr

/-- The first address of a slot: 0x040 + 64 × n. -/
def slotBase (n : Fin 8) : Nat := 64 + 64 * n.val

/-- The first address of the status mirror, of the staging area, of the journal ring and of the link registers. -/
def mirrorBase : Nat := 0x240
def stagingBase : Nat := 0x300
def ringBase : Nat := 0x400
def registerBase : Nat := 0xFC0

/-- The owner of an address below the link registers (R167, Header and Slot layouts). -/
def ownerOf (a : Nat) : Owner :=
  if a < 0x040 then (if a = 8 then .host else .part)
  else if a < 0x240 then (if a % 64 = 1 then .part else if a % 64 < 40 then .host else .part)
  else if a < 0x2C0 then .part
  else if a < 0x300 then .unassigned
  else if a < 0x400 then .host
  else if a < 0x700 then .part
  else .unassigned

end Sys2Proof

namespace Sys2Proof.Machine

/-- Where the walk moves an address after each data byte (R170). -/
def Walk.next : Walk → BitVec 12 → BitVec 12
  | .ascend, a => a + 1
  | .descend, a => a - 1
  | .hold, a => a
  | .lineAscend, a => BitVec.ofNat 12 (a.toNat / 64 * 64 + (a.toNat + 1) % 64)

/-! ### Orders in a slot (R185, R200) -/

/-- The kind of a copied slot: its first byte (R194). -/
def orderKind (bytes : List Byte) : Nat := (bytes.getD 0 0).toNat

/-- `n` bytes of a copied structure from an offset. -/
def fieldBytes (bytes : List Byte) (offset n : Nat) : List Byte := (bytes.drop offset).take n

/-- The number in `n` bytes from an offset. -/
def fieldNat (bytes : List Byte) (offset n : Nat) : Nat := beNat (fieldBytes bytes offset n)

/-- What the engine hands the owner of a known kind: the order with the argument bytes that R185 names for the kind. ADOPT
TARIFF goes through the staging copy (R195); a kind of 0 or above 0x0B has no owner. -/
def orderCommand (order : OrderId) (bytes : List Byte) : Option Instr :=
  match orderKind bytes with
  | 0x01 => some (.enterCode order (fieldBytes bytes 4 24))
  | 0x02 => some (.consent order)
  | 0x03 => some (.emergency order)
  | 0x04 => some (.disconnect order)
  | 0x05 => some (.permit order)
  | 0x06 => some (.setTime order (BitVec.ofNat 32 (fieldNat bytes 4 4)))
  | 0x08 => some (.writeSetting order (bytes.getD 4 0) (BitVec.ofNat 64 (fieldNat bytes 8 8)))
  | 0x09 => some (.enterService order)
  | 0x0A => some (.clearTamper order (bytes.getD 4 0))
  | 0x0B => some (.selfTest order (bytes.getD 4 0))
  | _ => none

/-- The kind numbers the engine itself looks at (R195, R198). -/
def kindDisconnect : Nat := 0x04
def kindAdoptTariff : Nat := 0x07

/-- The slot state byte (R189). -/
def SlotState.number : SlotState → Nat
  | .free => 0
  | .posted => 1
  | .taken => 2
  | .done => 3

/-! ### The tariff image (R39, R188) -/

/-- A switch point of the image, from its schedule's first place: 3 bytes second, 1 byte band. -/
def imageSecond (img : List Byte) (base i : Nat) : Nat := fieldNat img (base + 4 * i) 3
def imageBand (img : List Byte) (base i : Nat) : Nat := fieldNat img (base + 4 * i + 3) 1

/-- A switch point fails items 3 and 5 of R39. -/
def pointFails (img : List Byte) (base i : Nat) : Bool :=
  decide (Config.daySeconds ≤ imageSecond img base i) || decide (4 ≤ imageBand img base i)
    || (decide (0 < i) && decide (imageSecond img base i ≤ imageSecond img base (i - 1)))

/-- A window's start, end and weekday mask in the image. -/
def imageStart (img : List Byte) (i : Nat) : Nat := fieldNat img (0x5C + 8 * i) 3
def imageStop (img : List Byte) (i : Nat) : Nat := fieldNat img (0x5C + 8 * i + 3) 3
def imageMask (img : List Byte) (i : Nat) : Nat := fieldNat img (0x5C + 8 * i + 6) 1

/-- A window fails item 7 of R39. -/
def windowFails (img : List Byte) (i : Nat) : Bool :=
  decide (Config.daySeconds ≤ imageStart img i) || decide (Config.daySeconds ≤ imageStop img i)
    || decide (imageStart img i = imageStop img i) || decide (127 < imageMask img i)

/-- The item's number with the first failing element, or with 0 where the item has no elements. -/
def failsAt (item : Nat) (fails : Nat → Bool) (count : Nat) : Option (Nat × Nat) :=
  ((List.range count).find? fails).map fun i => (item, i)

def failsIf (item : Nat) (fails : Bool) : Option (Nat × Nat) := if fails then some (item, 0) else none

/-- The first failing item of an image and the index of its element (R39). -/
def imageFault (img : List Byte) : Option (Nat × Nat) :=
  (failsAt 1 (fun i => decide (16777215 < fieldNat img (4 * i) 4)) 4)
    <|> (failsIf 2 (decide (fieldNat img 0x10 1 < 1) || decide (8 < fieldNat img 0x10 1)))
    <|> (failsAt 3 (pointFails img 0x14) (fieldNat img 0x10 1))
    <|> (failsIf 4 (decide (fieldNat img 0x34 1 < 1) || decide (8 < fieldNat img 0x34 1)))
    <|> (failsAt 5 (pointFails img 0x38) (fieldNat img 0x34 1))
    <|> (failsIf 6 (decide (4 < fieldNat img 0x58 1)))
    <|> (failsAt 7 (windowFails img) (fieldNat img 0x58 1))
    <|> (failsIf 8 (decide (6 < fieldNat img 0x7C 1) || decide (127 < fieldNat img 0x7D 1)))
    <|> (failsIf 9 (decide (16777215 < fieldNat img 0x80 4) || decide (1000000000 < fieldNat img 0x84 4)
      || decide (1000000000 < fieldNat img 0x88 4)))
    <|> (failsIf 10 (decide (fieldNat img 0x88 4 < fieldNat img 0x8C 4)))

/-- A schedule of the image. -/
def imageSchedule (img : List Byte) (base count : Nat) : List SwitchPoint :=
  (List.range count).map fun i => ⟨imageSecond img base i, Fin.ofNat 4 (imageBand img base i)⟩

/-- The table that an image holds (R188). -/
def imageTariff (img : List Byte) : Tariff :=
  { rates := #v[fieldNat img 0 4, fieldNat img 4 4, fieldNat img 8 4, fieldNat img 12 4]
    workday := imageSchedule img 0x14 (fieldNat img 0x10 1)
    restDay := imageSchedule img 0x38 (fieldNat img 0x34 1)
    windows := (List.range (fieldNat img 0x58 1)).map fun i =>
      ⟨imageStart img i, imageStop img i, BitVec.ofNat 7 (imageMask img i)⟩
    w0 := fieldNat img 0x7C 1
    restMask := BitVec.ofNat 7 (fieldNat img 0x7D 1)
    sc := fieldNat img 0x80 4
    lowT := fieldNat img 0x84 4
    df := fieldNat img 0x88 4
    ec := fieldNat img 0x8C 4 }

/-! ### The status mirror (R187) -/

/-- Six flags as a number, bit i for source i (R185). -/
def sourceBits (f : Source → Bool) : Nat :=
  flagNat (f .case) + 2 * flagNat (f .terminal) + 4 * flagNat (f .magnet) + 8 * flagNat (f .imbalance)
    + 16 * flagNat (f .reverse) + 32 * flagNat (f .bypass)

/-- A tamper record in the mirror: count, first time, last time. -/
def recordBytes (r : SourceRecord) : List Byte := beBytes 1 r.count ++ beBytes 4 r.first ++ beBytes 4 r.last

/-- The 128 bytes of the mirror, with the publication count and the remaining lockout as the publication has formed them
(R187, R211). -/
def mirrorBytes (s : State) (count : BitVec 32) (lockout : Nat) : List Byte :=
  beBytes 4 count.toNat ++ beBytes 4 s.calendar.t ++ signedBytes 8 s.credit.c ++ beBytes 8 s.credit.b.toNat
    ++ beBytes 8 s.energy.billed.toNat ++ beBytes 8 s.energy.forward.toNat ++ beBytes 8 s.energy.reverse.toNat
    ++ cappedBytes 4 s.energy.power ++ beBytes 2 s.energy.voltage ++ [byteOf s.calendar.band.val]
    ++ [byteOf (flagNat s.calendar.friendly + 2 * flagNat s.credit.deferral + 4 * flagNat s.credit.ea
      + 8 * flagNat s.credit.em)]
    ++ [byteOf s.credit.state.number, byteOf s.switch.relay.number, byteOf s.switch.reasons.number,
      byteOf (flagNat s.switch.consent), byteOf s.switch.trips]
    ++ beBytes 2 s.switch.lastDuty
    ++ [byteOf (sourceBits fun i => (s.tamper.record i).latch), byteOf (sourceBits fun i => (s.tamper.record i).active)]
    ++ [byteOf s.settings.service.number]
    ++ [byteOf (flagNat s.settings.fault + 2 * flagNat s.supply.backupLow + 4 * flagNat s.supply.sag
      + 8 * flagNat s.switch.coilWait)]
    ++ [0] ++ beBytes 2 s.switch.pLim ++ beBytes 2 lockout
    ++ (Source.all.map fun i => recordBytes (s.tamper.record i)).flatten ++ [0, 0]

end Sys2Proof.Machine
end

