-- ==== Sys2Proof/Machine/Flags.lean ====
section
/-! DEFINITION. What the units judge from their state: the day, the band and the friendly windows (R28 to R31), the credit
state and the CREDIT condition (R51, R61, R62), the energy conditions (R16 to R19), the effective masks and the TAMPER
condition (R119, R121), the remaining lockout (R72), the power limit test (R103), and the outputs IRQN, COIL_A and COIL_B
(R179, R97). -/

namespace Sys2Proof.Machine

/-! ### Days, bands, windows -/

/-- The day of a meter time (R28). -/
def dayOf (t : Nat) : Nat := t / Config.daySeconds

/-- The second of the day (R28). -/
def secondOf (t : Nat) : Nat := t % Config.daySeconds

/-- The weekday of a day (R28). -/
def weekdayOf (w0 day : Nat) : Nat := (day + w0) % 7

/-- The weekday before a weekday (R28). -/
def weekdayBefore (w : Nat) : Nat := (w + 6) % 7

/-- The schedule of a weekday's day type (R28, R29). -/
def scheduleOf (table : Tariff) (w : Nat) : List SwitchPoint :=
  if table.restMask.getLsbD w then table.restDay else table.workday

/-- The band of the last switch point at or below a second of the day (R29). -/
def bandBy (points : List SwitchPoint) (sec : Nat) : Option (Fin 4) :=
  ((points.filter fun p => decide (p.second ≤ sec)).getLast?).map SwitchPoint.band

/-- The band in force at a time (R29). Before today's first point it is yesterday's last band. -/
def bandAt (table : Tariff) (t : Nat) : Fin 4 :=
  match bandBy (scheduleOf table (weekdayOf table.w0 (dayOf t))) (secondOf t) with
  | some b => b
  | none =>
    match (scheduleOf table (weekdayBefore (weekdayOf table.w0 (dayOf t)))).getLast? with
    | some p => p.band
    | none => 0

/-- Whether a window is active at a second of a weekday (R31). -/
def windowActive (x : Window) (w sec : Nat) : Bool :=
  if x.start < x.stop then x.mask.getLsbD w && decide (x.start ≤ sec) && decide (sec < x.stop)
  else if x.stop < x.start then
    (decide (x.start ≤ sec) && x.mask.getLsbD w) || (decide (sec < x.stop) && x.mask.getLsbD (weekdayBefore w))
  else false

/-- The friendly flag at a time (R31). -/
def friendlyAt (table : Tariff) (t : Nat) : Bool :=
  table.windows.any fun x => windowActive x (weekdayOf table.w0 (dayOf t)) (secondOf t)

/-- The hour number of a time (R46). -/
def hourOf (t : Nat) : Nat := t / Config.hourSeconds

/-! ### Credit -/

/-- The credit state that follows from balance, EM and the money parameters (R51). -/
def creditStateOf (c : Int) (em : Bool) (lowT ec : Nat) : CreditState :=
  if (lowT : Int) < c then .normal
  else if 0 < c then .low
  else if em && decide (-(ec : Int) < c) then .emergency
  else .exhausted

/-- CREDIT belongs in the reason set, as the Credit Unit judges it from its own views (R61). -/
def creditCondition (x : Credit) : Bool :=
  decide (x.serviceView = .inService) && decide (x.state = .exhausted) && !x.friendlyView

/-- The deferral flag (R62). -/
def deferralCondition (x : Credit) : Bool :=
  decide (x.serviceView = .inService) && decide (x.state = .exhausted) && x.friendlyView

/-! ### Codes -/

/-- The remaining lockout: the lockout end minus T while the lockout runs, capped at 600, else 0 (R72). -/
def lockoutRemaining (lockoutEnd : Option Nat) (t : Nat) : Nat :=
  match lockoutEnd with
  | none => 0
  | some e => min (e - t) Config.lockoutSeconds

/-! ### Energy conditions -/

/-- The raw IMBALANCE condition over the magnitudes of the exact products (R16). -/
def rawImbalance (aL aN imbT imbFloor : Nat) : Bool :=
  decide (imbT * max aL aN < 64 * (max aL aN - min aL aN)) && decide (imbFloor ≤ max aL aN / Config.energyUnit)

/-- The raw REVERSE condition (R17). -/
def rawReverse (d : Direction) (billed revFloor : Nat) : Bool := decide (d = .reverse) && decide (revFloor ≤ billed)

/-- The raw BYPASS condition (R18). -/
def rawBypass (relay : RelayState) (billed bypassFloor : Nat) : Bool :=
  (decide (relay = .open) || decide (relay = .ready)) && decide (bypassFloor ≤ billed)

/-- The power limit test, without rounding (R103). -/
def limitTest (billed pLim : Nat) : Bool := decide (pLim ≠ 0) && decide (pLim * 1250 < billed * 36)

/-! ### Tamper -/

/-- The bits of an action mask (08, The protected settings). -/
def maskLock (m : Nat) : Bool := m.testBit 0
def maskJournal (m : Nat) : Bool := m.testBit 1
def maskNotice (m : Nat) : Bool := m.testBit 2

/-- The effective mask of a source: its action mask, and for CASE in service also LOCK and JOURNAL (R119). -/
def State.effectiveMask (s : State) (i : Source) : Nat :=
  if i = .case ∧ s.settings.service = .inService then s.setting i.maskSetting ||| 3 else s.setting i.maskSetting

/-- TAMPER belongs in the reason set: a latched source has LOCK in its effective mask (R121). -/
def State.tamperCondition (s : State) : Bool :=
  Source.all.any fun i => (s.tamper.record i).latch && maskLock (s.effectiveMask i)

/-- The six latches as a mask, bit i for source i (R122, R185). -/
def Tamper.latches (x : Tamper) : BitVec 6 := BitVec.ofNat 6 (sourceBits fun i => (x.record i).latch)

/-! ### The link and the outputs -/

/-- Frames are served: the link is OPEN, LINKRSTN is released, and a link reset's state bytes are written (R174, R183). Until the unit has
taken its HOLD entry the link state is its own, by the model's choice of notes/assumptions/41.md. -/
def State.served (s : State) : Bool :=
  decide (s.exchange.link = .open) && !s.exchange.hold && !s.pins.linkrstn && !s.exchange.resetPending

/-- IRQN is driven low (R179). -/
def State.irqnLow (s : State) : Bool :=
  decide (s.exchange.link = .open) && !s.exchange.hold && decide (s.exchange.notices &&& s.exchange.enable ≠ 0)

/-- The coil driven and its duty in 256ths: COIL_B opens, COIL_A closes (R97). -/
def State.coilDriven (s : State) : Option (OpDirection × Nat) :=
  match s.switch.operation with
  | none => none
  | some o =>
    match o.phase with
    | .drive _ _ => o.duty.map fun d => (o.direction, d)
    | _ => none

/-- The signal words POST and DONE, read from the slot states (R177). -/
def Engine.signal (x : Engine) (st : SlotState) : Byte :=
  (List.finRange 8).foldl (fun w n => if x.slots[n] = st then w ||| BitVec.ofNat 8 (2 ^ n.val) else w) 0

end Sys2Proof.Machine
end

