-- ==== Sys2Proof/Machine/Codes.lean ====
section
/-! DEFINITION. The Code Unit (04_top_up_codes.md): the evaluation of a code through its ordered checks, the history of
codes, failures and lockout, and the end of an evaluation once an owner has taken its request. -/

namespace Sys2Proof.Machine

/-! ### The history of codes (R82) -/

/-- A serial in its place in ascending order. -/
def insertSerial (n : Nat) : List Nat → List Nat
  | [] => [n]
  | m :: ms => if n < m then n :: m :: ms else m :: insertSerial n ms

/-- Records an accepted serial; the smallest of 33 leaves the list and becomes the code floor (R82). -/
def Code.record (x : Code) (serial : Nat) : Code :=
  let l := insertSerial serial x.used
  if l.length ≤ Config.usedCapacity then { x with used := l }
  else { x with used := l.tail, floor := l.headD x.floor }

/-! ### Lockout and failures (R72, R85) -/

/-- The lockout end as step 1 of an evaluation leaves it: discarded once T has reached it, and never more than 600 seconds
ahead of T (R72). -/
def settledLockout (lockoutEnd : Option Nat) (t : Nat) : Option Nat :=
  match lockoutEnd with
  | none => none
  | some e => if e ≤ t then none else some (min e (t + Config.lockoutSeconds))

/-- A refusal BAD_CHECK or WRONG_METER is counted, and the fifth starts a lockout (R85). -/
def State.countFailure (s : State) (o : CodeOutcome) : State :=
  if s.code.failures + 1 < Config.failureLimit then s.onCode fun x => { x with failures := x.failures + 1 }
  else
    let e := min (s.calendar.t + Config.lockoutSeconds) Config.timeMax
    (s.onCode fun x => { x with failures := 0, lockoutEnd := some e }).journal (.lockout o e)

/-! ### The fields of a code (R68, R69) -/

/-- The 24 digits as one decimal number, the first byte most significant (R68). -/
def decimalValue (digits : List Byte) : Nat := digits.foldl (fun a d => a * 10 + d.toNat) 0

def codeClass (n : Nat) : Nat := n / 2 ^ 76
def codeSerial (n : Nat) : Nat := n / 2 ^ 56 % 2 ^ 20
def codeAmount (n : Nat) : Nat := n / 2 ^ 32 % 2 ^ 24
def codeTag (n : Nat) : Nat := n / 2 ^ 16 % 2 ^ 16
def codeCheck (n : Nat) : BitVec 16 := BitVec.ofNat 16 n

/-- The expected check: over the 8 bytes of the body and the 8 bytes of the meter key (R70). -/
def expectedCheck (n key : Nat) : BitVec 16 := crc16 (beBytes 8 (n / 2 ^ 16) ++ beBytes 8 key)

/-- The class's own validation: the amount first, then for SERVICE RELEASE the service state (R76). -/
def classRefusal (service : ServiceState) (cls amount : Nat) : Option CodeOutcome :=
  match cls with
  | 0 => if amount = 0 then some .invalidAmount else none
  | 1 => if 65535 < amount then some .invalidAmount else none
  | 2 => if amount = 0 ∨ 63 < amount then some .invalidAmount else none
  | _ => if amount ≠ 0 then some .invalidAmount else if service = .commissioning then some .wrongState else none

/-- Steps 3 to 8 of R71 on a decoded code: the first that fails, or none. -/
def State.codeRefusal (s : State) (n : Nat) : Option CodeOutcome :=
  if s.settings.fault || !s.settings.keySet then some .keyFault
  else if expectedCheck n (s.setting .meterKey) ≠ codeCheck n then some .badCheck
  else if codeTag n ≠ s.setting .meterNumber % 65536 then some .wrongMeter
  else if 3 < codeClass n then some .unknownClass
  else if codeSerial n ≤ s.code.floor ∨ codeSerial n ∈ s.code.used then some .used
  else classRefusal s.settings.service (codeClass n) (codeAmount n)

/-! ### Answers and the end of an evaluation -/

/-- The answer of an evaluation (R86). -/
def State.codeAnswer (s : State) (order : OrderId) (o : CodeOutcome) (cls serial amount : Nat) (balance : Int) : State :=
  s.answer order .ok (.code o cls serial amount balance (lockoutRemaining s.code.lockoutEnd s.calendar.t))

/-- The owner has taken the request of the waiting evaluation: the serial is recorded, the failure count is 0, the CODE entry
is sent and the answer is given (R78). -/
def State.codeAccepted (s : State) (balance : Int) : State :=
  match s.code.evaluation with
  | none => s
  | some ev =>
    (((s.onCode fun x => { x.record ev.serial with failures := 0, evaluation := none }).journal
      (.code ev.cls ev.serial ev.amount))).codeAnswer ev.order .accepted ev.cls ev.serial ev.amount balance

/-- The Credit Unit has answered over cap (R77). -/
def State.codeOverCap (s : State) (balance : Int) : State :=
  match s.code.evaluation with
  | none => s
  | some ev =>
    (s.onCode fun x => { x with evaluation := none }).codeAnswer ev.order .overCap ev.cls ev.serial ev.amount balance

/-- The request that carries out a class, and with it the amount (R77, R79, R80, R81). -/
def classRequest (cls amount : Nat) : Instr :=
  match cls with
  | 0 => .topUpRequest amount
  | 1 => .limitRequest amount
  | 2 => .clearRequest (BitVec.ofNat 6 amount)
  | _ => .releaseRequest

/-- An evaluation after steps 1 and 2: a refusal of steps 3 to 8 with its count, or the request to the class's owner, on which
the evaluation then waits (R71, R77, R78). -/
def State.judgeCode (s : State) (order : OrderId) (n : Nat) : State :=
  match s.codeRefusal n with
  | some o =>
    (if o = .badCheck ∨ o = .wrongMeter then s.countFailure o else s).codeAnswer order o
      (codeClass n) (codeSerial n) (codeAmount n) s.credit.c
  | none =>
    (s.onCode fun x => { x with evaluation := some ⟨order, codeClass n, codeSerial n, codeAmount n⟩ }).send
      (classRequest (codeClass n) (codeAmount n))

/-- One evaluation (R71): step 1 settles the lockout (R72), step 2 tests the digits (R68). -/
def State.evaluateCode (s : State) (order : OrderId) (digits : List Byte) : State :=
  let s := s.onCode fun x => { x with lockoutEnd := settledLockout x.lockoutEnd s.calendar.t }
  if s.code.lockoutEnd.isSome then s.codeAnswer order .lockedOut 0 0 0 s.credit.c
  else if digits.any fun d => decide (9 < d.toNat) then s.codeAnswer order .malformed 0 0 0 s.credit.c
  else s.judgeCode order (decimalValue digits)

/-! ### Meanings -/

/-- ENTER_CODE (R67): the unit has at most one evaluation in hand; a code that a loss of supply meets before its evaluation begins is
not evaluated (R67, R88). -/
def execEnterCode (order : OrderId) (digits : List Byte) (s : State) : Outcome :=
  if s.code.evaluation.isSome then .next s
  else
    let t := s.took (.enterCode order digits)
    .next (if t.takesRunOrders then t.evaluateCode order digits else t)

/-- CODE_WARM_START (R88): the history, the failure count and the lockout end are kept. -/
def execCodeWarmStart (s : State) : Outcome := .next (s.took .codeWarmStart)

end Sys2Proof.Machine
end

