-- ==== Sys2Proof/Machine/Settings.lean ====
section
/-! DEFINITION. The Settings Unit (08_service_state_and_protected_settings.md): writing a setting, the service state, the
integrity sweep. An arrival that tells neighbours waits in `settings.waiting` until they have taken the news; the unit takes
no other arrival meanwhile (R154, R155). -/

namespace Sys2Proof.Machine

/-! ### The integrity sweep -/

/-- The stream of R159: the key set flag, then every setting in id order at its width. -/
def Settings.stream (x : Settings) (keySet : Bool) : List Byte :=
  byteOf (flagNat keySet) :: (SettingId.all.map fun i => beBytes i.row.width x.values[i.index]).flatten

/-- The check word computed afresh (R160). The key set flag is the first byte of the stream. -/
def Settings.computed (x : Settings) : BitVec 16 :=
  match x.keySet with
  | true => crc16 (x.stream true)
  | false => crc16 (x.stream false)

/-- The four kinds of sweep (R161). -/
inductive SweepKind where
  | periodic
  | afterWrite
  | warmStart
  | test
  deriving DecidableEq, Repr

/-- A sweep acts on its real comparison and the fault flag (R162). -/
def State.sweep (s : State) (k : SweepKind) : State :=
  let stored := s.settings.checkWord
  let computed := s.settings.computed
  if computed ≠ stored then
    if s.settings.fault then s
    else ((s.onSettings fun x => { x with fault := true }).journal (.integrity .set stored computed)).raise .fault
  else if s.settings.fault ∧ k = .afterWrite then
    (s.onSettings fun x => { x with fault := false }).journal (.integrity .clear stored computed)
  else s

/-- A sweep for a test: the forced-mismatch mark is set, the sweep runs, the test entry follows and the mark clears (R164).
The Tamper Unit then answers the order that waits for it (R132); where a second test has taken the place of the first, the first
request's sweep answers the second order and the second's answers none (DESIGN CHOICE, notes/assumptions/54.md). -/
def State.testSweep (s : State) : State :=
  let s := (s.onSettings fun x => { x with forcedMismatch := true }).sweep .test
  let s := (s.journal (.integrity .test s.settings.checkWord s.settings.computed)).onSettings
    fun x => { x with forcedMismatch := false }
  match s.tamper.integrityTest with
  | none => s
  | some order =>
    (s.onTamper fun x => { x with integrityTest := none }).answer order .ok
      (.integrityTest (decide (s.settings.computed = s.settings.checkWord)))

/-! ### Arrivals that wait for neighbours -/

/-- The end of a write: its sweep, then its answer (R154). -/
def State.finishWrite (s : State) (order : OrderId) (x : SettingId) (clamped : Bool) (applied : Nat) : State :=
  let s := (s.onSettings fun y => { y with waiting := none }).sweep .afterWrite
  s.answer order .ok (.setting x clamped s.settings.fault applied)

/-- A neighbour has taken the news of a write (R154). -/
def State.writeNewsTaken (s : State) (n : Neighbour) : State :=
  match s.settings.waiting with
  | some (.write order x clamped applied awaits) => if awaits = n then s.finishWrite order x clamped applied else s
  | _ => s

/-- Both neighbours have taken the news of a service state: an ENTER SERVICE is answered OK (R157), and a release is answered
to the Code Unit, whose evaluation goes on (R158, R78). -/
def State.finishService (s : State) (order : Option OrderId) : State :=
  let s := s.onSettings fun y => { y with waiting := none }
  match order with
  | some n => s.answer n .ok (.item 0)
  | none => s.codeAccepted s.credit.c

/-- The Credit Unit (`credit`) or the Tamper Unit has taken the news of a service state (R155). -/
def State.serviceNewsTaken (s : State) (credit : Bool) : State :=
  match s.settings.waiting with
  | some (.service c t order) =>
    let c' := c && !credit
    let t' := t && credit
    if c' || t' then s.onSettings fun y => { y with waiting := some (.service c' t' order) } else s.finishService order
  | _ => s

/-! ### Writing a setting -/

/-- The value a write applies (R153). -/
def SettingRow.clamp (r : SettingRow) (v : Nat) : Nat := if v < r.low then r.low else if r.high < v then r.high else v

/-- Stores a value; a write of the key sets its flag; the check word is computed over the settings as they then stand
(R154, steps 1 and 2). -/
def Settings.stored (x : Settings) (i : SettingId) (v : Nat) : Settings :=
  let x := { x with values := x.values.set i.index v, keySet := x.keySet || decide (i = SettingId.meterKey) }
  { x with checkWord := x.computed }

/-- The neighbour that depends on a setting, and the news it is told (R154, step 3). -/
def SettingId.news : SettingId → Option (Neighbour × Instr)
  | .kL => some (.energy, .calibrationWriteNews .line)
  | .kN => some (.energy, .calibrationWriteNews .neutral)
  | .meterKey => some (.code, .keyWriteNews)
  | .maskCase => some (.tamper, .actionMaskNews)
  | .maskTerminal => some (.tamper, .actionMaskNews)
  | .maskMagnet => some (.tamper, .actionMaskNews)
  | .maskImbalance => some (.tamper, .actionMaskNews)
  | .maskReverse => some (.tamper, .actionMaskNews)
  | .maskBypass => some (.tamper, .actionMaskNews)
  | _ => none

/-- A write that has passed R152 (R153, R154). -/
def State.writeTo (s : State) (order : OrderId) (x : SettingId) (v : Nat) : State :=
  let applied := SettingRow.clamp x.row v
  let clamped := decide (applied ≠ v)
  let s := s.onSettings fun y => y.stored x applied
  match SettingId.news x with
  | none => s.finishWrite order x clamped applied
  | some (n, c) => (s.onSettings fun y => { y with waiting := some (.write order x clamped applied n) }).send c

/-- WRITE SETTING in the order of R152. -/
def State.writeSetting (s : State) (order : OrderId) (id : Byte) (value : BitVec 64) : State :=
  if s.settings.service = .inService then s.answer order .refusedLocked .none
  else
    match SettingId.ofId id.toNat with
    | none => s.answer order .badArgument .none
    | some x => s.writeTo order x value.toNat

/-! ### The service state -/

/-- The number of the first item of R156 that fails, 0 where none does. -/
def State.entryItem (s : State) : Nat :=
  if s.settings.service = .inService then 1
  else if !s.settings.keySet then 2
  else if s.setting .meterNumber = 0 then 3
  else if s.setting .kL = 0 then 4
  else if s.setting .kN = 0 then 5
  else if s.setting .kV = 0 then 6
  else if !s.calendar.adopted then 7
  else if s.settings.fault then 8
  else 0

/-- A change of the service state: the SERVICE entry, then the news to the Credit Unit and the Tamper Unit (R155, R157, R158). -/
def State.changeService (s : State) (new : ServiceState) (order : Option OrderId) : State :=
  let old := s.settings.service
  ((((s.onSettings fun x => { x with service := new, waiting := some (.service true true order) }).journal
    (.service order.isNone old new)).send (.serviceStateNewsCredit new)).send .serviceStateNewsTamper)

/-- ENTER SERVICE (R156, R157). -/
def State.enterService (s : State) (order : OrderId) : State :=
  if s.entryItem ≠ 0 then s.answer order .wrongState (.item s.entryItem) else s.changeService .inService (some order)

/-- A delivered second: the sweep count, and at its 60th the periodic sweep (R161). -/
def State.settingsSecond (s : State) : State :=
  if s.settings.sweepCount + 1 < Config.sweepSeconds then s.onSettings fun x => { x with sweepCount := x.sweepCount + 1 }
  else (s.onSettings fun x => { x with sweepCount := 0 }).sweep .periodic

/-! ### Meanings -/

/-- The unit takes an arrival only while none of its arrivals waits for a neighbour (R154, R155). -/
def State.settingsFree (s : State) : Bool := s.settings.waiting.isNone

/-- WRITE_SETTING (R152). -/
def execWriteSetting (order : OrderId) (id : Byte) (value : BitVec 64) (s : State) : Outcome :=
  if s.settingsFree then .next ((s.took (.writeSetting order id value)).writeSetting order id value) else .next s

/-- ENTER_SERVICE (R156); in HOLD no news of a service state is sent (R60), so the order is not taken there. -/
def execEnterService (order : OrderId) (s : State) : Outcome :=
  if s.settingsFree then
    let t := s.took (.enterService order)
    .next (if t.takesRunOrders then t.enterService order else t)
  else .next s

/-- RELEASE_REQUEST (R158). -/
def execReleaseRequest (s : State) : Outcome :=
  if s.settingsFree then .next ((s.took .releaseRequest).changeService .commissioning none) else .next s

/-- SETTINGS_SECOND (R161). One in flight at the HOLD entry is taken as in RUN, by the model's choice of notes/assumptions/45.md. -/
def execSettingsSecond (s : State) : Outcome :=
  if s.settingsFree then .next (s.took .settingsSecond).settingsSecond else .next s

/-- PERIODIC_SWEEP (R161): the second at which the sweep count would reach 60. -/
def execPeriodicSweep (s : State) : Outcome :=
  if s.settingsFree && decide (Config.sweepSeconds ≤ s.settings.sweepCount + 1) then
    .next (s.took .periodicSweep).settingsSecond
  else .next s

/-- WARM_START_SWEEP (R161). -/
def execWarmStartSweep (s : State) : Outcome :=
  if s.settingsFree then .next ((s.took .warmStartSweep).sweep .warmStart) else .next s

/-- INTEGRITY_TEST_REQUEST (R164). -/
def execIntegrityTestRequest (s : State) : Outcome :=
  if s.settingsFree then .next (s.took .integrityTestRequest).testSweep else .next s

/-- SETTINGS_WARM_START (R166). -/
def execSettingsWarmStart (s : State) : Outcome :=
  if s.settingsFree then .next ((s.took .settingsWarmStart).onSettings fun x => { x with sweepCount := 0 }) else .next s

/-- KEY_WRITE_NEWS (R84), taken by the Code Unit; the write then goes on (R154). An evaluation in hand is finished first, for it is one
arrival (R67, notes/assumptions/16.md). -/
def execKeyWriteNews (s : State) : Outcome :=
  if s.code.evaluation.isSome then .next s
  else .next (((s.took .keyWriteNews).onCode fun x => { x with used := [], floor := 0 }).writeNewsTaken .code)

end Sys2Proof.Machine
end

