-- ==== Sys2Proof/Machine/Calendars.lean ====
section
/-! DEFINITION. The Calendar Unit (02_meter_time_and_the_tariff_table.md): meter time, the band and the friendly flag, SET
TIME and the adoption of a tariff. -/

namespace Sys2Proof.Machine

/-- The band in force and the friendly flag from T and the table as they stand (R30). -/
def Calendar.evaluated (x : Calendar) : Calendar :=
  { x with band := bandAt x.table x.t, friendly := friendlyAt x.table x.t }

/-- A re-evaluation; a changed friendly flag is told to the Credit Unit (R30). -/
def State.reevaluate (s : State) : State :=
  let old := s.calendar.friendly
  let s := s.onCalendar Calendar.evaluated
  if s.calendar.friendly = old then s else s.send (.friendlyFlagNews s.calendar.friendly)

/-! ### Ticks -/

/-- T one second on; it saturates (R25). -/
def Calendar.advance (x : Calendar) : Calendar := { x with t := min (x.t + 1) Config.timeMax }

/-- A delivered second goes to five units (R26). -/
def State.deliverSecond (s : State) : State :=
  ((((s.send .creditSecond).send .switchSecond).send .tamperSecond).send (.supervisorSecond 0 0)).send .settingsSecond

/-- A tick: in RUN the re-evaluation and the delivery, in HOLD T alone (R26) and one second of the HOLD reading timer (R137). -/
def State.tick (s : State) : State :=
  let s := s.onCalendar Calendar.advance
  match s.supply.power with
  | .run => s.reevaluate.deliverSecond
  | .hold => s.onSupply fun x => { x with holdTimer := min (x.holdTimer + 1) Config.holdReadingSeconds }

/-! ### SET TIME (R33 to R35) -/

/-- Step 1 of R34: the allowance is renewed when T's day is past the allowance day. -/
def Calendar.renewed (x : Calendar) : Calendar :=
  if x.allowanceDay < dayOf x.t then { x with allowance := Config.dayAllowance, allowanceDay := dayOf x.t } else x

/-- Steps 2 to 4 of R34: the requested delta limited by the order, the allowance and the range of T. -/
def limitedDelta (t allowance : Nat) (requested : Int) : Int :=
  let d := clampInt (-Config.orderLimit) Config.orderLimit requested
  let d := clampInt (-(allowance : Int)) (allowance : Int) d
  clampInt (-(t : Int)) ((Config.timeMax : Int) - (t : Int)) d

/-- An applied set (R35): the TIME entry, the new T told to the Credit Unit, the re-evaluation. -/
def State.applySet (s : State) (delta : Int) : State :=
  if delta = 0 then s
  else
    let old := s.calendar.t
    let s := s.onCalendar fun x => { x with t := ((x.t : Int) + delta).toNat }
    ((s.journal (.time old delta)).send .newTArrival).reevaluate

/-- SET TIME (R33): in COMMISSIONING the whole requested delta, in IN_SERVICE the delta of R34. -/
def State.setTime (s : State) (order : OrderId) (target : BitVec 32) : State :=
  let requested := (target.toNat : Int) - (s.calendar.t : Int)
  match s.settings.service with
  | .commissioning =>
    let s := s.applySet requested
    s.answer order .ok (.setTime requested requested s.calendar.allowance)
  | .inService =>
    let s := s.onCalendar Calendar.renewed
    let applied := limitedDelta s.calendar.t s.calendar.allowance requested
    let s := (s.onCalendar fun x => { x with allowance := x.allowance - applied.natAbs }).applySet applied
    s.answer order .ok (.setTime requested applied s.calendar.allowance)

/-! ### Adoption (R39, R40) -/

/-- The image is validated whole, then adopted: the table, the adopted flag, the re-evaluation, the news to the Credit Unit with
the friendly flag if it has changed, the TARIFF entry and the answer. -/
def State.takeImage (s : State) (order : OrderId) (image : List Byte) : State :=
  match imageFault image with
  | some (number, index) => s.answer order .badArgument (.tariffRefused number index)
  | none =>
    let old := s.calendar.friendly
    let s := s.onCalendar fun x => { x with table := imageTariff image, adopted := true }.evaluated
    let new := s.calendar.friendly
    ((s.send (.newTableArrival (if new = old then none else some new))).journal
      (.tariff s.calendar.band new)).answer order .ok (.tariffAdopted s.calendar.band new)

/-! ### Meanings -/

/-- SECOND_TICK (R25): meter time stops with the retained domain (R138). -/
def execSecondTick (s : State) : Outcome := if s.supply.retention then .next s.tick else .next s

/-- CALENDAR_WARM_START (R27). One that is taken after a further HOLD entry re-evaluates, and tells the Credit Unit, all the same, by the
model's choice of notes/assumptions/46.md. -/
def execCalendarWarmStart (s : State) : Outcome := .next (s.took .calendarWarmStart).reevaluate

/-- SET_TIME (R33); not taken in HOLD (R37). -/
def execSetTime (order : OrderId) (target : BitVec 32) (s : State) : Outcome :=
  let t := s.took (.setTime order target)
  .next (if t.takesRunOrders then t.setTime order target else t)

/-- TARIFF_IMAGE_ARRIVAL (R39); no adoption is made in HOLD (R42, R47). -/
def execTariffImageArrival (order : OrderId) (image : List Byte) (s : State) : Outcome :=
  let t := s.took (.tariffImageArrival order image)
  .next (if t.takesRunOrders then t.takeImage order image else t)

end Sys2Proof.Machine
end

