-- ==== Sys2Proof/Machine/Credits.lean ====
section
/-! DEFINITION. The Credit Unit (03_credit_accounting.md): the energy charge, the standing charge, the debt floor, credit
states, emergency credit, top-ups, adoption and the CREDIT reason. -/

namespace Sys2Proof.Machine

/-! ### The CREDIT reason (R61, R62) -/

/-- Sets the deferral flag, and asks for CREDIT to be added or removed where the condition and CREDIT requested disagree, or
in any case when `resend` is set, as at a warm start. -/
def State.reevaluateCredit (s : State) (resend : Bool) : State :=
  let want := creditCondition s.credit
  let ask := resend || want != s.credit.requested
  let s := s.onCredit fun x => { x with deferral := deferralCondition x, requested := want }
  if ask then s.send (.reasonRequest want .credit) else s

/-! ### Credit states (R51, R52) -/

/-- A change of credit state: the state, its entry and its notice (R51, R52). -/
def State.recordCreditState (s : State) (cause : CreditCause) : State :=
  let old := s.credit.state
  let new := creditStateOf s.credit.c s.credit.em s.calendar.table.lowT s.calendar.table.ec
  if new = old then s
  else ((s.onCredit fun x => { x with state := new }).journal (.credit old new cause s.credit.c s.credit.b)).raise .credit

/-- The evaluation after a change, with its cause; a changed state re-evaluates the CREDIT reason (R61). -/
def State.evaluateCredit (s : State) (cause : CreditCause) : State :=
  let t := s.recordCreditState cause
  if t.credit.state = s.credit.state then t else t.reevaluateCredit false

/-! ### Takings (R45) -/

/-- Takes an amount; the debt floor holds back what would go below it, and B counts that. -/
def Credit.take (x : Credit) (df amount : Nat) : Credit :=
  if -(df : Int) ≤ x.c - amount then { x with c := x.c - amount }
  else { x with c := -(df : Int), b := x.b + BitVec.ofInt 64 (-(df : Int) - (x.c - amount)) }

/-- The energy charge of a block (R43). A charge of 0 leaves C, B and the state as they stand. -/
def State.chargeBlock (s : State) (billed : Nat) : State :=
  let x := billed * s.calendar.table.rates[s.calendar.band] + s.credit.q
  let due := x / Config.chargeUnit
  let s := s.onCredit fun y => { y with q := x % Config.chargeUnit }
  if due = 0 then s
  else (s.onCredit fun y => y.take s.calendar.table.df due).evaluateCredit .block

/-- The taking of the hour rule: every hour crossed since the last run, as one lump (R46). -/
def Credit.chargeHours (x : Credit) (hour df sc : Nat) : Credit :=
  if x.hLast < hour then { x.take df ((hour - x.hLast) * sc) with hLast := hour } else x

/-- One run of the hour rule (R46). -/
def State.hourRule (s : State) : State :=
  if s.credit.hLast < hourOf s.calendar.t then
    (s.onCredit fun x => x.chargeHours (hourOf s.calendar.t) s.calendar.table.df s.calendar.table.sc).evaluateCredit .hour
  else s

/-! ### Emergency credit (R53) -/

/-- Whether a draw is accepted. -/
def State.drawAllowed (s : State) : Bool :=
  (decide (s.credit.state = .low) || decide (s.credit.state = .exhausted)) && s.credit.ea
    && decide (-(s.calendar.table.ec : Int) < s.credit.c)

/-- The answer's result data: state, EA, EM and C after the order. -/
def Credit.emergencyData (x : Credit) : ResultData := .emergency x.state x.ea x.em x.c

/-- The EMERGENCY order. -/
def State.drawEmergency (s : State) (order : OrderId) : State :=
  if s.drawAllowed then
    let s := ((s.onCredit fun x => { x with em := true, ea := false }).journal
      (.emergency s.credit.c s.calendar.table.ec)).evaluateCredit .emergency
    s.answer order .ok s.credit.emergencyData
  else s.answer order .wrongState s.credit.emergencyData

/-! ### Top-ups (R55, R56) -/

/-- The balance raised by an amount of minor units; a balance above 0 ends an emergency and restores the right to one. -/
def Credit.topUp (x : Credit) (amount : Nat) : Credit :=
  let c := x.c + amount * 1000
  if x.em && decide (0 < c) then { x with c := c, em := false, ea := true } else { x with c := c }

/-- A top-up request and its answer to the Code Unit (R55, R77). -/
def State.takeTopUp (s : State) (amount : Nat) : State :=
  if Config.creditCap < s.credit.c + amount * 1000 then s.codeOverCap s.credit.c
  else
    let s := (s.onCredit fun x => x.topUp amount).evaluateCredit .topUp
    s.codeAccepted s.credit.c

/-! ### Adoption (R58, R59) -/

/-- The clamp to the new debt floor; B gains what C rises by. -/
def Credit.clampFloor (x : Credit) (df : Nat) : Credit :=
  if x.c < -(df : Int) then { x with c := -(df : Int), b := x.b + BitVec.ofInt 64 (-(df : Int) - x.c) } else x

/-- Replaces the friendly view where one is given. -/
def Credit.view (x : Credit) (friendly : Option Bool) : Credit :=
  match friendly with
  | none => x
  | some f => { x with friendlyView := f }

/-- The news of a new table: the clamp, the evaluation, the friendly view, one re-evaluation of the reason. -/
def State.takeTable (s : State) (friendly : Option Bool) : State :=
  (((s.onCredit fun x => x.clampFloor s.calendar.table.df).recordCreditState .tariff).onCredit
    fun x => x.view friendly).reevaluateCredit false

/-! ### Meanings -/

/-- FRIENDLY_FLAG_NEWS (R60). One in flight at the HOLD entry is taken (notes/assumptions/46.md). -/
def execFriendlyFlagNews (friendly : Bool) (s : State) : Outcome :=
  .next (((s.took (.friendlyFlagNews friendly)).onCredit fun x => { x with friendlyView := friendly }).reevaluateCredit false)

/-- NEW_T_ARRIVAL (R46). -/
def execNewTArrival (s : State) : Outcome := .next (s.took .newTArrival).hourRule

/-- NEW_TABLE_ARRIVAL (R58). -/
def execNewTableArrival (friendly : Option Bool) (s : State) : Outcome :=
  .next ((s.took (.newTableArrival friendly)).takeTable friendly)

/-- CREDIT_BLOCK_RESULT (R43); taken after a HOLD entry as in RUN (R136). -/
def execCreditBlockResult (r : BlockResult) (s : State) : Outcome :=
  .next ((s.took (.creditBlockResult r)).chargeBlock r.billed)

/-- CREDIT_SECOND (R46); taken after a HOLD entry as in RUN (R136). -/
def execCreditSecond (s : State) : Outcome := .next (s.took .creditSecond).hourRule

/-- EMERGENCY (R53). -/
def execEmergency (order : OrderId) (s : State) : Outcome := .next ((s.took (.emergency order)).drawEmergency order)

/-- TOP_UP_REQUEST (R55). -/
def execTopUpRequest (amount : Nat) (s : State) : Outcome := .next ((s.took (.topUpRequest amount)).takeTopUp amount)

/-- SERVICE_STATE_NEWS_CREDIT (R60); the Settings Unit's arrival then goes on (R155). One in flight at the HOLD entry is taken, by the
model's choice of notes/assumptions/46.md. -/
def execServiceStateNewsCredit (st : ServiceState) (s : State) : Outcome :=
  .next ((((s.took (.serviceStateNewsCredit st)).onCredit fun x => { x with serviceView := st }).reevaluateCredit
    false).serviceNewsTaken true)

/-- CREDIT_WARM_START (R66): the HOLD lump, the evaluation, then the one matching request whether or not it agrees. -/
def execCreditWarmStart (s : State) : Outcome :=
  .next ((((s.took .creditWarmStart).onCredit fun x =>
    x.chargeHours (hourOf s.calendar.t) s.calendar.table.df s.calendar.table.sc).recordCreditState
      .hour).reevaluateCredit true)

end Sys2Proof.Machine
end

