-- ==== Sys2Proof/Machine/Switching.lean ====
section
/-! DEFINITION. The Switch Unit (05_supply_switch.md): the reason set, the relay's operations, STUCK, the power limit, and
the orders CONSENT, DISCONNECT and PERMIT. -/

namespace Sys2Proof.Machine

/-! ### Operations and arrivals -/

/-- The relay state of an operation in progress (R95). -/
def movingState : OpDirection → RelayState
  | .opening => .opening
  | .closing => .closing

/-- An operation starts in COIL_WAIT with attempt 1 and asks for a reading; from CLOSED the limit run becomes 0 (R95, R96). -/
def State.startOp (s : State) (d : OpDirection) (origin : OpOrigin) : State :=
  (s.onSwitch fun x =>
    { x with
      relay := movingState d
      operation := some ⟨d, .coilWait, 1, none, false, origin⟩
      limitRun := if x.relay = .closed then 0 else x.limitRun
      coilWait := false }).send (.coilReadingRequest 0)

/-- An arrival at CLOSED, OPEN, READY or STUCK (R99): its RELAY entry, its notice and its report to the Order Engine. CLOSED
clears the consent-required flag (R90) and the closed time; STUCK clears the STUCK wait. -/
def State.arrive (s : State) (st : RelayState) : State :=
  let s := s.onSwitch fun x =>
    { x with
      relay := st
      operation := none
      consent := x.consent && !decide (st = .closed)
      closedTime := if st = .closed then 0 else x.closedTime
      stuckWait := if st = .stuck then 0 else x.stuckWait }
  ((s.journal (.relay st s.switch.reasons s.switch.consent s.switch.sensedClosed)).raise .relay).send
    (.relayStateReport st s.switch.reasons)

/-- In STUCK the desired position is compared with the sensed one (R101). -/
def State.stuckCheck (s : State) : State :=
  if s.switch.relay = .stuck then
    if s.switch.reasons.isEmpty then (if s.switch.sensedClosed then s.arrive .closed else s)
    else (if s.switch.sensedClosed then s else s.arrive .open)
  else s

/-! ### The reason set (R89 to R92) -/

/-- A closing met by a reason (R91): in DRIVE the reverse mark waits for the end of the pulse, otherwise an opening replaces
the closing at once, with its origin. -/
def State.reverseClosing (s : State) : State :=
  match s.switch.operation with
  | none => s
  | some o =>
    match o.phase with
    | .drive _ _ => s.onSwitch fun x => { x with operation := some { o with reverse := true } }
    | .coilWait => s.startOp .opening o.origin
    | .settle _ => s.startOp .opening o.origin

/-- The reason set has become non-empty (R91). -/
def State.becameNonEmpty (s : State) : State :=
  match s.switch.relay with
  | .closed => s.startOp .opening .ordinary
  | .ready => s.arrive .open
  | .closing => s.reverseClosing
  | .stuck => s.stuckCheck
  | .opening => s
  | .open => s

/-- An open relay with an empty set: READY, or a closing where the consent-required flag is clear (R92). -/
def State.openChoice (s : State) : State :=
  if s.switch.consent then s.arrive .ready else s.startOp .closing .ordinary

/-- The reason set has become empty (R92). -/
def State.becameEmpty (s : State) : State :=
  match s.switch.relay with
  | .open => s.openChoice
  | .stuck => s.stuckCheck
  | .closed => s
  | .opening => s
  | .ready => s
  | .closing => s

/-- The reasons whose entry sets the consent-required flag (R90). -/
def Reason.consents : Reason → Bool
  | .credit => true
  | .tamper => true
  | .remote => true
  | .overLimit => false
  | .overVoltage => false

/-- Adds a reason (R89). In HOLD no relay moves (R111). -/
def State.addReason (s : State) (r : Reason) : State :=
  if s.switch.reasons.has r then s
  else
    let t := s.onSwitch fun x => { x with reasons := x.reasons.set r true, consent := x.consent || Reason.consents r }
    if s.switch.hold then t else if s.switch.reasons.isEmpty then t.becameNonEmpty else t.stuckCheck

/-- Removes a reason (R89). In HOLD no relay moves (R111). -/
def State.removeReason (s : State) (r : Reason) : State :=
  if s.switch.reasons.has r then
    let t := s.onSwitch fun x => { x with reasons := x.reasons.set r false }
    if s.switch.hold then t else if t.switch.reasons.isEmpty then t.becameEmpty else t.stuckCheck
  else s

/-! ### The phases of an operation (R96 to R98) -/

/-- The duty of a pulse in 256ths (R97). -/
def driveDuty (nom cs : Nat) : Nat := if nom = 0 then 0 else if cs = 0 then 256 else min 256 (256 * nom / cs)

/-- DRIVE begins with the reading that ended COIL_WAIT (R96, R97). -/
def State.beginDrive (s : State) (o : Operation) (cs : Nat) : State :=
  let duty := driveDuty (s.setting .csNom) cs
  s.onSwitch fun x =>
    { x with
      operation := some { o with phase := .drive 0 (s.setting .pulseLen), duty := some duty }
      lastDuty := duty
      coilWait := false }

/-- A reading taken in COIL_WAIT (R96). -/
def State.takeReading (s : State) (o : Operation) (cs : Nat) : State :=
  if s.setting .csMin ≤ cs then s.beginDrive o cs
  else if s.switch.coilWait then s
  else (s.onSwitch fun x => { x with coilWait := true }).raise .fault

/-- A coil supply reading; outside COIL_WAIT it leaves the relay alone (R96). -/
def State.coilTaken (s : State) (cs : Nat) : State :=
  match s.switch.operation with
  | none => s
  | some o =>
    match o.phase with
    | .coilWait => s.takeReading o cs
    | .drive _ _ => s
    | .settle _ => s

/-- The end of a pulse: SETTLE, or an opening where the reverse mark is set (R97, R91). -/
def State.endDrive (s : State) : State :=
  match s.switch.operation with
  | none => s
  | some o =>
    match o.phase with
    | .coilWait => s
    | .settle _ => s
    | .drive _ _ =>
      if o.reverse then s.startOp .opening o.origin
      else s.onSwitch fun x => { x with operation := some { o with phase := .settle 0 } }

/-- An operation that ends in a match (R98). -/
def State.opMatched (s : State) (d : OpDirection) : State :=
  match d with
  | .closing => s.arrive .closed
  | .opening => if s.switch.reasons.isEmpty then s.openChoice else s.arrive .open

/-- A second mismatch (R98): the fault is reported for an ordinary operation, and R101 is applied at the arrival at STUCK. -/
def State.opFailed (s : State) (o : Operation) : State :=
  match o.origin with
  | .ordinary =>
    (((s.journal (.relayFault o.direction s.switch.sensedClosed)).raise .fault).arrive .stuck).stuckCheck
  | .stuckRetry => (s.arrive .stuck).stuckCheck

/-- The second attempt (R98). -/
def State.retryOp (s : State) (o : Operation) : State :=
  (s.onSwitch fun x => { x with operation := some { o with phase := .coilWait, attempt := 2, duty := none } }).send
    (.coilReadingRequest 0)

/-- The comparison at the end of SETTLE (R98). -/
def State.compareSettled (s : State) (o : Operation) : State :=
  let s := s.onSwitch fun x => { x with sensedClosed := s.pins.loadSense }
  if s.switch.sensedClosed = decide (o.direction = .closing) then s.opMatched o.direction
  else if o.attempt < 2 then s.retryOp o
  else s.opFailed o

/-- The end of SETTLE (R98). -/
def State.endSettle (s : State) : State :=
  match s.switch.operation with
  | none => s
  | some o =>
    match o.phase with
    | .coilWait => s
    | .drive _ _ => s
    | .settle _ => s.compareSettled o

/-! ### Over-limit (R103, R104) -/

/-- The limit run after a block in which the test has held or failed (R103). -/
def nextRun (run : Nat) (holds : Bool) : Nat := if holds then min 240 (run + 1) else 0

/-- A trip (R104), at a block of `billed`. The counter stops at 3, its greatest value (05_supply_switch.md, State of the Switch Unit);
no run trips a fourth time (notes/assumptions/36.md). -/
def State.trip (s : State) (billed : Nat) : State :=
  let n := min 3 (s.switch.trips + 1)
  let m := if n < 3 then LimitMode.backoff else LimitMode.lockout
  let s := s.onSwitch fun x =>
    { x with
      limitRun := 0
      trips := n
      mode := m
      backoff := if n < 3 then s.setting .limitBackoff else x.backoff
      consent := x.consent || decide (3 ≤ n) }
  (s.addReason .overLimit).journal (.overLimit n m billed s.switch.pLim)

/-- A block result makes the trip of R104. -/
def State.trips (s : State) (billed : Nat) : Bool :=
  decide (s.switch.relay = .closed) && limitTest billed s.switch.pLim
    && decide (s.setting .limitHold ≤ nextRun s.switch.limitRun true)

/-- The power limit test at a block result (R103). -/
def State.testLimit (s : State) (billed : Nat) : State :=
  if s.switch.relay = .closed then
    if s.trips billed then s.trip billed
    else s.onSwitch fun x => { x with limitRun := nextRun x.limitRun (limitTest billed x.pLim) }
  else s.onSwitch fun x => { x with limitRun := 0 }

/-! ### Delivered seconds (R102, R105, R106) -/

/-- The back-off of a second; at 0 the mode ends and OVER_LIMIT leaves (R105). -/
def State.backoffSecond (s : State) : State :=
  if s.switch.mode = .backoff then
    if s.switch.backoff ≤ 1 then (s.onSwitch fun x => { x with backoff := 0, mode := .none }).removeReason .overLimit
    else s.onSwitch fun x => { x with backoff := x.backoff - 1 }
  else s

/-- The closed time of a second; at 600 the run of trips ends (R106). -/
def Switch.closedSecond (x : Switch) : Switch :=
  { x with
    closedTime := min Config.closedSeconds (x.closedTime + 1)
    trips := if x.closedTime + 1 = Config.closedSeconds then 0 else x.trips }

/-- A retry time (R102). -/
def State.stuckRetryTime (s : State) : State :=
  let s := s.onSwitch fun x => { x with stuckWait := 0 }
  if s.switch.reasons.isEmpty then (if s.switch.consent then s else s.startOp .closing .stuckRetry)
  else s.startOp .opening .stuckRetry

/-- The STUCK wait of a second (R102). -/
def State.stuckSecond (s : State) : State :=
  if s.switch.stuckWait + 1 < Config.stuckSeconds then s.onSwitch fun x => { x with stuckWait := x.stuckWait + 1 }
  else s.stuckRetryTime

/-- A delivered second: the back-off first, then the closed time or the STUCK wait of a relay that stood in that state at the
second and stands in it still (notes/assumptions/9.md). -/
def State.switchTick (s : State) : State :=
  let t := s.backoffSecond
  if s.switch.relay = .closed ∧ t.switch.relay = .closed then t.onSwitch Switch.closedSecond
  else if s.switch.relay = .stuck ∧ t.switch.relay = .stuck then t.stuckSecond
  else t

/-! ### Orders (R94, R108, R109) -/

/-- The lockout that a CONSENT ends: OPEN for OVER_LIMIT alone in mode LOCKOUT (R94). -/
def Switch.lockedOut (x : Switch) : Bool :=
  decide (x.relay = .open) && decide (x.reasons = ReasonSet.empty.set .overLimit true) && decide (x.mode = .lockout)

/-- Starts the closing of a consent, but for HOLD, in which no operation starts (R94, R111); from the return to RUN to the unit's own warm
start it starts none either, by the model's choice of notes/assumptions/49.md. -/
def State.consentClosing (s : State) : State := if s.switch.hold then s else s.startOp .closing .ordinary

/-- CONSENT (R94). -/
def State.takeConsent (s : State) (order : OrderId) : State :=
  if s.switch.relay = .ready then
    let t := s.consentClosing
    t.answer order .ok (.relay t.switch.relay ReasonSet.empty)
  else if s.switch.lockedOut then
    let t := (s.onSwitch fun x => { x with mode := .none, trips := 0, reasons := ReasonSet.empty }).consentClosing
    t.answer order .ok (.relay t.switch.relay ReasonSet.empty)
  else s.answer order .wrongState (.relay s.switch.relay s.switch.reasons)

/-- The answer or the park of a DISCONNECT, from the relay state that the addition leaves (R108). -/
def State.disconnectReply (s : State) (order : OrderId) : State :=
  match s.switch.relay with
  | .open => s.answer order .ok (.relay .open s.switch.reasons)
  | .ready => s.answer order .ok (.relay .ready s.switch.reasons)
  | .stuck => s.answer order .failed (.relay .stuck s.switch.reasons)
  | .opening => s.send (.ownerPark ⟨.switch, order⟩)
  | .closing => s.send (.ownerPark ⟨.switch, order⟩)
  | .closed => s.send (.ownerPark ⟨.switch, order⟩)

/-- DISCONNECT (R108). -/
def State.takeDisconnect (s : State) (order : OrderId) : State :=
  let t := s.addReason .remote
  (if t.switch.hold then t else t.stuckCheck).disconnectReply order

/-- PERMIT (R109). -/
def State.takePermit (s : State) (order : OrderId) : State :=
  let t := s.removeReason .remote
  t.answer order .ok (.relay t.switch.relay t.switch.reasons)

/-- A limit request and its answer to the Code Unit (R107, R78). -/
def State.takeLimit (s : State) (watts : Nat) : State :=
  let t := (s.onSwitch fun x =>
    { x with pLim := watts, limitRun := 0, trips := 0, mode := .none, backoff := 0 }).removeReason .overLimit
  t.codeAccepted t.credit.c

/-! ### HOLD and the warm start (R111, R112) -/

/-- What was in flight to the unit when its HOLD entry was made (R136). -/
def Instr.switchStale : Instr → Bool
  | .switchBlockResult _ => true
  | .switchSecond => true
  | .coilReading _ => true
  | _ => false

/-- The HOLD entry (R111). -/
def Switch.enterHold (x : Switch) : Switch :=
  { x with
    relay := if x.relay = .opening ∨ x.relay = .closing then .open else x.relay
    operation := none
    coilWait := false
    limitRun := 0
    hold := true }

/-- The re-sense of the relay (R112). -/
def State.resense (s : State) : State :=
  let s := s.onSwitch fun x => { x with hold := false, sensedClosed := s.pins.loadSense }
  if s.switch.sensedClosed then
    if s.switch.reasons.isEmpty then s.arrive .closed else s.startOp .opening .ordinary
  else if s.switch.reasons.isEmpty then s.openChoice
  else s.arrive .open

/-! ### Meanings -/

/-- REASON_REQUEST (R89). -/
def execReasonRequest (add : Bool) (reason : Reason) (s : State) : Outcome :=
  let t := s.took (.reasonRequest add reason)
  .next (if add then t.addReason reason else t.removeReason reason)

/-- CONSENT (R94). -/
def execConsent (order : OrderId) (s : State) : Outcome := .next ((s.took (.consent order)).takeConsent order)

/-- DISCONNECT (R108). -/
def execDisconnect (order : OrderId) (s : State) : Outcome := .next ((s.took (.disconnect order)).takeDisconnect order)

/-- PERMIT (R109). -/
def execPermit (order : OrderId) (s : State) : Outcome := .next ((s.took (.permit order)).takePermit order)

/-- COIL_READING (R96). -/
def execCoilReading (coil : Nat) (s : State) : Outcome := .next ((s.took (.coilReading coil)).coilTaken coil)

/-- DRIVE_END (R97). -/
def execDriveEnd (s : State) : Outcome := .next s.endDrive

/-- SETTLE_END (R98). -/
def execSettleEnd (s : State) : Outcome := .next s.endSettle

/-- LOAD_SENSE_CHANGE (R100): the line is not watched in HOLD. -/
def execLoadSenseChange (energised : Bool) (s : State) : Outcome :=
  let t := s.onPins fun p => { p with loadSense := energised }
  .next (if t.switch.hold then t else (t.onSwitch fun x => { x with sensedClosed := energised }).stuckCheck)

/-- SWITCH_BLOCK_RESULT (R103); not taken in HOLD (R136). -/
def execSwitchBlockResult (r : BlockResult) (s : State) : Outcome :=
  let t := s.took (.switchBlockResult r)
  .next (if t.switch.hold then t else t.testLimit r.billed)

/-- TRIP (R104): the block result at which the limit run reaches LIMIT_HOLD. -/
def execTrip (r : BlockResult) (s : State) : Outcome :=
  if !s.switch.hold && s.trips r.billed then .next ((s.took (.trip r)).testLimit r.billed) else .next s

/-- SWITCH_SECOND (R105); not taken in HOLD (R111). -/
def execSwitchSecond (s : State) : Outcome :=
  let t := s.took .switchSecond
  .next (if t.switch.hold then t else t.switchTick)

/-- BACKOFF_EXPIRY (R105): the second at which the back-off reaches 0. -/
def execBackoffExpiry (s : State) : Outcome :=
  if s.switch.hold = false ∧ s.switch.mode = .backoff ∧ s.switch.backoff ≤ 1 then .next (s.took .backoffExpiry).switchTick
  else .next s

/-- CLOSED_TIME_EXPIRY (R106): the second at which the closed time reaches 600. -/
def execClosedTimeExpiry (s : State) : Outcome :=
  if s.switch.hold = false ∧ s.switch.relay = .closed ∧ s.switch.closedTime + 1 = Config.closedSeconds then
    .next (s.took .closedTimeExpiry).switchTick
  else .next s

/-- STUCK_RETRY (R102): the second at which the STUCK wait reaches 300. -/
def execStuckRetry (s : State) : Outcome :=
  if s.switch.hold = false ∧ s.switch.relay = .stuck ∧ Config.stuckSeconds ≤ s.switch.stuckWait + 1 then
    .next (s.took .stuckRetry).switchTick
  else .next s

/-- LIMIT_REQUEST (R107). -/
def execLimitRequest (watts : Nat) (s : State) : Outcome := .next ((s.took (.limitRequest watts)).takeLimit watts)

/-- A request for a reading: at the unit's HOLD entry it is that of the operation that the entry abandons (R136). -/
def Instr.readingRequest : Instr → Bool
  | .coilReadingRequest _ => true
  | _ => false

/-- SWITCH_HOLD_ENTRY (R111): the abandoned operation's request for a reading is not answered (R136). -/
def execSwitchHoldEntry (s : State) : Outcome :=
  let t := ((s.dropStale .switchHoldEntry Instr.switchStale).took .switchHoldEntry).onSwitch Switch.enterHold
  .next { t with inFlight := t.inFlight.filter fun c => !Instr.readingRequest c }

/-- SWITCH_WARM_START (R112). -/
def execSwitchWarmStart (s : State) : Outcome := .next (s.took .switchWarmStart).resense

end Sys2Proof.Machine
end

