-- ==== Sys2Proof/Machine/Reports.lean ====
section
/-! DEFINITION. The Report Unit (11_journal_and_status_mirror.md): the append queue, the journal writer and the mirror
publisher. The arbiter calls `journalAccess` and `publisherAccess` when it grants their accesses (Machine/Exchanges.lean). -/

namespace Sys2Proof.Machine

/-! ### The journal writer (R206 to R209) -/

/-- The writer begins the entry `e`: its read of the read index comes first (R207). -/
def Report.beginEntry (x : Report) (e : Entry) (rest : List Entry) : Report :=
  { x with
    writer := some { entries := e :: rest, stage := .reading, savedOverflow := x.overflow, savedLoss := x.loss } }

/-- The writer takes the head `e` of the queue: an OVERFLOW entry for a queue loss comes before it, and the mark goes (R206). -/
def Report.handle (x : Report) (t : Nat) (e : Entry) : Report :=
  match x.loss with
  | none => x.beginEntry e []
  | some k => { x.beginEntry ⟨t, .overflow k⟩ [e] with loss := none }

/-- An idle writer takes the next entry from the queue; in HOLD it takes none (R206, R209). -/
def Report.takeNext (x : Report) (t : Nat) : Report :=
  if x.hold then x
  else
    match x.writer, x.queue with
    | none, e :: q => { x with queue := q }.handle t e
    | _, _ => x

/-- An entry arrives: it joins the queue, or it is lost and marked when 32 are waiting (R206). -/
def Report.enqueue (x : Report) (e : Entry) : Report :=
  if x.queue.length < Config.queueEntries then { x with queue := x.queue ++ [e] }
  else { x with loss := some (x.loss.getD e.event.kind) }

/-- The entry at the head of the writer is done: the next of its entries begins, or the next of the queue (R206). -/
def Report.entryDone (x : Report) (t : Nat) : Report :=
  match x.writer with
  | none => x
  | some wr =>
    match wr.entries.tail with
    | e :: rest => x.beginEntry e rest
    | [] => { x with writer := none }.takeNext t

/-- The span from P to an index of the ring, modulo 48 (R207). -/
def ringSpan (p i : Nat) : Nat := (i + Config.ringEntries - p) % Config.ringEntries

/-- The read index byte is accepted (R207). -/
def Report.accepts (x : Report) (r : Nat) : Bool :=
  decide (r < Config.ringEntries) && decide (ringSpan x.p r ≤ ringSpan x.p x.w)

/-- The unread count (R207). -/
def Report.unread (x : Report) : Nat := ringSpan x.p x.w

/-- The writer goes on to the five accesses of an entry (R208). -/
def Report.writeEntry (x : Report) (wr : Writer) (e : Entry) : Report :=
  { x with writer := some { wr with stage := .writing (entryBytes x.seq e) 0 } }

/-- The action of R208 on the entry `e` in hand. -/
def Report.judge (x : Report) (t : Nat) (wr : Writer) (e : Entry) : Report :=
  if x.unread < Config.overflowUnread then { x with overflow := false }.writeEntry wr e
  else if x.overflow then x.entryDone t
  else { x with overflow := true }.writeEntry wr ⟨t, .overflow e.event.kind⟩

/-- P settled from the byte read (R207). -/
def Report.settle (x : Report) (r : Nat) : Report := { x with p := if x.accepts r then r else x.w }

/-- The granted read of the word that holds the read index, and what follows it (R207, R208). -/
def State.handleEntry (s : State) (wr : Writer) (e : Entry) : State :=
  let r := (Memory.read s.exchange.mem 8).toNat
  let t := s.onReport fun x => (x.settle r).judge s.calendar.t wr e
  if s.report.accepts r then t else t.raise .link

/-- The header word at 0x004: the new W and the next sequence (R208, Header layout). -/
def headerWord (w : Nat) (seq : BitVec 16) : List Byte := [byteOf w, 0] ++ beBytes 2 seq.toNat

/-- The granted fifth access of an entry (R208). -/
def State.finishEntry (s : State) : State :=
  let w := (s.report.w + 1) % Config.ringEntries
  let seq := s.report.seq + 1
  (((s.store 4 (headerWord w seq)).onReport fun x => { x with w := w, seq := seq }).raise .journal).onReport
    fun x => x.entryDone s.calendar.t

/-- A granted access of an entry's five (R208). -/
def State.writeEntryAccess (s : State) (wr : Writer) (bytes : List Byte) (granted : Nat) : State :=
  if granted < 4 then
    (s.store (ringBase + 16 * s.report.w + 4 * granted) (fieldBytes bytes (4 * granted) 4)).onReport
      fun x => { x with writer := some { wr with stage := .writing bytes (granted + 1) } }
  else s.finishEntry

/-- The writer has an access waiting. -/
def Report.journalWaits (x : Report) : Bool :=
  !x.hold && match x.writer with
    | none => false
    | some wr => !wr.entries.isEmpty && match wr.stage with
      | .reading => true
      | .writing _ _ => true
      | .stopped _ => false

/-- The arbiter grants the journal writer its waiting access. -/
def State.journalAccess (s : State) : State :=
  match s.report.writer with
  | none => s
  | some wr =>
    match wr.stage, wr.entries with
    | .reading, e :: _ => s.handleEntry wr e
    | .writing bytes n, _ :: _ => s.writeEntryAccess wr bytes n
    | _, _ => s

/-- The writer stops: the overflow state and the loss mark go back to where they were when it began the entry, and an OVERFLOW
entry of a queue loss that was cut short is made again later (R209). -/
def Report.stopWriter (x : Report) : Report :=
  match x.writer with
  | none => x
  | some wr =>
    let back := { x with overflow := wr.savedOverflow, loss := wr.savedLoss }
    match wr.stage, wr.entries with
    | .stopped _, _ => x
    | _, _ :: e :: rest => { back with writer := some { wr with entries := e :: rest, stage := .stopped true } }
    | _, _ => { back with writer := some { wr with stage := .stopped false } }

/-- The writer resumes: the entry in hand is handled again from its read of the read index (R209). -/
def Report.resume (x : Report) (t : Nat) : Report :=
  match x.writer with
  | none => x.takeNext t
  | some wr =>
    match wr.stage, wr.entries with
    | .stopped true, e :: _ => { x with writer := none }.handle t e
    | .stopped _, e :: rest => x.beginEntry e rest
    | .stopped _, [] => { x with writer := none }.takeNext t
    | .reading, _ => x
    | .writing _ _, _ => x

/-! ### The mirror publisher (R210, R211) -/

/-- An internal take of MIRROR fails only when the link holds it (R180). -/
def State.mirrorTakeable (s : State) : Bool := decide (s.exchange.mirrorHolder ≠ .link)

/-- The remaining lockout formed for the mirror; an ended lockout is discarded (R72). -/
def Code.formLockout (x : Code) (t : Nat) : Code :=
  match x.lockoutEnd with
  | none => x
  | some e => if e ≤ t then { x with lockoutEnd := none } else x

/-- A publication begins (R211): MIRROR is taken, the count rises, and every field is collected at this moment. -/
def State.beginPublication (s : State) : State :=
  let count := s.report.pubCount + 1
  let s := (s.onExchange fun x => { x with mirrorHolder := .internal }).onCode fun x => x.formLockout s.calendar.t
  s.onReport fun x =>
    { x with
      publishing := true
      pubCount := count
      publication := some ⟨mirrorBytes s count (lockoutRemaining s.code.lockoutEnd s.calendar.t), 0⟩ }

/-- The publisher's take: a publication, or the pending flag (R210). -/
def State.tryPublish (s : State) : State :=
  if s.mirrorTakeable then s.beginPublication else s.onReport fun x => { x with pendingPub := true }

/-- A due time (R210). -/
def State.publicationDue (s : State) : State :=
  if s.report.publishing || s.report.pendingPub then s.onReport fun x => { x with pendingPub := true } else s.tryPublish

/-- A reported block completion (R210). -/
def State.countBlock (s : State) : State :=
  if s.report.blockCount + 1 < Config.publicationBlocks then
    s.onReport fun x => { x with blockCount := x.blockCount + 1 }
  else (s.onReport fun x => { x with blockCount := 0 }).publicationDue

/-- The publication is cleared with its flags (R210). -/
def Report.clearPublication (x : Report) : Report :=
  { x with pendingPub := false, publishing := false, publication := none }

/-- The news that MIRROR is free (R210). News of a warm start may be taken before the Energy Unit has taken its own; the publication then
shows the power and the voltage as they still stand (notes/assumptions/38.md). -/
def State.mirrorFreed (s : State) : State :=
  if s.report.pendingPub || s.report.publishing then (s.onReport Report.clearPublication).tryPublish else s

/-- The last word is granted (R211): MIRROR is given, its notice set, and a pending publication is taken at once (R210). -/
def State.endPublication (s : State) : State :=
  let pending := s.report.pendingPub
  let s := ((s.onExchange fun x => { x with mirrorHolder := .none }).onReport Report.clearPublication).raise .mirror
  if pending then s.tryPublish else s

/-- The publisher has an access to make; the arbiter grants it while the publisher holds MIRROR (R211, `State.nextGrant`). -/
def Report.publisherWaits (x : Report) : Bool := !x.hold && x.publication.isSome

/-- The arbiter grants the publisher its waiting access (R211). -/
def State.publisherAccess (s : State) : State :=
  match s.report.publication with
  | none => s
  | some p =>
    let s := s.store (mirrorBase + 4 * p.granted) (fieldBytes p.bytes (4 * p.granted) 4)
    if p.granted < 31 then s.onReport fun x => { x with publication := some { p with granted := p.granted + 1 } }
    else s.endPublication

/-! ### Meanings -/

/-- ENTRY_ARRIVAL (R206). -/
def execEntryArrival (e : Entry) (s : State) : Outcome :=
  .next ((s.took (.entryArrival e)).onReport fun x => (x.enqueue e).takeNext s.calendar.t)

/-- A report of a block completion: one from before a HOLD does not count after it (R212). -/
def Instr.blockReport : Instr → Bool
  | .blockCompletionReport => true
  | _ => false

/-- REPORT_HOLD_ENTRY (R209, R212): the publisher's waiting access is withdrawn (R174), and publishing stays set. -/
def execReportHoldEntry (s : State) : Outcome :=
  .next (((s.dropStale .reportHoldEntry Instr.blockReport).took .reportHoldEntry).onReport
    fun x => { x.stopWriter with hold := true, publication := none })

/-- REPORT_WARM_START (R212, R209). -/
def execReportWarmStart (s : State) : Outcome :=
  .next ((s.took .reportWarmStart).onReport fun x => { x with hold := false, blockCount := 0 }.resume s.calendar.t)

/-- BLOCK_COMPLETION_REPORT (R210); in HOLD no publication falls due (R212). -/
def execBlockCompletionReport (s : State) : Outcome :=
  let t := s.took .blockCompletionReport
  .next (if t.report.hold then t else t.countBlock)

/-- PUBLICATION_DUE (R210): the report at which the block count would reach 8. -/
def execPublicationDue (s : State) : Outcome :=
  if s.report.hold = false ∧ Config.publicationBlocks ≤ s.report.blockCount + 1 then
    .next (s.took .publicationDue).countBlock
  else .next s

/-- MIRROR_FREED_NEWS (R210). News of a give or a link reset that is taken in HOLD acts there too, by the model's choice of
notes/assumptions/51.md. -/
def execMirrorFreedNews (s : State) : Outcome := .next (s.took .mirrorFreedNews).mirrorFreed

end Sys2Proof.Machine
end

