-- ==== Sys2Proof/Machine/Orders.lean ====
section
/-! DEFINITION. The Order Engine (10_orders.md): the slot states, taking, dispatching and answering orders, parking, the work
list, and the engine's part of HOLD, warm start and link reset. The arbiter calls `engineAccess` when it grants an access of
the item at the head of the work list (Machine/Exchanges.lean). -/

namespace Sys2Proof.Machine

/-! ### Slots and the work list (R189, R196) -/

/-- A state item joins the work list unless one for the slot is waiting (R196). -/
def Engine.addState (x : Engine) (n : Fin 8) : Engine :=
  if WorkItem.state n ∈ x.work then x else { x with work := x.work ++ [.state n] }

/-- A change of a slot's state, with its state item (R189). -/
def Engine.setSlot (x : Engine) (n : Fin 8) (st : SlotState) : Engine :=
  { x with slots := x.slots.set n st }.addState n

/-- An item joins the work list. -/
def Engine.addItem (x : Engine) (w : WorkItem) : Engine := { x with work := x.work ++ [w] }

/-- The lowest-numbered POSTED slot (R193). -/
def Engine.lowestPosted (x : Engine) : Option (Fin 8) := (List.finRange 8).find? fun n => decide (x.slots[n] = .posted)

/-- A take, if one is due (R193): the slot becomes TAKEN, its copy item joins the work list, and the order has the number of the take. -/
def Engine.take (x : Engine) : Engine :=
  if x.mode = .running ∧ x.current = none then
    match x.lowestPosted with
    | none => x
    | some n =>
      { x.setSlot n .taken with current := some ⟨⟨n, x.takes⟩, [], .copying, false⟩, takes := x.takes + 1 }.addItem (.copy n)
  else x

/-- The current order ends and a take follows (R197, R198). -/
def Engine.endCurrent (x : Engine) : Engine := { x with current := none }.take

/-! ### Link actions (R190 to R192) -/

/-- The engine takes link actions: RUNNING, and no link reset's state items are waiting, for the link is not served then
(R190, R201, R203). -/
def Engine.takesActions (x : Engine) : Bool := decide (x.mode = .running) && !x.resetWriting

/-- A post (R190). -/
def State.postSlot (s : State) (n : Fin 8) : State :=
  if s.engine.slots[n] = .free then s.onEngine fun x => (x.setSlot n .posted).take else s.raise .link

/-- A withdraw (R191). -/
def State.withdrawSlot (s : State) (n : Fin 8) : State :=
  if s.engine.slots[n] = .posted then s.onEngine fun x => x.setSlot n .free else s

/-- A release (R192). -/
def State.releaseSlot (s : State) (n : Fin 8) : State :=
  if s.engine.slots[n] = .done then s.onEngine fun x => x.setSlot n .free else s.raise .link

/-! ### Answers and parks (R197, R198) -/

/-- An answer for the current order: ANSWERING, and its answer item (R197). -/
def Engine.answerCurrent (x : Engine) (o : CurrentOrder) (code : ResultCode) (data : ResultData) : Engine :=
  { x with current := some { o with phase := .answering } }.addItem (.answer o.id.slot code data)

/-- The current order, where it is the order that a reply names and its owner has it in hand (R198). -/
def Engine.withOwner (x : Engine) (n : OrderId) : Option CurrentOrder :=
  x.current.filter fun o => decide (o.id = n) && decide (o.phase = .withOwner)

/-- An answer in RUNNING, matched to the current order or to a parked entry, else discarded (R198): an order that a warm start has
answered or a link reset given up is named by no current and no parked order, whatever has been posted to its slot since (R202, R204,
notes/assumptions/47.md). The answer of an abandoned order is discarded and the order ends (R203). -/
def Engine.takeAnswer (x : Engine) (n : OrderId) (code : ResultCode) (data : ResultData) : Engine :=
  match x.withOwner n with
  | some o => if o.abandoned then x.endCurrent else x.answerCurrent o code data
  | none =>
    if x.parked.any fun p => decide (p.id = n) then
      { x with parked := x.parked.filter fun p => decide (p.id ≠ n) }.addItem (.answer n.slot code data)
    else x

/-- A park in RUNNING (R198), matched as an answer is; of an abandoned order it ends the order alone (R203). -/
def Engine.takePark (x : Engine) (n : OrderId) : Engine :=
  match x.withOwner n with
  | some o =>
    if o.abandoned then x.endCurrent
    else { x with parked := x.parked ++ [ParkedOrder.mk n (orderKind o.bytes)] }.endCurrent
  | none => x

/-- The result code that a relay state reported by R99 gives a parked DISCONNECT (R108). -/
def reportCode : RelayState → Option ResultCode
  | .open => some .ok
  | .ready => some .ok
  | .stuck => some .failed
  | .closed => none
  | .opening => none
  | .closing => none

/-- The Switch Unit's report answers every parked DISCONNECT, oldest first (R198, R108). -/
def Engine.takeReport (x : Engine) (st : RelayState) (r : ReasonSet) : Engine :=
  match reportCode st with
  | none => x
  | some code =>
    { x with
      parked := x.parked.filter fun p => decide (p.kind ≠ kindDisconnect)
      work := x.work ++ ((x.parked.filter fun p => decide (p.kind = kindDisconnect)).map
        fun p => .answer p.id.slot code (.relay st r)) }

/-! ### Dispatch (R195) -/

/-- The engine completes the current order itself (R195, R197). -/
def State.completeItself (s : State) (o : CurrentOrder) (code : ResultCode) : State :=
  s.onEngine fun x => x.answerCurrent o code .none

/-- The order is handed to its owner (R195). -/
def State.handOver (s : State) (o : CurrentOrder) (c : Instr) : State :=
  (s.onEngine fun x => { x with current := some { o with phase := .withOwner } }).send c

/-- The STAGE take of an ADOPT TARIFF, and its staging copy item (R38, R195). A STAGE that is still held internally, from a copy that a HOLD
cut short, is taken again (notes/assumptions/44.md). -/
def State.takeStage (s : State) (o : CurrentOrder) : State :=
  if s.exchange.stageHolder = .link then s.completeItself o .stageHeld
  else
    (s.onExchange fun x => { x with stageHolder := .internal }).onEngine
      fun x => { x with current := some o, staged := [] }.addItem .staging

/-- The engine's give of STAGE (R38, R42, R180): a hold that the link has taken in the meantime stands (notes/assumptions/44.md). -/
def Exchange.giveStage (x : Exchange) : Exchange :=
  { x with stageHolder := if x.stageHolder = .internal then .none else x.stageHolder }

/-- The dispatch of an order whose slot has been copied (R195). -/
def State.dispatch (s : State) (o : CurrentOrder) : State :=
  if orderKind o.bytes = kindAdoptTariff then s.takeStage o
  else
    match orderCommand o.id o.bytes with
    | none => s.completeItself o .unknownKind
    | some c => s.handOver o c

/-- The end of the staging copy: the engine gives STAGE and the image goes to the Calendar Unit (R38). -/
def State.stagingDone (s : State) (image : List Byte) : State :=
  let s := s.onExchange Exchange.giveStage
  match s.engine.current with
  | none => s
  | some o => s.handOver o (.tariffImageArrival o.id image)

/-! ### Work-list accesses (R194 to R197) -/

/-- The item at the head of the work list is done. -/
def Engine.popWork (x : Engine) : Engine := { x with work := x.work.tail, granted := 0 }

/-- The work list has emptied: a link reset's state items are written and the Exchange Unit may serve frames (R203); the
warm-start answers are written, the Exchange Unit is told, and the engine runs again (R202). A second link reset that the engine has not
yet taken keeps the frames unserved (R183, notes/assumptions/48.md). -/
def State.drained (s : State) : State :=
  if s.engine.work = [] then
    let s :=
      if s.engine.resetWriting then
        (s.onEngine fun x => { x with resetWriting := false }).onExchange
          fun x => { x with resetPending := x.resetPending && decide (Instr.engineLinkReset ∈ s.inFlight) }
      else s
    if s.engine.mode = .stopped ∧ s.engine.hold = false then
      (s.onEngine fun x => { x with mode := .running }.take).send .answersWrittenNews
    else s
  else s

/-- A granted access of a copy item: one word of the slot (R194). -/
def State.copyAccess (s : State) (n : Fin 8) : State :=
  let bytes := Memory.readWord s.exchange.mem (slotBase n / 4 + s.engine.granted)
  match s.engine.current with
  | none => s.onEngine Engine.popWork
  | some o =>
    let o := { o with bytes := o.bytes ++ bytes }
    if s.engine.granted < 9 then s.onEngine fun x => { x with current := some o, granted := x.granted + 1 }
    else (s.onEngine Engine.popWork).dispatch o

/-- A granted access of the staging copy: one word of the staging area (R38). -/
def State.stagingAccess (s : State) : State :=
  let bytes := s.engine.staged ++ Memory.readWord s.exchange.mem (stagingBase / 4 + s.engine.granted)
  if s.engine.granted < 63 then s.onEngine fun x => { x with staged := bytes, granted := x.granted + 1 }
  else (s.onEngine fun x => { x.popWork with staged := [] }).stagingDone bytes

/-- The last access of an answer item: the order is complete (R197). -/
def State.completeAnswer (s : State) (n : Fin 8) : State :=
  (s.onEngine fun x =>
    let y := x.popWork.setSlot n .done
    if (y.current.any fun o => decide (o.id.slot = n)) then y.endCurrent else y).raise .answer

/-- A granted access of an answer item: one of the six words from offset 40 of the slot (R197). -/
def State.answerAccess (s : State) (n : Fin 8) (code : ResultCode) (data : ResultData) : State :=
  let s := s.store (slotBase n + 40 + 4 * s.engine.granted) (fieldBytes (answerBytes code data) (4 * s.engine.granted) 4)
  if s.engine.granted < 5 then s.onEngine fun x => { x with granted := x.granted + 1 } else s.completeAnswer n

/-- The granted access of a state item: the slot state byte as the state then stands (R189). -/
def State.stateAccess (s : State) (n : Fin 8) : State :=
  (s.store (slotBase n + 1) [byteOf s.engine.slots[n].number]).onEngine Engine.popWork

/-- The engine has an access waiting: it performs its work list but in HOLD (R201, R202). -/
def Engine.waits (x : Engine) : Bool := !x.hold && !x.work.isEmpty

/-- The arbiter grants the engine its waiting access. -/
def State.engineAccess (s : State) : State :=
  match s.engine.work with
  | [] => s
  | .copy n :: _ => s.copyAccess n
  | .staging :: _ => s.stagingAccess
  | .answer n code data :: _ => (s.answerAccess n code data).drained
  | .state n :: _ => (s.stateAccess n).drained

/-! ### HOLD, warm start, link reset (R201 to R203) -/

/-- What is in flight to the engine and is never taken once it is STOPPED: link actions (R201). -/
def Instr.linkAction : Instr → Bool
  | .post _ => true
  | .withdraw _ => true
  | .release _ => true
  | _ => false

/-- The owners' replies and reports, which the engine discards in STOPPED (R201, R202). -/
def Instr.ownerReply : Instr → Bool
  | .ownerAnswer _ _ _ => true
  | .ownerPark _ => true
  | .relayStateReport _ _ => true
  | _ => false

/-- The work of a warm start: ABORTED answers for the TAKEN slots in slot order, then state items for the others (R202), in slot
order by the model's choice (notes/assumptions/39.md). -/
def Engine.warmWork (x : Engine) : List WorkItem :=
  ((List.finRange 8).filter fun n => decide (x.slots[n] = .taken)).map (fun n => .answer n .aborted .none)
    ++ ((List.finRange 8).filter fun n => decide (x.slots[n] ≠ .taken)).map fun n => .state n

/-- The engine's warm start up to its work list (R202, steps 1 to 3). -/
def Engine.warmStart (x : Engine) : Engine :=
  { x with
    work := x.warmWork
    granted := 0
    staged := []
    current := none
    parked := []
    mode := .stopped
    hold := false }

/-- The current order after a link reset: kept, abandoned, only while it is with its owner (R203, step 3). -/
def CurrentOrder.afterReset (o : CurrentOrder) : Option CurrentOrder :=
  match o.phase with
  | .copying => none
  | .withOwner => some { o with abandoned := true }
  | .answering => none

/-- The engine's link reset (R203); the eight state items stand in slot order by the model's choice (notes/assumptions/39.md). -/
def Engine.linkReset (x : Engine) : Engine :=
  { x with
    work := (List.finRange 8).map fun n => .state n
    granted := 0
    staged := []
    parked := []
    current := x.current.bind CurrentOrder.afterReset
    slots := #v[.free, .free, .free, .free, .free, .free, .free, .free]
    resetWriting := true }

/-- A staging copy was in progress, so the engine holds STAGE (R42). -/
def Engine.copiesStage (x : Engine) : Bool := x.work.any fun w => decide (w = .staging)

/-! ### Meanings -/

/-- POST (R190). -/
def execPost (n : Fin 8) (s : State) : Outcome :=
  let t := s.took (.post n)
  .next (if t.engine.takesActions then t.postSlot n else t)

/-- WITHDRAW (R191). -/
def execWithdraw (n : Fin 8) (s : State) : Outcome :=
  let t := s.took (.withdraw n)
  .next (if t.engine.takesActions then t.withdrawSlot n else t)

/-- RELEASE (R192). -/
def execRelease (n : Fin 8) (s : State) : Outcome :=
  let t := s.took (.release n)
  .next (if t.engine.takesActions then t.releaseSlot n else t)

/-- OWNER_ANSWER (R197); discarded in STOPPED (R201). -/
def execOwnerAnswer (n : OrderId) (code : ResultCode) (data : ResultData) (s : State) : Outcome :=
  let t := s.took (.ownerAnswer n code data)
  .next (if t.engine.mode = .running then t.onEngine fun x => x.takeAnswer n code data else t)

/-- OWNER_PARK (R198); discarded in STOPPED (R201). -/
def execOwnerPark (park : Park) (s : State) : Outcome :=
  let t := s.took (.ownerPark park)
  .next (if t.engine.mode = .running then t.onEngine fun x => x.takePark park.order else t)

/-- RELAY_STATE_REPORT (R198); discarded in STOPPED (R201). -/
def execRelayStateReport (st : RelayState) (r : ReasonSet) (s : State) : Outcome :=
  let t := s.took (.relayStateReport st r)
  .next (if t.engine.mode = .running then t.onEngine fun x => x.takeReport st r else t)

/-- What the engine's HOLD entry takes back: an order that its owner has not begun and would begin in RUN alone (R67, R88), and an
unread news of written answers, which belongs to an earlier start (notes/assumptions/20.md). -/
def Instr.withdrawnAtHold (c : Instr) : Bool := decide (c = .answersWrittenNews) || Instr.runOrder c

/-- ENGINE_HOLD_ENTRY (R201). -/
def execEngineHoldEntry (s : State) : Outcome :=
  let t := (((s.dropStale .engineHoldEntry Instr.linkAction).took .engineHoldEntry).onEngine
    fun x => { x with mode := .stopped, hold := true }).onExchange fun x => { x with answersTold := false }
  .next { t with inFlight := t.inFlight.filter fun c => !Instr.withdrawnAtHold c }

/-- What is in flight to the engine at its warm start and is never taken: replies (R202), and link actions, which came while it was STOPPED
(R201, notes/assumptions/18.md). -/
def Instr.engineStale (c : Instr) : Bool := Instr.ownerReply c || Instr.linkAction c

/-- ENGINE_WARM_START (R202). -/
def execEngineWarmStart (s : State) : Outcome :=
  let t := s.took .engineWarmStart
  .next ({ t with inFlight := t.inFlight.filter fun c => !Instr.engineStale c }.onEngine Engine.warmStart)

/-- ENGINE_LINK_RESET (R203); a staging copy in progress frees STAGE (R42). One that the engine takes after its HOLD entry acts by the
model's choice of notes/assumptions/40.md. -/
def execEngineLinkReset (s : State) : Outcome :=
  let t := (s.dropStale .engineLinkReset Instr.linkAction).took .engineLinkReset
  let u := if t.engine.copiesStage then t.onExchange Exchange.giveStage else t
  .next (u.onEngine Engine.linkReset)

end Sys2Proof.Machine
end

