-- ==== Sys2Proof/Machine/Exchanges.lean ====
section
/-! DEFINITION. The Exchange Unit (09_exchange_memory_and_the_link.md): the arbiter, frames, the link registers, the
semaphores, the link state and the link reset; and the rows of the table that name one case of a granted access. -/

namespace Sys2Proof.Machine

/-! ### The arbiter (R173) -/

/-- The requesters of the arbiter. -/
inductive Requester where
  | link
  | journal
  | engine
  | publisher
  deriving DecidableEq, Repr

/-- The requester whose waiting access is granted next: link, journal writer, Order Engine, publisher (R173). In HOLD no access
waits (R174); the publisher writes only while it holds MIRROR (R211). -/
def State.nextGrant (s : State) : Option Requester :=
  if s.exchange.hold then none
  else if s.exchange.linkRequest.isSome then some .link
  else if s.report.journalWaits then some .journal
  else if s.engine.waits then some .engine
  else if s.report.publisherWaits && decide (s.exchange.mirrorHolder = .internal) then some .publisher
  else none

/-- The link's granted access: a fetch gives the frame its current word, a store writes the bytes that remain (R171, R172). -/
def Exchange.linkAccess (x : Exchange) : Exchange :=
  match x.linkRequest with
  | none => x
  | some (.fetch w) =>
    { x with
      linkRequest := none
      frame := x.frame.map fun f => { f with word := .fetched w (Memory.readWord x.mem w) } }
  | some (.store cells) => { x with linkRequest := none, mem := Memory.writeAll x.mem cells }

/-- One grant of the arbiter (R173). -/
def State.grant (s : State) : State :=
  match s.nextGrant with
  | none => s
  | some .link => s.onExchange Exchange.linkAccess
  | some .journal => s.journalAccess
  | some .engine => s.engineAccess
  | some .publisher => s.publisherAccess

/-- A link access, granted in time for the bytes of the frame (R173). -/
def State.requestLink (s : State) (a : LinkAccess) : State :=
  (s.onExchange fun x => { x with linkRequest := some a }).grant

/-! ### Semaphores and registers (R175 to R181) -/

/-- A link read of a semaphore returns 0 with the take, or 1 (R180). -/
def Exchange.semaphoreByte (x : Exchange) (m : Semaphore) : Byte := if x.holder m = .none then 0 else 1

/-- The take of a link read (R180). -/
def Exchange.linkTake (x : Exchange) (m : Semaphore) : Exchange := if x.holder m = .none then x.setHolder m .link else x

/-- The link frees a semaphore it holds; the Report Unit is told of MIRROR (R181). -/
def State.linkGive (s : State) (m : Semaphore) : State :=
  let t := s.onExchange fun x => x.setHolder m .none
  if m = .mirror then t.send .mirrorFreedNews else t

/-- A link write of a semaphore register (R181). -/
def State.writeSemaphore (s : State) (m : Semaphore) (v : Byte) : State :=
  if v ≠ 0 then s.raise .link
  else
    match s.exchange.holder m with
    | .none => s
    | .link => s.linkGive m
    | .internal => s.raise .link

/-- What a link read of a register address returns (R175, R176, R177). -/
def State.registerByte (s : State) (a : Nat) : Byte :=
  match a with
  | 0xFC0 => s.engine.signal .posted
  | 0xFC2 => s.engine.signal .done
  | 0xFC3 => s.exchange.notices
  | 0xFC4 => s.exchange.enable
  | 0xFC8 => s.exchange.semaphoreByte .mirror
  | 0xFC9 => s.exchange.semaphoreByte .stage
  | _ => 0

/-- The effect of a link read of a register address: the take of a semaphore (R180). -/
def Exchange.readEffect (x : Exchange) (a : Nat) : Exchange :=
  match a with
  | 0xFC8 => x.linkTake .mirror
  | 0xFC9 => x.linkTake .stage
  | _ => x

/-- One action for each 1 bit of a byte written to POST, WITHDRAW or DONE (R177). -/
def State.sendActions (s : State) (v : Byte) (action : Fin 8 → Instr) : State :=
  (List.finRange 8).foldl (fun t n => if v.getLsbD n.val then t.send (action n) else t) s

/-- A write of NOTICE (R178). -/
def Exchange.clearNotices (x : Exchange) (v : Byte) : Exchange := { x with notices := x.notices &&& ~~~v }

/-- A link write of a register address (R175, R176). -/
def State.writeRegister (s : State) (a : Nat) (v : Byte) : State :=
  match a with
  | 0xFC0 => s.sendActions v .post
  | 0xFC1 => s.sendActions v .withdraw
  | 0xFC2 => s.sendActions v .release
  | 0xFC3 => s.onExchange fun x => x.clearNotices v
  | 0xFC4 => s.onExchange fun x => { x with enable := v }
  | 0xFC8 => s.writeSemaphore .mirror v
  | 0xFC9 => s.writeSemaphore .stage v
  | _ => s

/-! ### Frames (R168 to R172) -/

/-- CSN is low: a frame is in progress or one is being ignored. -/
def Exchange.csnLow (x : Exchange) : Bool := x.frame.isSome || x.ignoring

/-- A frame that is served begins: the notice word is latched and shifted out, then 0x00 up to the data bytes (R168, R169). -/
def Exchange.openFrame (x : Exchange) (write : Bool) (walk : Walk) (address : BitVec 12) : Exchange :=
  { x with
    frame := some ⟨write, walk, address, .none⟩
    miso := x.notices :: List.replicate (if write then 2 else 3) 0 }

/-- A frame that ends before its address is complete (R169), and every invalid frame (R168): the notice byte, then 0x00. -/
def Exchange.emptyFrame (x : Exchange) (count : Nat) : Exchange := { x with miso := x.notices :: List.replicate count 0 }

/-- Bytes of a frame that is not served read 0xFF (R174, R183); `fresh` where CSN has just fallen. -/
def Exchange.floatBytes (x : Exchange) (fresh : Bool) (count : Nat) (last : Bool) : Exchange :=
  { x with
    miso := (if fresh then [] else x.miso) ++ List.replicate count 0xFF
    ignoring := !last }

/-- The frame's byte is shifted out and the walk moves the address (R169, R170). -/
def Exchange.shiftOut (x : Exchange) (f : Frame) (b : Byte) : Exchange :=
  { x with frame := some { f with address := f.walk.next f.address }, miso := x.miso ++ [b] }

/-- The byte of an address in the frame's fetched word. -/
def Frame.fetchedByte (f : Frame) (a : Nat) : Option Byte :=
  match f.word with
  | .none => none
  | .gathered _ _ => none
  | .fetched w bytes => if w = a / 4 then some (bytes.getD (a % 4) 0) else none

/-- A byte read from an assigned address: from the current word, which is fetched when the frame enters it (R171). -/
def State.readMemoryByte (s : State) (f : Frame) : State :=
  let a := f.address.toNat
  let t := if (f.fetchedByte a).isSome then s else s.requestLink (.fetch (a / 4))
  match t.exchange.frame with
  | none => t
  | some g => t.onExchange fun x => x.shiftOut g ((g.fetchedByte a).getD 0)

/-- A data byte of a READ (R171, R176). -/
def State.readByte (s : State) (f : Frame) : State :=
  let a := f.address.toNat
  if registerBase ≤ a then
    let b := s.registerByte a
    s.onExchange fun x => (x.readEffect a).shiftOut { f with word := .none } b
  else if ownerOf a = .unassigned then s.onExchange fun x => x.shiftOut { f with word := .none } 0
  else s.readMemoryByte f

/-- The data bytes of a READ segment. -/
def State.readBytes : Nat → State → State
  | 0, s => s
  | n + 1, s =>
    match s.exchange.frame with
    | none => s
    | some f => State.readBytes n (s.readByte f)

/-- A byte gathered into its place by address, the last value standing (R172). -/
def gatherByte : List Host.Cell → Nat → Byte → List Host.Cell
  | [], a, v => [(a, v)]
  | (x, w) :: cs, a, v =>
    if a < x then (a, v) :: (x, w) :: cs else if a = x then (a, v) :: cs else (x, w) :: gatherByte cs a v

/-- The gathered bytes of a word are applied: part-owned bytes set LINK, unassigned bytes are discarded, and what remains is
one write access (R172). -/
def State.applyBytes (s : State) (cells : List Host.Cell) : State :=
  let t := if cells.any fun c => decide (ownerOf c.1 = .part) then s.raise .link else s
  let kept := cells.filter fun c => decide (ownerOf c.1 = .host)
  if kept.isEmpty then t else t.requestLink (.store kept)

/-- The frame leaves its word: what it has gathered is applied (R172). -/
def State.applyGathered (s : State) : State :=
  match s.exchange.frame with
  | none => s
  | some f =>
    match f.word with
    | .none => s
    | .fetched _ _ => s
    | .gathered _ cells =>
      (s.onExchange fun x => { x with frame := some { f with word := .none } }).applyBytes cells

/-- The bytes gathered so far of the word `w`. -/
def Frame.gatheredOf (f : Frame) (w : Nat) : List Host.Cell :=
  match f.word with
  | .none => []
  | .fetched _ _ => []
  | .gathered v cells => if v = w then cells else []

/-- A data byte of a WRITE (R172, R176): a register write acts at once; a memory byte is gathered, and applied when the walk
leaves its word. -/
def State.writeByte (s : State) (f : Frame) (v : Byte) : State :=
  let a := f.address.toNat
  if registerBase ≤ a then (s.onExchange fun x => x.shiftOut f 0).writeRegister a v
  else
    let g := { f with word := .gathered (a / 4) (gatherByte (f.gatheredOf (a / 4)) a v) }
    let t := s.onExchange fun x => x.shiftOut g 0
    if (f.walk.next f.address).toNat / 4 = a / 4 then t else t.applyGathered

/-- The data bytes of a WRITE segment. -/
def State.writeBytes : List Byte → State → State
  | [], s => s
  | v :: vs, s =>
    match s.exchange.frame with
    | none => s
    | some f => State.writeBytes vs (s.writeByte f v)

/-- CSN rises: a gathered word is applied, and the frame record is removed (R169, R172). -/
def State.endFrame (s : State) : State := s.applyGathered.onExchange fun x => { x with frame := none }

/-- The end of a segment. -/
def State.endSegment (s : State) (last : Bool) : State := if last then s.endFrame else s

/-- A frame goes on with this command and walk. -/
def Exchange.goesOn (x : Exchange) (write : Bool) (walk : Walk) : Bool :=
  x.frame.any fun f => f.write == write && decide (f.walk = walk)

/-- A segment of a READ frame (R168 to R171). A frame that is not served reads 0xFF (R174). -/
def State.readFrame (s : State) (walk : Walk) (g : ReadSegment) : State :=
  match g.start with
  | .at address =>
    if s.exchange.csnLow then s
    else if s.served then
      (State.readBytes g.count (s.onExchange fun x => x.openFrame false walk (address.setWidth 12))).endSegment g.last
    else s.onExchange fun x => x.floatBytes true (4 + g.count) g.last
  | .short k =>
    if s.exchange.csnLow then s
    else if s.served then s.onExchange fun x => x.emptyFrame k.val
    else s.onExchange fun x => x.floatBytes true (1 + k.val) true
  | .goOn =>
    if s.exchange.ignoring then s.onExchange fun x => x.floatBytes false g.count g.last
    else if s.exchange.goesOn false walk then (State.readBytes g.count s).endSegment g.last
    else s

/-- A segment of a WRITE frame (R168 to R170, R172). -/
def State.writeFrame (s : State) (walk : Walk) (g : WriteSegment) : State :=
  match g.start with
  | .at address =>
    if s.exchange.csnLow then s
    else if s.served then
      (State.writeBytes g.data (s.onExchange fun x => x.openFrame true walk (address.setWidth 12))).endSegment g.last
    else s.onExchange fun x => x.floatBytes true (3 + g.data.length) g.last
  | .short k =>
    if s.exchange.csnLow then s
    else if s.served then s.onExchange fun x => x.emptyFrame k.val
    else s.onExchange fun x => x.floatBytes true (1 + k.val) true
  | .goOn =>
    if s.exchange.ignoring then s.onExchange fun x => x.floatBytes false g.data.length g.last
    else if s.exchange.goesOn true walk then (State.writeBytes g.data s).endSegment g.last
    else s

/-- The command bytes of READ and WRITE frames (R168). -/
def validCommand (c : Byte) : Bool := decide (c.toNat / 4 = 0x2C) || decide (c.toNat / 4 = 0x1C)

/-! ### The link state and the link reset (R174, R183) -/

/-- A frame in progress is dropped: its record and a gathered word go, and the link's waiting access is withdrawn (R172, R174,
R183). -/
def Exchange.dropFrame (x : Exchange) : Exchange :=
  { x with frame := none, ignoring := x.csnLow, linkRequest := none }

/-- A semaphore that the link holds is freed (R182). -/
def Holder.freed (h : Holder) : Holder := if h = .link then .none else h

/-- The link reset (R183). -/
def State.resetLink (s : State) : State :=
  let t := s.onExchange fun x =>
    { x.dropFrame with
      notices := 0
      enable := 0
      mirrorHolder := Holder.freed x.mirrorHolder
      stageHolder := Holder.freed x.stageHolder
      resetPending := true }
  let u := if s.exchange.mirrorHolder = .link then t.send .mirrorFreedNews else t
  (u.send .engineLinkReset).send .tamperLinkReset

/-- The link opens; a LINKRSTN that stands asserted is a link reset at that moment (R174, R183). -/
def State.openLink (s : State) : State :=
  let t := s.onExchange fun x => { x with link := .open }
  if t.pins.linkrstn then t.resetLink else t

/-- The Order Engine has taken every HOLD entry and warm start sent to it (notes/assumptions/20.md). -/
def State.engineCurrent (s : State) : Bool :=
  decide (Instr.engineHoldEntry ∉ s.inFlight) && decide (Instr.engineWarmStart ∉ s.inFlight)

/-- All that R174 asks before the link opens at a warm start has been done: the semaphores are free and the answers written. -/
abbrev State.linkDue (s : State) : Prop :=
  s.exchange.link = .closed ∧ s.exchange.hold = false ∧ s.exchange.answersTold = true ∧ s.engineCurrent = true

/-- The link opens at a warm start once it is due (R174). -/
def State.tryOpen (s : State) : State := if s.linkDue then s.openLink else s

/-! ### Meanings: frames -/

/-- READ_ASCEND (R171). -/
def execReadAscend (g : ReadSegment) (s : State) : Outcome := .next (s.readFrame .ascend g)

/-- READ_DESCEND (R171). -/
def execReadDescend (g : ReadSegment) (s : State) : Outcome := .next (s.readFrame .descend g)

/-- READ_HOLD (R171). -/
def execReadHold (g : ReadSegment) (s : State) : Outcome := .next (s.readFrame .hold g)

/-- READ_LINE_ASCEND (R171). -/
def execReadLineAscend (g : ReadSegment) (s : State) : Outcome := .next (s.readFrame .lineAscend g)

/-- WRITE_ASCEND (R172). -/
def execWriteAscend (g : WriteSegment) (s : State) : Outcome := .next (s.writeFrame .ascend g)

/-- WRITE_DESCEND (R172). -/
def execWriteDescend (g : WriteSegment) (s : State) : Outcome := .next (s.writeFrame .descend g)

/-- WRITE_HOLD (R172). -/
def execWriteHold (g : WriteSegment) (s : State) : Outcome := .next (s.writeFrame .hold g)

/-- WRITE_LINE_ASCEND (R172). -/
def execWriteLineAscend (g : WriteSegment) (s : State) : Outcome := .next (s.writeFrame .lineAscend g)

/-- INVALID_COMMAND (R168): LINK is set, no access is made, and 0x00 is shifted out until CSN rises. -/
def execInvalidCommand (command : Byte) (count : Nat) (s : State) : Outcome :=
  if s.exchange.csnLow || validCommand command then .next s
  else if s.served then .next ((s.onExchange fun x => x.emptyFrame count).raise .link)
  else .next (s.onExchange fun x => x.floatBytes true (1 + count) true)

/-- FRAME_WHILE_CLOSED (R174): a frame that is not served, or the rest of one that began so. -/
def execFrameWhileClosed (count : Nat) (last : Bool) (s : State) : Outcome :=
  if s.exchange.ignoring then .next (s.onExchange fun x => x.floatBytes false count last)
  else if s.exchange.frame.isSome || s.served then .next s
  else .next (s.onExchange fun x => x.floatBytes true count last)

/-! ### Meanings: granted accesses (R173) -/

/-- ACCESS_GRANT (R173). -/
def execAccessGrant (s : State) : Outcome := .next s.grant

/-- SLOT_COPY_DONE (R194): the grant of the tenth word of a copy item. -/
def execSlotCopyDone (s : State) : Outcome :=
  match s.nextGrant, s.engine.work with
  | some .engine, .copy _ :: _ => if 9 ≤ s.engine.granted then .next s.grant else .next s
  | _, _ => .next s

/-- STAGING_COPY_DONE (R38): the grant of the 64th word of the staging copy. -/
def execStagingCopyDone (s : State) : Outcome :=
  match s.nextGrant, s.engine.work with
  | some .engine, .staging :: _ => if 63 ≤ s.engine.granted then .next s.grant else .next s
  | _, _ => .next s

/-- ANSWER_COMPLETE (R197): the grant of the sixth word of an answer item. -/
def execAnswerComplete (s : State) : Outcome :=
  match s.nextGrant, s.engine.work with
  | some .engine, .answer _ _ _ :: _ => if 5 ≤ s.engine.granted then .next s.grant else .next s
  | _, _ => .next s

/-- STATE_BYTE_WRITTEN (R189): the grant of a state item. -/
def execStateByteWritten (s : State) : Outcome :=
  match s.nextGrant, s.engine.work with
  | some .engine, .state _ :: _ => .next s.grant
  | _, _ => .next s

/-- ENTRY_HANDLING (R207): the grant of the writer's read of the read index. -/
def execEntryHandling (s : State) : Outcome :=
  match s.nextGrant, s.report.writer.map Writer.stage with
  | some .journal, some .reading => .next s.grant
  | _, _ => .next s

/-- ENTRY_WRITTEN (R208): the grant of the fifth access of an entry. -/
def execEntryWritten (s : State) : Outcome :=
  match s.nextGrant, s.report.writer.map Writer.stage with
  | some .journal, some (.writing _ n) => if 4 ≤ n then .next s.grant else .next s
  | _, _ => .next s

/-- PUBLICATION_END (R211): the grant of the 32nd word of the mirror. -/
def execPublicationEnd (s : State) : Outcome :=
  match s.nextGrant, s.report.publication with
  | some .publisher, some p => if 31 ≤ p.granted then .next s.grant else .next s
  | _, _ => .next s

/-! ### Meanings: registers (R176 to R181) -/

/-- NOTICE_CLEAR (R178). -/
def execNoticeClear (bits : Byte) (s : State) : Outcome :=
  if s.served then .next (s.writeRegister 0xFC3 bits) else .next s

/-- NOTICE_ENABLE (R179). -/
def execNoticeEnable (mask : Byte) (s : State) : Outcome :=
  if s.served then .next (s.writeRegister 0xFC4 mask) else .next s

/-- The address of a semaphore register (R175). -/
def semaphoreAddress : Semaphore → Nat
  | .mirror => 0xFC8
  | .stage => 0xFC9

/-- SEMAPHORE_TAKE (R180): the byte it returns is the byte that the host sees. -/
def execSemaphoreTake (m : Semaphore) (s : State) : Outcome :=
  if s.served then
    .next (s.onExchange fun x => { x.readEffect (semaphoreAddress m) with miso := [s.registerByte (semaphoreAddress m)] })
  else .next s

/-- SEMAPHORE_GIVE (R181). -/
def execSemaphoreGive (m : Semaphore) (v : Byte) (s : State) : Outcome :=
  if s.served then .next (s.writeRegister (semaphoreAddress m) v) else .next s

/-- The unassigned addresses among and above the registers (R167, R176). -/
def unassignedAddress (a : Nat) : Bool :=
  decide (0xFC5 ≤ a) && decide (a ≤ 0xFC7) || decide (0xFCA ≤ a) && decide (a ≤ 0xFFF)

/-- REGISTER_WRITE_OTHER (R176): discarded without the LINK notice. An assigned address is no such write. -/
def execRegisterWriteOther (address : BitVec 12) (v : Byte) (s : State) : Outcome :=
  if s.served && unassignedAddress address.toNat then .next (s.writeRegister address.toNat v) else .next s

/-! ### Meanings: the link state -/

/-- EXCHANGE_HOLD_ENTRY (R174). -/
def execExchangeHoldEntry (s : State) : Outcome :=
  .next ((s.took .exchangeHoldEntry).onExchange fun x => { x.dropFrame with link := .closed, hold := true })

/-- EXCHANGE_WARM_START (R182). -/
def execExchangeWarmStart (s : State) : Outcome :=
  .next ((((s.took .exchangeWarmStart).onExchange fun x =>
    { x with hold := false, mirrorHolder := .none, stageHolder := .none }).send .mirrorFreedNews).tryOpen)

/-- ANSWERS_WRITTEN_NEWS (R174). -/
def execAnswersWrittenNews (s : State) : Outcome :=
  .next ((s.took .answersWrittenNews).onExchange fun x => { x with answersTold := true }).tryOpen

/-- LINK_RESET (R183): the assertion of LINKRSTN; not taken while the link is CLOSED. Between a HOLD entry and the unit's own HOLD entry
it is taken, by the model's choice of notes/assumptions/41.md. -/
def execLinkReset (s : State) : Outcome :=
  let t := s.onPins fun p => { p with linkrstn := true }
  .next (if s.pins.linkrstn = false ∧ t.exchange.link = .open then t.resetLink else t)

/-- LINKRSTN_RELEASE (R183): frames are served again from the next CSN fall once the state bytes are written. -/
def execLinkrstnRelease (s : State) : Outcome := .next (s.onPins fun p => { p with linkrstn := false })

end Sys2Proof.Machine
end

