-- ==== Sys2Proof/Machine/Metering.lean ====
section
/-! DEFINITION. The Energy Unit (01_energy_measurement.md): block completions, channel energies, the billing channel, the
registers, the qualification counters and the block result. -/

namespace Sys2Proof.Machine

/-! ### Channels -/

/-- What a channel counts in a block: its energy, its new remainder and its direction (R4, R5). -/
structure ChannelCount where
  energy : Nat
  remainder : Nat
  direction : Direction
  deriving DecidableEq, Repr

/-- The direction of a product (R5). -/
def directionOf (a : Int) : Direction := if 0 < a then .forward else if a < 0 then .reverse else .none

/-- A channel's count from its exact product and its remainder: nothing for a creep channel (R4), else the whole
microwatt-hours of magnitude and remainder (R5). -/
def countChannel (a : Int) (remainder creep : Nat) : ChannelCount :=
  if a.natAbs < creep * Config.energyUnit then ⟨0, remainder, .none⟩
  else ⟨(a.natAbs + remainder) / Config.energyUnit, (a.natAbs + remainder) % Config.energyUnit, directionOf a⟩

/-- The billing channel: the greater magnitude, L where they are equal (R7). -/
def billingChannel (aL aN : Int) : Channel := if aN.natAbs ≤ aL.natAbs then .line else .neutral

/-- The block power in watts (R9). -/
def blockPower (billed : Nat) : Nat := billed * 36 / 1250

/-- The RMS voltage in decivolts (R10). -/
def blockVoltage (sV kV : Nat) : Nat := isqrt (sV / 500) * kV / 65536

/-! ### Qualification -/

/-- A qualification counter after a non-settling block (R19), with its forced count (R20). -/
def Qualifier.update (q : Qualifier) (raw : Bool) : Qualifier :=
  { q with
    count := if raw then min 255 (q.count + 1) else 0
    forcedCount := if q.forced then min 255 (q.forcedCount + 1) else q.forcedCount }

/-- What the block result reports of a condition at its threshold (R19, R20). -/
def Qualifier.report (q : Qualifier) (threshold : Nat) : ConditionReport :=
  ⟨decide (threshold ≤ q.count), q.forced && decide (threshold ≤ q.forcedCount)⟩

/-- Sets or clears the forced mark of an energy condition, with its forced count at 0 (R20). Line sources have none. -/
def Energy.force (x : Energy) (i : Source) (on : Bool) : Energy :=
  match i with
  | .imbalance => { x with imbalance := { x.imbalance with forced := on, forcedCount := 0 } }
  | .reverse => { x with reverseFlow := { x.reverseFlow with forced := on, forcedCount := 0 } }
  | .bypass => { x with bypass := { x.bypass with forced := on, forcedCount := 0 } }
  | _ => x

/-! ### The block -/

/-- The registers after a block: billed always, forward or reverse by the billing direction; each wraps at 64 bits (R8). -/
def Energy.register (x : Energy) (billed : Nat) (d : Direction) : Energy :=
  { x with
    billed := x.billed + BitVec.ofNat 64 billed
    forward := if d = .forward then x.forward + BitVec.ofNat 64 billed else x.forward
    reverse := if d = .reverse then x.reverse + BitVec.ofNat 64 billed else x.reverse }

/-- The Energy Unit after a non-settling block, and the block result (R2 to R20). -/
def State.meterBlock (s : State) (sL sN : Int) (sV : Nat) : Energy × BlockResult :=
  let aL := sL * (s.setting .kL : Int)
  let aN := sN * (s.setting .kN : Int)
  let l := countChannel aL s.energy.rL (s.setting .creep)
  let n := countChannel aN s.energy.rN (s.setting .creep)
  let ch := billingChannel aL aN
  let billed := if ch = .line then l.energy else n.energy
  let dir := if ch = .line then l.direction else n.direction
  let u := blockVoltage sV (s.setting .kV)
  let qi := s.energy.imbalance.update (rawImbalance aL.natAbs aN.natAbs (s.setting .imbT) (s.setting .imbFloor))
  let qr := s.energy.reverseFlow.update (rawReverse dir billed (s.setting .revFloor))
  let qb := s.energy.bypass.update (rawBypass s.switch.relay billed (s.setting .bypassFloor))
  ({ s.energy.register billed dir with
      rL := l.remainder, rN := n.remainder, imbalance := qi, reverseFlow := qr, bypass := qb,
      power := blockPower billed, voltage := u },
   { billed := billed, channel := ch, direction := dir,
     lineMagnitude := aL.natAbs / Config.energyUnit, neutralMagnitude := aN.natAbs / Config.energyUnit,
     voltage := u, relay := s.switch.relay,
     imbalance := qi.report (s.setting .imbBlocks), reverse := qr.report Config.reverseBlocks,
     bypass := qb.report Config.bypassBlocks })

/-- Delivers a block result to its four units (R15). -/
def State.deliver (s : State) (r : BlockResult) : State :=
  (((s.send (.creditBlockResult r)).send (.tamperBlockResult r)).send (.switchBlockResult r)).send
    (.supervisorBlockResult r)

/-- A metered block: the Energy Unit as the block leaves it, the block result delivered, the completion reported (R13, R15). -/
def State.recordBlock (s : State) (b : Energy × BlockResult) : State :=
  ((s.onEnergy fun _ => b.1).deliver b.2).send .blockCompletionReport

/-- A block completion in RUN: a settling block only clears the settling flag (R12, R13); every completion is reported to the
Report Unit (R13). -/
def State.completeBlock (s : State) (sL sN : Int) (sV : Nat) : State :=
  if s.energy.settling then (s.onEnergy fun x => { x with settling := false }).send .blockCompletionReport
  else s.recordBlock (s.meterBlock sL sN sV)

/-! ### Meanings -/

/-- BLOCK_COMPLETION (R1): blocks complete while the power state is RUN. -/
def execBlockCompletion (sL sN : Int) (sV : Nat) (s : State) : Outcome :=
  if s.supply.power = .run then .next (s.completeBlock sL sN sV) else .next s

/-- CALIBRATION_WRITE_NEWS (R3); the write then goes on (R154). -/
def execCalibrationWriteNews (channel : Channel) (s : State) : Outcome :=
  .next (((s.took (.calibrationWriteNews channel)).onEnergy fun x =>
    match channel with
    | .line => { x with rL := 0 }
    | .neutral => { x with rN := 0 }).writeNewsTaken .energy)

/-- ENERGY_HOLD_ENTRY (R21). -/
def execEnergyHoldEntry (s : State) : Outcome :=
  .next (((s.took .energyHoldEntry).onEnergy fun x =>
    { x with
      imbalance := { x.imbalance with count := 0 }
      reverseFlow := { x.reverseFlow with count := 0 }
      bypass := { x.bypass with count := 0 } }).send .conditionsUnqualifiedNews)

/-- ENERGY_WARM_START (R24). -/
def execEnergyWarmStart (s : State) : Outcome :=
  .next ((s.took .energyWarmStart).onEnergy fun x => { x with settling := true, power := 0, voltage := 0 })

end Sys2Proof.Machine
end

