-- ==== Sys2Proof/Machine/Tampers.lean ====
section
/-! DEFINITION. The Tamper Unit (06_tamper_detection.md): line qualification, block reports, occurrences and their actions,
the TAMPER reason, clears, the standby watch and the self-test injection. -/

namespace Sys2Proof.Machine

/-! ### The TAMPER reason (R121) -/

/-- Asks for TAMPER to be added or removed where the condition and TAMPER requested disagree, or in any case when `resend` is
set, as at a warm start. -/
def State.reevaluateTamper (s : State) (resend : Bool) : State :=
  let want := s.tamperCondition
  if resend || want != s.tamper.requested then
    (s.onTamper fun x => { x with requested := want }).send (.reasonRequest want .tamper)
  else s

/-! ### Occurrences (R118, R119, R126) -/

/-- The block report of a source; line sources have none. -/
def Tamper.report (x : Tamper) : Source → BlockReport
  | .imbalance => x.imbalance
  | .reverse => x.reverseFlow
  | .bypass => x.bypass
  | _ => ⟨false, 0, 0⟩

/-- Values A and B of an occurrence's entry (R119). -/
def Tamper.values (x : Tamper) (i : Source) : Nat × Nat :=
  match i with
  | .case => ((x.record i).count, 0)
  | .terminal => ((x.record i).count, 0)
  | .magnet => ((x.record i).count, 0)
  | .imbalance => (x.imbalance.valueA, x.imbalance.valueB)
  | .reverse => (x.reverseFlow.valueA, x.reverseFlow.valueB)
  | .bypass => (x.bypass.valueA, x.bypass.valueB)

/-- Steps 1 to 4 of R118 on a source record, at time `t`. -/
def SourceRecord.occur (r : SourceRecord) (t : Nat) : SourceRecord :=
  { r with
    active := true
    latch := true
    first := if r.latch then r.first else t
    count := min 255 (r.count + 1)
    last := t }

/-- The standby mark after one more standby occurrence (R126). -/
def SourceRecord.standbyMark (r : SourceRecord) (t : Nat) : SourceRecord :=
  { r with
    standby :=
      match r.standby with
      | none => some ⟨t, 1⟩
      | some m => some ⟨m.time, min 255 (m.number + 1)⟩ }

/-- The actions JOURNAL and NOTICE of an effective mask (R119). -/
def State.perform (s : State) (mask : Nat) (time : Nat) (e : Event) : State :=
  let s := if maskJournal mask then s.journalAt time e else s
  if maskNotice mask then s.raise .tamper else s

/-- Steps 1 to 5 of R118: the record and the actions. A CASE occurrence in HOLD makes its standby mark instead (R126); HOLD lasts here from
the unit's HOLD entry to its warm start, by the model's choice of notes/assumptions/52.md. -/
def State.recordOccurrence (s : State) (i : Source) : State :=
  let t := s.calendar.t
  let s := s.onTamper fun x => x.setRecord i ((x.record i).occur t)
  if i = .case ∧ s.tamper.hold = true then s.onTamper fun x => x.setRecord i ((x.record i).standbyMark t)
  else s.perform (s.effectiveMask i) t (.tamper i false false (s.tamper.values i).1 (s.tamper.values i).2)

/-- An occurrence (R118): step 6 waits for the warm start where step 5 does (R126). -/
def State.occur (s : State) (i : Source) : State :=
  let t := s.recordOccurrence i
  if i = .case ∧ s.tamper.hold = true then t else t.reevaluateTamper false

/-- A source's active bit clears (R120). -/
def Tamper.deactivate (x : Tamper) (i : Source) : Tamper := x.setRecord i { x.record i with active := false }

/-! ### Injection (R128 to R131) -/

/-- A real qualification of a source is absorbed: an injection stands on it, in RUN (R131, R133). -/
def Tamper.absorbs (x : Tamper) (i : Source) : Bool :=
  !x.hold && match x.injection with
    | none => false
    | some j => decide (j.target = i)

/-- A qualification taken as real, unless an injection absorbs it (R115, R116, R117). -/
def State.qualify (s : State) (i : Source) : State := if s.tamper.absorbs i then s else s.occur i

/-- The source of a line. -/
def Line.source : Line → Source
  | .case => .case
  | .terminal => .terminal
  | .magnet => .magnet

/-- The stage of a line. -/
def Tamper.line (x : Tamper) : Line → LineStage
  | .case => x.caseLine
  | .terminal => x.terminalLine
  | .magnet => x.magnetLine

/-- Replaces the stage of a line. -/
def Tamper.setLine (x : Tamper) (l : Line) (g : LineStage) : Tamper :=
  match l with
  | .case => { x with caseLine := g }
  | .terminal => { x with terminalLine := g }
  | .magnet => { x with magnetLine := g }

/-- The real condition of a source stands qualified (R131). -/
def Tamper.qualified (x : Tamper) : Source → Bool
  | .case => decide (x.caseLine.stage = .qualified)
  | .terminal => decide (x.terminalLine.stage = .qualified)
  | .magnet => decide (x.magnetLine.stage = .qualified)
  | .imbalance => x.imbalance.qualified
  | .reverse => x.reverseFlow.qualified
  | .bypass => x.bypass.qualified

/-- The withdrawal of an injection (R131): the forcing of a block source ends, and a real condition that stands qualified with
the active bit clear makes its occurrence. -/
def State.withdrawInjection (s : State) : State :=
  match s.tamper.injection with
  | none => s
  | some j =>
    let s := (s.onTamper fun x => { x with injection := none }).onEnergy fun x => x.force j.target false
    if (s.tamper.record j.target).active then s
    else if s.tamper.qualified j.target then s.occur j.target
    else s

/-- The test occurrence (R129, R130): the entry, the answer, the withdrawal. -/
def State.testOccurrence (s : State) (j : Injection) : State :=
  ((s.journal (.tamper j.target true false j.timer 0)).answer j.order .ok
    (.testOk j.target.index.val j.timer s.calendar.t)).withdrawInjection

/-- The deadline of an injection in ms (R128). -/
def State.injectionDeadline (s : State) : Source → Nat
  | .case => 1050
  | .terminal => 1050
  | .magnet => 3000
  | .imbalance => s.setting .imbBlocks * 125 + 1000
  | .reverse => 6000
  | .bypass => 3000

/-- The forced stage with which an injection begins (R128, R129). -/
def Source.forcedStage : Source → Stage
  | .case => .pending
  | .terminal => .pending
  | .magnet => .pending
  | .imbalance => .normal
  | .reverse => .normal
  | .bypass => .normal

/-- An injection on a source: the record, the news to the Energy Unit, the park (R128). One made before the unit's warm start is withdrawn
there, by the model's choice of notes/assumptions/52.md. -/
def State.inject (s : State) (order : OrderId) (i : Source) : State :=
  ((s.onTamper fun x =>
    { x with injection := some ⟨i, s.injectionDeadline i, 0, Source.forcedStage i, 0, order⟩ }).onEnergy
      fun x => x.force i true).send (.ownerPark ⟨.tamper, order⟩)

/-- SELF TEST in the order of R128. DESIGN CHOICE: after a test of target 6 the unit takes further arrivals while its request is untaken
(R132 leaves that open), and a second such test, after a warm start has aborted the first, takes the first's place
(notes/assumptions/54.md). -/
def State.selfTest (s : State) (order : OrderId) (target : Nat) : State :=
  if 6 < target then s.answer order .badArgument .noneOfTamper
  else
    match s.tamper.injection with
    | some j => s.answer order .wrongState (.target j.target.index.val)
    | none =>
      match Source.ofNumber target with
      | none => (s.onTamper fun x => { x with integrityTest := some order }).send .integrityTestRequest
      | some i =>
        if (s.tamper.record i).active then s.answer order .wrongState (.target target) else s.inject order i

/-- The forced stage of a CASE or TERMINAL injection is PENDING and its timer runs (R129). -/
def Injection.forcedRunning (j : Injection) : Bool :=
  decide (j.stage = .pending) && decide (j.target ≠ .magnet)

/-- The expiry of the forced timer (R129). The injection timer has run on with it. -/
def State.forcedExpiry (s : State) : State :=
  match s.tamper.injection with
  | none => s
  | some j =>
    if Injection.forcedRunning j && !s.tamper.hold then
      let j := { j with stage := .qualified, timer := j.timer + (Config.lineMs - j.forcedTimer), forcedTimer := Config.lineMs }
      (s.onTamper fun x => { x with injection := some j }).testOccurrence j
    else s

/-- The deadline of an injection (R133). -/
def State.deadlineExpiry (s : State) : State :=
  match s.tamper.injection with
  | none => s
  | some j =>
    if s.tamper.hold then s
    else (s.answer j.order .failed (.testFailed j.target.index.val j.deadline)).withdrawInjection

/-! ### Lines (R115, R116) -/

/-- A line enters its tamper level: from NORMAL it becomes PENDING with its timer or count at 0. -/
def LineStage.enter (g : LineStage) : LineStage := if g.stage = .normal then ⟨.pending, 0⟩ else g

/-- A change of a line as it is taken: into its tamper level, or out of it with the active bit cleared. -/
def Tamper.moveLine (x : Tamper) (l : Line) (tampered : Bool) : Tamper :=
  if tampered then x.setLine l (LineStage.enter (x.line l))
  else if (x.line l).stage = .qualified then (x.setLine l ⟨.normal, 0⟩).deactivate (Line.source l)
  else x.setLine l ⟨.normal, 0⟩

/-- The pin of a line. -/
def Pins.setLine (p : Pins) (l : Line) (tampered : Bool) : Pins :=
  match l with
  | .case => { p with caseOpen := tampered }
  | .terminal => { p with terminalOpen := tampered }
  | .magnet => { p with magnetOn := tampered }

/-- A line is taken: CASE while the retained domain holds, the others between the warm start and the HOLD entry (R115, R125,
R138). -/
def State.lineTaken (s : State) (l : Line) : Bool := s.supply.retention && (decide (l = .case) || !s.tamper.hold)

/-- The 50 ms timer of a line expires (R115). -/
def State.lineExpiry (s : State) (l : Line) : State :=
  if (s.tamper.line l).stage = .pending ∧ s.lineTaken l = true ∧ l ≠ .magnet then
    (s.onTamper fun x => x.setLine l ⟨.qualified, Config.lineMs⟩).qualify (Line.source l)
  else s

/-- A second of a forced MAGNET stage (R129). -/
def State.forcedMagnetSecond (s : State) : State :=
  match s.tamper.injection with
  | none => s
  | some j =>
    if j.target = .magnet ∧ j.stage = .pending then
      if j.forcedTimer + 1 < Config.magnetSeconds then
        s.onTamper fun x => { x with injection := some { j with forcedTimer := j.forcedTimer + 1 } }
      else
        let j := { j with stage := .qualified, forcedTimer := Config.magnetSeconds }
        (s.onTamper fun x => { x with injection := some j }).testOccurrence j
    else s

/-- A second of the real MAGNET line (R116). -/
def State.magnetSecond (s : State) : State :=
  if s.tamper.magnetLine.stage = .pending then
    if s.tamper.magnetLine.timer + 1 < Config.magnetSeconds then
      s.onTamper fun x => { x with magnetLine := ⟨.pending, x.magnetLine.timer + 1⟩ }
    else (s.onTamper fun x => { x with magnetLine := ⟨.qualified, Config.magnetSeconds⟩ }).qualify .magnet
  else s

/-- A delivered second: the real line first, then the forced stage (notes/assumptions/10.md). -/
def State.tamperSecond (s : State) : State := s.magnetSecond.forcedMagnetSecond

/-- A second at which a MAGNET count reaches 2, of the real line or of the forced stage. -/
def Tamper.magnetReached (x : Tamper) : Bool :=
  (decide (x.magnetLine.stage = .pending) && decide (Config.magnetSeconds ≤ x.magnetLine.timer + 1))
    || match x.injection with
      | none => false
      | some j => decide (j.target = .magnet) && decide (j.stage = .pending)
          && decide (Config.magnetSeconds ≤ j.forcedTimer + 1)

/-! ### Block results (R117, R130) -/

/-- The condition of a block result that a source reads. -/
def BlockResult.condition (r : BlockResult) : Source → ConditionReport
  | .imbalance => r.imbalance
  | .reverse => r.reverse
  | .bypass => r.bypass
  | _ => ⟨false, false⟩

/-- A block report replaced; the journal values are those of the result that qualifies it (R117, R119). -/
def BlockReport.replace (b : BlockReport) (qualified : Bool) (a c : Nat) : BlockReport :=
  if qualified then (if b.qualified then b else ⟨true, a, c⟩) else ⟨false, b.valueA, b.valueB⟩

/-- The three block reports replaced (R117). -/
def Tamper.takeReports (x : Tamper) (r : BlockResult) : Tamper :=
  { x with
    imbalance := BlockReport.replace x.imbalance r.imbalance.qualified r.lineMagnitude r.neutralMagnitude
    reverseFlow := BlockReport.replace x.reverseFlow r.reverse.qualified r.billed r.channel.number
    bypass := BlockReport.replace x.bypass r.bypass.qualified r.billed r.relay.number }

/-- A block source's report compared with its active bit (R117). -/
def State.compareReport (s : State) (i : Source) : State :=
  if (s.tamper.report i).qualified then
    (if (s.tamper.record i).active then s else s.qualify i)
  else if (s.tamper.record i).active then s.onTamper fun x => x.deactivate i
  else s

/-- The three comparisons of R117, in the order of the sources' numbers by the model's choice of notes/assumptions/50.md. -/
def State.compareReports (s : State) : State :=
  ((s.compareReport .imbalance).compareReport .reverse).compareReport .bypass

/-- The test occurrence of a block source, if the result reports its target test-qualified (R130). -/
def State.blockTest (s : State) (r : BlockResult) : State :=
  match s.tamper.injection with
  | none => s
  | some j => if (BlockResult.condition r j.target).testQualified then s.testOccurrence j else s

/-- A block result: a test occurrence and its withdrawal come before the ordinary reports (R130). -/
def State.tamperBlock (s : State) (r : BlockResult) : State :=
  ((s.blockTest r).onTamper fun x => x.takeReports r).compareReports

/-- The Energy Unit's news at its HOLD entry, as a block result that reports all three unqualified (R117, R21). -/
def State.conditionsUnqualified (s : State) : State :=
  (s.onTamper fun x =>
    { x with
      imbalance := { x.imbalance with qualified := false }
      reverseFlow := { x.reverseFlow with qualified := false }
      bypass := { x.bypass with qualified := false } }).compareReports

/-! ### Clearing (R122, R123) -/

/-- The latches of the named sources cleared (R122, step 1). -/
def Tamper.clearLatches (x : Tamper) (mask : BitVec 6) : Tamper :=
  Source.all.foldl (fun y i =>
    if mask.getLsbD i.index.val then y.setRecord i { y.record i with latch := false } else y) x

/-- A named source that is active re-occurs. -/
def State.reoccurOne (s : State) (mask : BitVec 6) (i : Source) : State :=
  if mask.getLsbD i.index.val && (s.tamper.record i).active then s.recordOccurrence i else s

/-- The named sources that are active re-occur, in number order (R122, step 3). -/
def State.reoccur (s : State) (mask : BitVec 6) : State := Source.all.foldl (fun t i => t.reoccurOne mask i) s

/-- A clear (R122). -/
def State.clearSources (s : State) (byOrder : Bool) (mask : BitVec 6) : State :=
  let before := s.tamper.latches &&& mask
  ((((s.onTamper fun x => x.clearLatches mask).journal (.tamperCleared byOrder mask before)).reoccur
    mask).reevaluateTamper false)

/-- CLEAR TAMPER (R123). -/
def State.clearOrder (s : State) (order : OrderId) (mask : Byte) : State :=
  if s.settings.service = .inService then s.answer order .refusedLocked .noneOfTamper
  else if mask = 0 ∨ 63 < mask.toNat then s.answer order .badArgument .noneOfTamper
  else
    let t := s.clearSources true (mask.setWidth 6)
    t.answer order .ok (.clearTamper (mask.setWidth 6) t.tamper.latches)

/-! ### HOLD and the warm start (R125, R127, R133) -/

/-- What was in flight to the unit when its HOLD entry was made (R136). -/
def Instr.tamperStale : Instr → Bool
  | .tamperBlockResult _ => true
  | .tamperSecond => true
  | _ => false

/-- TERMINAL and MAGNET at rest (R125). -/
def Tamper.restLines (x : Tamper) : Tamper :=
  (({ x with terminalLine := ⟨.normal, 0⟩, magnetLine := ⟨.normal, 0⟩, hold := true }).deactivate .terminal).deactivate
    .magnet

/-- The HOLD entry: the lines at rest, and the standby occurrence of a CASE that an injection had absorbed (R125, R133). -/
def State.tamperHold (s : State) : State :=
  let owed := s.tamper.absorbs .case && s.tamper.qualified .case && !(s.tamper.record .case).active
  let s := s.onTamper Tamper.restLines
  if owed then s.occur .case else s

/-- The actions for the CASE standby mark, and its removal (R127, step 1). -/
def State.standbyActions (s : State) : State :=
  match (s.tamper.record .case).standby with
  | none => s
  | some m =>
    (s.perform (s.effectiveMask .case) m.time (.tamper .case false true m.number (s.tamper.record .case).last)).onTamper
      fun x => x.setRecord .case { x.record .case with standby := none }

/-- TERMINAL and MAGNET are taken again as they stand (R127, step 4). -/
def Tamper.resumeLines (x : Tamper) (p : Pins) : Tamper :=
  { x with
    terminalLine := if p.terminalOpen then ⟨.pending, 0⟩ else ⟨.normal, 0⟩
    magnetLine := if p.magnetOn then ⟨.pending, 0⟩ else ⟨.normal, 0⟩ }

/-- The warm start in the order of R127. An injection that a SELF TEST has made since the return to RUN is withdrawn with the rest, without
an answer (notes/assumptions/52.md). -/
def State.tamperWarm (s : State) : State :=
  let s := ((s.onTamper fun x => { x with hold := false }).standbyActions.withdrawInjection).reevaluateTamper true
  s.onTamper fun x => x.resumeLines s.pins

/-! ### Meanings -/

/-- CONDITIONS_UNQUALIFIED_NEWS (R117). -/
def execConditionsUnqualifiedNews (s : State) : Outcome :=
  .next (s.took .conditionsUnqualifiedNews).conditionsUnqualified

/-- LINE_CHANGE (R115, R116). -/
def execLineChange (line : Line) (tampered : Bool) (s : State) : Outcome :=
  let t := s.onPins fun p => p.setLine line tampered
  .next (if t.lineTaken line then t.onTamper fun x => x.moveLine line tampered else t)

/-- QUALIFICATION_TIMER_EXPIRY (R115). -/
def execQualificationTimerExpiry (line : Line) (s : State) : Outcome := .next (s.lineExpiry line)

/-- TAMPER_SECOND (R116); not taken in HOLD (R136). -/
def execTamperSecond (s : State) : Outcome :=
  let t := s.took .tamperSecond
  .next (if t.tamper.hold then t else t.tamperSecond)

/-- MAGNET_COUNT_REACHED (R116): the second at which a MAGNET count reaches 2. -/
def execMagnetCountReached (s : State) : Outcome :=
  if !s.tamper.hold && s.tamper.magnetReached then .next (s.took .magnetCountReached).tamperSecond else .next s

/-- TAMPER_BLOCK_RESULT (R117); not taken in HOLD (R136). -/
def execTamperBlockResult (r : BlockResult) (s : State) : Outcome :=
  let t := s.took (.tamperBlockResult r)
  .next (if t.tamper.hold then t else t.tamperBlock r)

/-- CLEAR_REQUEST (R122) and its answer to the Code Unit (R78, R80). -/
def execClearRequest (mask : BitVec 6) (s : State) : Outcome :=
  let t := (s.took (.clearRequest mask)).clearSources false mask
  .next (t.codeAccepted t.credit.c)

/-- CLEAR_TAMPER (R123). -/
def execClearTamper (order : OrderId) (mask : Byte) (s : State) : Outcome :=
  .next ((s.took (.clearTamper order mask)).clearOrder order mask)

/-- ACTION_MASK_NEWS (R124); the write then goes on (R154). -/
def execActionMaskNews (s : State) : Outcome :=
  .next (((s.took .actionMaskNews).reevaluateTamper false).writeNewsTaken .tamper)

/-- SERVICE_STATE_NEWS_TAMPER (R124); the Settings Unit's arrival then goes on (R155), also in HOLD (notes/assumptions/46.md). -/
def execServiceStateNewsTamper (s : State) : Outcome :=
  .next (((s.took .serviceStateNewsTamper).reevaluateTamper false).serviceNewsTaken false)

/-- TAMPER_HOLD_ENTRY (R125). -/
def execTamperHoldEntry (s : State) : Outcome :=
  .next ((s.dropStale .tamperHoldEntry Instr.tamperStale).took .tamperHoldEntry).tamperHold

/-- TAMPER_WARM_START (R127). -/
def execTamperWarmStart (s : State) : Outcome := .next (s.took .tamperWarmStart).tamperWarm

/-- SELF_TEST (R128). -/
def execSelfTest (order : OrderId) (target : Byte) (s : State) : Outcome :=
  .next ((s.took (.selfTest order target)).selfTest order target.toNat)

/-- FORCED_TIMER_EXPIRY (R129). -/
def execForcedTimerExpiry (s : State) : Outcome := .next s.forcedExpiry

/-- INJECTION_DEADLINE (R133). -/
def execInjectionDeadline (s : State) : Outcome := .next s.deadlineExpiry

/-- TAMPER_LINK_RESET (R131). -/
def execTamperLinkReset (s : State) : Outcome := .next (s.took .tamperLinkReset).withdrawInjection

end Sys2Proof.Machine
end

