-- ==== Sys2Proof/Machine/Supervision.lean ====
section
/-! DEFINITION. The Supply Supervisor (07_supervision_and_power_states.md): HOLD entry, the HOLD readings, the cold and the warm
start, the loss of retention, the voltage judgements, the coil supply and the backup cell. -/

namespace Sys2Proof.Machine

/-! ### The backup cell (R147, R137) -/

/-- A RUN reading of the backup cell against BC_LOW (R147). -/
def State.readCell (s : State) (cell : Nat) : State :=
  if cell < s.setting .bcLow then
    if s.supply.backupLow then s
    else ((s.onSupply fun x => { x with backupLow := true }).journal (.backupLow cell (s.setting .bcLow))).raise .fault
  else s.onSupply fun x => { x with backupLow := false }

/-- A HOLD reading of the backup cell against BC_RETAIN (R137). -/
def State.readCellInHold (s : State) (cell : Nat) : State :=
  if cell < s.setting .bcRetain then s.onSupply fun x => { x with doubt := true } else s

/-! ### HOLD entry (R135) -/

/-- What is in flight to the supervisor and is never taken after its HOLD entry (R136). -/
def Instr.supervisorStale : Instr → Bool
  | .supervisorBlockResult _ => true
  | .supervisorSecond _ _ => true
  | .coilReadingRequest _ => true
  | _ => false

/-- The HOLD entry is handed to six units (R135). -/
def State.handHoldEntry (s : State) : State :=
  (((((s.send .energyHoldEntry).send .switchHoldEntry).send .tamperHoldEntry).send .exchangeHoldEntry).send
    .engineHoldEntry).send .reportHoldEntry

/-- The HOLD entry (R135). -/
def State.enterHold (s : State) (cell : Nat) : State :=
  let t := s.onSupply fun x =>
    { x with
      power := .hold
      holdStart := s.calendar.t
      overVoltageCount := 0
      sagCount := 0
      holdTimer := 0 }
  (({ t with inFlight := t.inFlight.filter fun c => !Instr.supervisorStale c }).readCellInHold cell).handHoldEntry

/-! ### The warm start (R139) -/

/-- Step 2: the POWER entry. T has not fallen since the HOLD entry, for SET TIME is not taken in HOLD (R37); the 0 that the difference of
a lower T would give is the model's choice of notes/assumptions/36.md. -/
def State.journalPower (s : State) : State :=
  s.journal (.power s.supply.doubt s.supply.holdStart (s.calendar.t - s.supply.holdStart))

/-- Step 4: the sweep on doubt. -/
def State.sweepOnDoubt (s : State) : State :=
  if s.supply.doubt then (s.onSupply fun x => { x with doubt := false }).send .warmStartSweep else s

/-- Step 6: the warm start is handed to ten units. -/
def State.handWarmStart (s : State) : State :=
  (((((((((s.send .energyWarmStart).send .calendarWarmStart).send .creditWarmStart).send .codeWarmStart).send
    .switchWarmStart).send .tamperWarmStart).send .settingsWarmStart).send .exchangeWarmStart).send
    .engineWarmStart).send .reportWarmStart

/-- The warm start in the order of R139. It keeps the HOLD reading timer (07_supervision_and_power_states.md, table of starts), so a reading
that was due is not made and the timer stands at 60 until the next HOLD entry, by the model's choice of notes/assumptions/24.md. -/
def State.enterRun (s : State) (cell : Nat) : State :=
  let t := (s.onSupply fun x => { x with power := .run }).journalPower
  let t := ((t.readCell cell).onSupply fun x => { x with backupCount := 0 }).sweepOnDoubt
  (t.send (.reasonRequest t.supply.overVoltage .overVoltage)).handWarmStart

/-! ### The cold start (R138, R141) -/

/-- The Switch Unit after a cold start that takes LOAD_SENSE (R110). -/
def Switch.coldFrom (loadSense : Bool) : Switch :=
  if loadSense then { Switch.cold with relay := .closed, consent := false, sensedClosed := true } else Switch.cold

/-- A line stage after a cold start that takes the line as it stands (R134). -/
def LineStage.coldFrom (tampered : Bool) : LineStage := if tampered then ⟨.pending, 0⟩ else ⟨.normal, 0⟩

/-- The Tamper Unit after a cold start that takes the lines as they stand (R134). -/
def Tamper.coldFrom (p : Pins) : Tamper :=
  { Tamper.cold with
    caseLine := LineStage.coldFrom p.caseOpen
    terminalLine := LineStage.coldFrom p.terminalOpen
    magnetLine := LineStage.coldFrom p.magnetOn }

/-- The Exchange Unit while the link is still CLOSED at a cold start; a frame on which CSN is low stays ignored (R168, R184). -/
def Exchange.coldFrom (x : Exchange) : Exchange :=
  { Exchange.cold with link := .closed, ignoring := x.csnLow, miso := x.miso }

/-- Every unit at its cold-start values, the input lines taken as they stand (R138). -/
def State.coldUnits (s : State) : State :=
  { State.reset with
    switch := Switch.coldFrom s.pins.loadSense
    tamper := Tamper.coldFrom s.pins
    exchange := s.exchange.coldFrom
    pins := s.pins
    pending := s.pending }

/-- The cold start: the units, the backup reading, the opening of the link (R138, R141, R184). -/
def State.coldStart (s : State) (cell : Nat) : State := (s.coldUnits.readCell cell).openLink

/-! ### The loss of retention (R138) -/

/-- The part between a loss of retention and the cold start: nothing is retained, the mark is absent, the units stand still
(notes/assumptions/6.md). -/
def State.loseRetention (s : State) : State :=
  { State.reset with
    switch := { Switch.cold with hold := true }
    tamper := { Tamper.cold with hold := true }
    supply := { Supply.cold with power := .hold, retention := false }
    exchange := { s.exchange.coldFrom with hold := true, answersTold := false }
    engine := { Engine.cold with mode := .stopped, hold := true }
    report := { Report.cold with hold := true }
    pins := s.pins
    pending := s.pending }

/-! ### Voltage (R142 to R144) -/

/-- The test that a block makes of the over-voltage state (R142, R143). -/
def State.voltageTest (s : State) (u : Nat) : Bool :=
  if s.supply.overVoltage then decide (u + s.setting .uHyst < s.setting .uHigh) else decide (s.setting .uHigh < u)

/-- The count at which the over-voltage state changes (R142, R143). -/
def Supply.voltageLimit (x : Supply) : Nat := if x.overVoltage then Config.recoveryBlocks else Config.overVoltageBlocks

/-- The change of the over-voltage state: the request and the entry (R142, R143). -/
def State.changeVoltage (s : State) (u : Nat) : State :=
  let new := !s.supply.overVoltage
  ((s.onSupply fun x => { x with overVoltage := new, overVoltageCount := 0 }).send
    (.reasonRequest new .overVoltage)).journal (.overVoltage new u (s.setting .uHigh))

/-- A block of the over-voltage judgement (R142, R143). -/
def State.judgeVoltage (s : State) (u : Nat) : State :=
  if s.voltageTest u then
    if s.supply.overVoltageCount + 1 < s.supply.voltageLimit then
      s.onSupply fun x => { x with overVoltageCount := x.overVoltageCount + 1 }
    else s.changeVoltage u
  else s.onSupply fun x => { x with overVoltageCount := 0 }

/-- The test that a block makes of the sag flag (R144). -/
def State.sagTest (s : State) (u : Nat) : Bool :=
  if s.supply.sag then decide (s.setting .uLow ≤ u) else decide (u < s.setting .uLow)

/-- The change of the sag flag; a setting makes its entry (R144). -/
def State.changeSag (s : State) (u : Nat) : State :=
  if s.supply.sag then s.onSupply fun x => { x with sag := false, sagCount := 0 }
  else (s.onSupply fun x => { x with sag := true, sagCount := 0 }).journal (.sag u (s.setting .uLow))

/-- A block of the sag judgement (R144). -/
def State.judgeSag (s : State) (u : Nat) : State :=
  if s.sagTest u then
    if s.supply.sagCount + 1 < Config.sagBlocks then s.onSupply fun x => { x with sagCount := x.sagCount + 1 }
    else s.changeSag u
  else s.onSupply fun x => { x with sagCount := 0 }

/-- A block result in RUN: the over-voltage judgement, then the sag judgement. -/
def State.judgeBlock (s : State) (u : Nat) : State := (s.judgeVoltage u).judgeSag u

/-- The block result changes the over-voltage state. -/
def State.voltageChanges (s : State) (u : Nat) : Bool :=
  decide (s.supply.power = .run) && s.voltageTest u && decide (s.supply.voltageLimit ≤ s.supply.overVoltageCount + 1)

/-- The block result changes the sag flag. -/
def State.sagChanges (s : State) (u : Nat) : Bool :=
  decide (s.supply.power = .run) && s.sagTest u && decide (Config.sagBlocks ≤ s.supply.sagCount + 1)

/-! ### Delivered seconds (R146, R147) -/

/-- The backup reading count of a second (R147). -/
def State.backupSecond (s : State) (cell : Nat) : State :=
  if s.supply.backupCount + 1 < Config.backupReadingSeconds then
    s.onSupply fun x => { x with backupCount := x.backupCount + 1 }
  else (s.onSupply fun x => { x with backupCount := 0 }).readCell cell

/-- A delivered second in RUN: the coil reading handed over, the backup reading count (R146, R147). -/
def State.superviseSecond (s : State) (coil cell : Nat) : State := (s.send (.coilReading coil)).backupSecond cell

/-! ### Meanings -/

/-- HOLD_ENTRY (R135). -/
def execHoldEntry (cell : Nat) (s : State) : Outcome :=
  let t := s.onPins fun p => { p with supplyFail := true }
  .next (if t.supply.power = .run then t.enterHold cell else t)

/-- HOLD_READING (R137): the HOLD reading timer has reached 60. -/
def execHoldReading (cell : Nat) (s : State) : Outcome :=
  if s.supply.power = .hold ∧ s.supply.retention = true ∧ Config.holdReadingSeconds ≤ s.supply.holdTimer then
    .next ((s.onSupply fun x => { x with holdTimer := 0 }).readCellInHold cell)
  else .next s

/-- COLD_START (R138). -/
def execColdStart (cell : Nat) (s : State) : Outcome :=
  if s.supply.retention then .next s
  else .next ((s.onPins fun p => { p with supplyFail := false }).coldStart cell)

/-- WARM_START (R139); a release while the power state is RUN leaves everything as it stands (R135). -/
def execWarmStart (cell : Nat) (s : State) : Outcome :=
  if s.supply.retention then
    let t := s.onPins fun p => { p with supplyFail := false }
    .next (if t.supply.power = .hold then t.enterRun cell else t)
  else .next s

/-- SUPERVISOR_BLOCK_RESULT (R142, R143, R144); not taken in HOLD (R136). -/
def execSupervisorBlockResult (r : BlockResult) (s : State) : Outcome :=
  let t := s.took (.supervisorBlockResult r)
  .next (if t.supply.power = .run then t.judgeBlock r.voltage else t)

/-- OVER_VOLTAGE_SET (R142): the block result at which the count reaches 40. -/
def execOverVoltageSet (r : BlockResult) (s : State) : Outcome :=
  if s.supply.overVoltage = false ∧ s.voltageChanges r.voltage = true then
    .next ((s.took (.overVoltageSet r)).judgeBlock r.voltage)
  else .next s

/-- OVER_VOLTAGE_CLEAR (R143): the block result at which the count reaches 240. -/
def execOverVoltageClear (r : BlockResult) (s : State) : Outcome :=
  if s.supply.overVoltage = true ∧ s.voltageChanges r.voltage = true then
    .next ((s.took (.overVoltageClear r)).judgeBlock r.voltage)
  else .next s

/-- SAG_COUNT_REACHED (R144): the block result at which the sag count reaches 8. -/
def execSagCountReached (r : BlockResult) (s : State) : Outcome :=
  if s.sagChanges r.voltage then .next ((s.took (.sagCountReached r)).judgeBlock r.voltage) else .next s

/-- SUPERVISOR_SECOND (R146, R147); not taken in HOLD (R136). -/
def execSupervisorSecond (coil cell : Nat) (s : State) : Outcome :=
  let t := s.took (.supervisorSecond coil cell)
  .next (if t.supply.power = .run then t.superviseSecond coil cell else t)

/-- BACKUP_READING (R147): the second at which the backup reading count would reach 3,600. -/
def execBackupReading (coil cell : Nat) (s : State) : Outcome :=
  if s.supply.power = .run ∧ Config.backupReadingSeconds ≤ s.supply.backupCount + 1 then
    .next ((s.took (.backupReading coil cell)).superviseSecond coil cell)
  else .next s

/-- COIL_READING_REQUEST (R146); not answered in HOLD, nor while the Switch Unit's HOLD entry is on its way, for that abandons the
operation that asked (R136). -/
def execCoilReadingRequest (coil : Nat) (s : State) : Outcome :=
  let t := s.took (.coilReadingRequest coil)
  .next (if t.supply.power = .run ∧ Instr.switchHoldEntry ∉ t.inFlight then t.send (.coilReading coil) else t)

/-- RETENTION_LOSS (R138): in HOLD, with the mark present. -/
def execRetentionLoss (s : State) : Outcome :=
  if s.supply.power = .hold ∧ s.supply.retention = true then .next s.loseRetention else .next s

end Sys2Proof.Machine
end

