-- ==== Sys2Proof/Machine/Ticks.lean ====
section
/-! DEFINITION. One millisecond of the part's own clock (R97, R98, R115, R129, R133), which a step on an empty queue makes
(notes/assumptions/3.md). A timer stands at its limit until the command of its expiry is taken. -/

namespace Sys2Proof.Machine

/-- A phase one millisecond on (R97, R98). -/
def OpPhase.tick : OpPhase → OpPhase
  | .coilWait => .coilWait
  | .drive elapsed length => .drive (min length (elapsed + 1)) length
  | .settle elapsed => .settle (min Config.settleMs (elapsed + 1))

/-- The operation's timer. -/
def Switch.tick (x : Switch) : Switch :=
  { x with operation := x.operation.map fun o => { o with phase := OpPhase.tick o.phase } }

/-- A CASE or TERMINAL stage one millisecond on: the timer runs in PENDING (R115). -/
def LineStage.tick (g : LineStage) : LineStage :=
  if g.stage = .pending then { g with timer := min Config.lineMs (g.timer + 1) } else g

/-- An injection one millisecond on: its timer, and the forced timer of CASE and TERMINAL (R128, R129). -/
def Injection.tick (j : Injection) : Injection :=
  { j with
    timer := min j.deadline (j.timer + 1)
    forcedTimer := if Injection.forcedRunning j then min Config.lineMs (j.forcedTimer + 1) else j.forcedTimer }

/-- The Tamper Unit's timers; in HOLD the CASE timer alone runs (R125, R133). -/
def Tamper.tick (x : Tamper) : Tamper :=
  if x.hold then { x with caseLine := LineStage.tick x.caseLine }
  else
    { x with
      caseLine := LineStage.tick x.caseLine
      terminalLine := LineStage.tick x.terminalLine
      injection := x.injection.map Injection.tick }

/-- One millisecond with no command waiting. -/
def State.tickMs (s : State) : State := (s.onSwitch Switch.tick).onTamper Tamper.tick

end Sys2Proof.Machine
end

