-- ==== Sys2Proof/Machine/Dispatch.lean ====
section
/-! DEFINITION. The meaning of every command: one arm for each row of spec/opcode_table.json, in the table's order. -/

namespace Sys2Proof.Machine

def exec (i : Instr) (s : State) : Host.Outcome State Fault Refusal :=
  match i with
  | .blockCompletion sL sN sV => Sys2Proof.Machine.execBlockCompletion sL sN sV s
  | .calibrationWriteNews channel => Sys2Proof.Machine.execCalibrationWriteNews channel s
  | .energyHoldEntry => Sys2Proof.Machine.execEnergyHoldEntry s
  | .conditionsUnqualifiedNews => Sys2Proof.Machine.execConditionsUnqualifiedNews s
  | .energyWarmStart => Sys2Proof.Machine.execEnergyWarmStart s
  | .secondTick => Sys2Proof.Machine.execSecondTick s
  | .friendlyFlagNews friendly => Sys2Proof.Machine.execFriendlyFlagNews friendly s
  | .calendarWarmStart => Sys2Proof.Machine.execCalendarWarmStart s
  | .setTime slot target => Sys2Proof.Machine.execSetTime slot target s
  | .newTArrival => Sys2Proof.Machine.execNewTArrival s
  | .stagingCopyDone => Sys2Proof.Machine.execStagingCopyDone s
  | .tariffImageArrival slot image => Sys2Proof.Machine.execTariffImageArrival slot image s
  | .newTableArrival friendly => Sys2Proof.Machine.execNewTableArrival friendly s
  | .creditBlockResult result => Sys2Proof.Machine.execCreditBlockResult result s
  | .creditSecond => Sys2Proof.Machine.execCreditSecond s
  | .emergency slot => Sys2Proof.Machine.execEmergency slot s
  | .topUpRequest amount => Sys2Proof.Machine.execTopUpRequest amount s
  | .serviceStateNewsCredit state => Sys2Proof.Machine.execServiceStateNewsCredit state s
  | .creditWarmStart => Sys2Proof.Machine.execCreditWarmStart s
  | .enterCode slot digits => Sys2Proof.Machine.execEnterCode slot digits s
  | .keyWriteNews => Sys2Proof.Machine.execKeyWriteNews s
  | .codeWarmStart => Sys2Proof.Machine.execCodeWarmStart s
  | .reasonRequest add reason => Sys2Proof.Machine.execReasonRequest add reason s
  | .consent slot => Sys2Proof.Machine.execConsent slot s
  | .disconnect slot => Sys2Proof.Machine.execDisconnect slot s
  | .permit slot => Sys2Proof.Machine.execPermit slot s
  | .coilReadingRequest coil => Sys2Proof.Machine.execCoilReadingRequest coil s
  | .coilReading coil => Sys2Proof.Machine.execCoilReading coil s
  | .driveEnd => Sys2Proof.Machine.execDriveEnd s
  | .settleEnd => Sys2Proof.Machine.execSettleEnd s
  | .loadSenseChange energised => Sys2Proof.Machine.execLoadSenseChange energised s
  | .stuckRetry => Sys2Proof.Machine.execStuckRetry s
  | .switchBlockResult result => Sys2Proof.Machine.execSwitchBlockResult result s
  | .trip result => Sys2Proof.Machine.execTrip result s
  | .switchSecond => Sys2Proof.Machine.execSwitchSecond s
  | .backoffExpiry => Sys2Proof.Machine.execBackoffExpiry s
  | .closedTimeExpiry => Sys2Proof.Machine.execClosedTimeExpiry s
  | .limitRequest watts => Sys2Proof.Machine.execLimitRequest watts s
  | .switchHoldEntry => Sys2Proof.Machine.execSwitchHoldEntry s
  | .switchWarmStart => Sys2Proof.Machine.execSwitchWarmStart s
  | .lineChange line tampered => Sys2Proof.Machine.execLineChange line tampered s
  | .qualificationTimerExpiry line => Sys2Proof.Machine.execQualificationTimerExpiry line s
  | .tamperSecond => Sys2Proof.Machine.execTamperSecond s
  | .magnetCountReached => Sys2Proof.Machine.execMagnetCountReached s
  | .tamperBlockResult result => Sys2Proof.Machine.execTamperBlockResult result s
  | .clearRequest mask => Sys2Proof.Machine.execClearRequest mask s
  | .clearTamper slot mask => Sys2Proof.Machine.execClearTamper slot mask s
  | .actionMaskNews => Sys2Proof.Machine.execActionMaskNews s
  | .serviceStateNewsTamper => Sys2Proof.Machine.execServiceStateNewsTamper s
  | .tamperHoldEntry => Sys2Proof.Machine.execTamperHoldEntry s
  | .tamperWarmStart => Sys2Proof.Machine.execTamperWarmStart s
  | .selfTest slot target => Sys2Proof.Machine.execSelfTest slot target s
  | .forcedTimerExpiry => Sys2Proof.Machine.execForcedTimerExpiry s
  | .injectionDeadline => Sys2Proof.Machine.execInjectionDeadline s
  | .tamperLinkReset => Sys2Proof.Machine.execTamperLinkReset s
  | .holdEntry cell => Sys2Proof.Machine.execHoldEntry cell s
  | .holdReading cell => Sys2Proof.Machine.execHoldReading cell s
  | .coldStart cell => Sys2Proof.Machine.execColdStart cell s
  | .warmStart cell => Sys2Proof.Machine.execWarmStart cell s
  | .supervisorBlockResult result => Sys2Proof.Machine.execSupervisorBlockResult result s
  | .overVoltageSet result => Sys2Proof.Machine.execOverVoltageSet result s
  | .overVoltageClear result => Sys2Proof.Machine.execOverVoltageClear result s
  | .sagCountReached result => Sys2Proof.Machine.execSagCountReached result s
  | .supervisorSecond coil cell => Sys2Proof.Machine.execSupervisorSecond coil cell s
  | .backupReading coil cell => Sys2Proof.Machine.execBackupReading coil cell s
  | .writeSetting slot id value => Sys2Proof.Machine.execWriteSetting slot id value s
  | .enterService slot => Sys2Proof.Machine.execEnterService slot s
  | .releaseRequest => Sys2Proof.Machine.execReleaseRequest s
  | .settingsSecond => Sys2Proof.Machine.execSettingsSecond s
  | .periodicSweep => Sys2Proof.Machine.execPeriodicSweep s
  | .warmStartSweep => Sys2Proof.Machine.execWarmStartSweep s
  | .integrityTestRequest => Sys2Proof.Machine.execIntegrityTestRequest s
  | .settingsWarmStart => Sys2Proof.Machine.execSettingsWarmStart s
  | .readAscend segment => Sys2Proof.Machine.execReadAscend segment s
  | .readDescend segment => Sys2Proof.Machine.execReadDescend segment s
  | .readHold segment => Sys2Proof.Machine.execReadHold segment s
  | .readLineAscend segment => Sys2Proof.Machine.execReadLineAscend segment s
  | .writeAscend segment => Sys2Proof.Machine.execWriteAscend segment s
  | .writeDescend segment => Sys2Proof.Machine.execWriteDescend segment s
  | .writeHold segment => Sys2Proof.Machine.execWriteHold segment s
  | .writeLineAscend segment => Sys2Proof.Machine.execWriteLineAscend segment s
  | .invalidCommand command count => Sys2Proof.Machine.execInvalidCommand command count s
  | .frameWhileClosed count last => Sys2Proof.Machine.execFrameWhileClosed count last s
  | .accessGrant => Sys2Proof.Machine.execAccessGrant s
  | .post slot => Sys2Proof.Machine.execPost slot s
  | .withdraw slot => Sys2Proof.Machine.execWithdraw slot s
  | .release slot => Sys2Proof.Machine.execRelease slot s
  | .noticeClear bits => Sys2Proof.Machine.execNoticeClear bits s
  | .noticeEnable mask => Sys2Proof.Machine.execNoticeEnable mask s
  | .semaphoreTake semaphore => Sys2Proof.Machine.execSemaphoreTake semaphore s
  | .semaphoreGive semaphore value => Sys2Proof.Machine.execSemaphoreGive semaphore value s
  | .registerWriteOther address value => Sys2Proof.Machine.execRegisterWriteOther address value s
  | .exchangeHoldEntry => Sys2Proof.Machine.execExchangeHoldEntry s
  | .exchangeWarmStart => Sys2Proof.Machine.execExchangeWarmStart s
  | .answersWrittenNews => Sys2Proof.Machine.execAnswersWrittenNews s
  | .linkReset => Sys2Proof.Machine.execLinkReset s
  | .linkrstnRelease => Sys2Proof.Machine.execLinkrstnRelease s
  | .slotCopyDone => Sys2Proof.Machine.execSlotCopyDone s
  | .ownerAnswer slot code data => Sys2Proof.Machine.execOwnerAnswer slot code data s
  | .ownerPark park => Sys2Proof.Machine.execOwnerPark park s
  | .relayStateReport state reasons => Sys2Proof.Machine.execRelayStateReport state reasons s
  | .answerComplete => Sys2Proof.Machine.execAnswerComplete s
  | .stateByteWritten => Sys2Proof.Machine.execStateByteWritten s
  | .engineHoldEntry => Sys2Proof.Machine.execEngineHoldEntry s
  | .engineWarmStart => Sys2Proof.Machine.execEngineWarmStart s
  | .engineLinkReset => Sys2Proof.Machine.execEngineLinkReset s
  | .entryArrival entry => Sys2Proof.Machine.execEntryArrival entry s
  | .entryHandling => Sys2Proof.Machine.execEntryHandling s
  | .entryWritten => Sys2Proof.Machine.execEntryWritten s
  | .reportHoldEntry => Sys2Proof.Machine.execReportHoldEntry s
  | .reportWarmStart => Sys2Proof.Machine.execReportWarmStart s
  | .blockCompletionReport => Sys2Proof.Machine.execBlockCompletionReport s
  | .publicationDue => Sys2Proof.Machine.execPublicationDue s
  | .mirrorFreedNews => Sys2Proof.Machine.execMirrorFreedNews s
  | .publicationEnd => Sys2Proof.Machine.execPublicationEnd s
  | .retentionLoss => Sys2Proof.Machine.execRetentionLoss s

end Sys2Proof.Machine
end

