-- ==== Sys2Proof/Safety.lean ====
section
/-! DEFINITION. What counts as a run of the part. A command is admissible in a state when the part could take it there: an event
of the outside, of a timer or of the arbiter at any time, and an arrival only when it is in flight and no earlier arrival of its
channel is (notes/assumptions/1.md). A claim about every state covers every admissible run. -/

namespace Sys2Proof.Machine

/-- The units of the part (00_scope.md, Block overview). -/
inductive PartUnit where
  | energy
  | calendar
  | credit
  | code
  | switch
  | tamper
  | supervisor
  | settings
  | exchange
  | engine
  | report
  deriving DecidableEq, Repr

/-- Who sends an entry of each kind (11_journal_and_status_mirror.md, Journal entry kinds). -/
def eventSender : Event → PartUnit
  | .tamper .. => .tamper
  | .tamperCleared .. => .tamper
  | .code .. => .code
  | .lockout .. => .code
  | .credit .. => .credit
  | .emergency .. => .credit
  | .relay .. => .switch
  | .relayFault .. => .switch
  | .overLimit .. => .switch
  | .overVoltage .. => .supervisor
  | .sag .. => .supervisor
  | .backupLow .. => .supervisor
  | .time .. => .calendar
  | .tariff .. => .calendar
  | .service .. => .settings
  | .integrity .. => .settings
  | .power .. => .supervisor
  | .overflow .. => .report

/-- Who gives an answer of each result data (R185, R200). -/
def answerSender : ResultData → PartUnit
  | .none => .settings
  | .noneOfTamper => .tamper
  | .code .. => .code
  | .relay .. => .switch
  | .emergency .. => .credit
  | .setTime .. => .calendar
  | .tariffRefused .. => .calendar
  | .tariffAdopted .. => .calendar
  | .setting .. => .settings
  | .item _ => .settings
  | .clearTamper .. => .tamper
  | .target _ => .tamper
  | .testOk .. => .tamper
  | .testFailed .. => .tamper
  | .integrityTest _ => .tamper

/-- The unit that parks (R198). -/
def ParkingOwner.unit : ParkingOwner → PartUnit
  | .switch => .switch
  | .tamper => .tamper

/-- Who asks for a reason (R89). -/
def reasonSender : Reason → PartUnit
  | .credit => .credit
  | .overVoltage => .supervisor
  | .tamper => .tamper
  | .overLimit => .switch
  | .remote => .switch

/-- A channel: its sender, its receiver, and for a link action its slot, since actions on different slots carry no order
(R177). -/
structure ArrivalChannel where
  sender : PartUnit
  receiver : PartUnit
  slot : Nat
  deriving DecidableEq, Repr

/-- The channel of an arrival. Events of the outside, of a timer and of the arbiter have none. -/
def channelOf : Instr → Option ArrivalChannel
  | .calibrationWriteNews _ => some ⟨.settings, .energy, 0⟩
  | .energyHoldEntry => some ⟨.supervisor, .energy, 0⟩
  | .conditionsUnqualifiedNews => some ⟨.energy, .tamper, 0⟩
  | .energyWarmStart => some ⟨.supervisor, .energy, 0⟩
  | .friendlyFlagNews _ => some ⟨.calendar, .credit, 0⟩
  | .calendarWarmStart => some ⟨.supervisor, .calendar, 0⟩
  | .setTime _ _ => some ⟨.engine, .calendar, 0⟩
  | .newTArrival => some ⟨.calendar, .credit, 0⟩
  | .tariffImageArrival _ _ => some ⟨.engine, .calendar, 0⟩
  | .newTableArrival _ => some ⟨.calendar, .credit, 0⟩
  | .creditBlockResult _ => some ⟨.energy, .credit, 0⟩
  | .creditSecond => some ⟨.calendar, .credit, 0⟩
  | .emergency _ => some ⟨.engine, .credit, 0⟩
  | .topUpRequest _ => some ⟨.code, .credit, 0⟩
  | .serviceStateNewsCredit _ => some ⟨.settings, .credit, 0⟩
  | .creditWarmStart => some ⟨.supervisor, .credit, 0⟩
  | .enterCode _ _ => some ⟨.engine, .code, 0⟩
  | .keyWriteNews => some ⟨.settings, .code, 0⟩
  | .codeWarmStart => some ⟨.supervisor, .code, 0⟩
  | .reasonRequest _ r => some ⟨reasonSender r, .switch, 0⟩
  | .consent _ => some ⟨.engine, .switch, 0⟩
  | .disconnect _ => some ⟨.engine, .switch, 0⟩
  | .permit _ => some ⟨.engine, .switch, 0⟩
  | .coilReadingRequest _ => some ⟨.switch, .supervisor, 0⟩
  | .coilReading _ => some ⟨.supervisor, .switch, 0⟩
  | .switchBlockResult _ => some ⟨.energy, .switch, 0⟩
  | .trip _ => some ⟨.energy, .switch, 0⟩
  | .switchSecond => some ⟨.calendar, .switch, 0⟩
  | .stuckRetry => some ⟨.calendar, .switch, 0⟩
  | .backoffExpiry => some ⟨.calendar, .switch, 0⟩
  | .closedTimeExpiry => some ⟨.calendar, .switch, 0⟩
  | .limitRequest _ => some ⟨.code, .switch, 0⟩
  | .switchHoldEntry => some ⟨.supervisor, .switch, 0⟩
  | .switchWarmStart => some ⟨.supervisor, .switch, 0⟩
  | .tamperSecond => some ⟨.calendar, .tamper, 0⟩
  | .magnetCountReached => some ⟨.calendar, .tamper, 0⟩
  | .tamperBlockResult _ => some ⟨.energy, .tamper, 0⟩
  | .clearRequest _ => some ⟨.code, .tamper, 0⟩
  | .clearTamper _ _ => some ⟨.engine, .tamper, 0⟩
  | .actionMaskNews => some ⟨.settings, .tamper, 0⟩
  | .serviceStateNewsTamper => some ⟨.settings, .tamper, 0⟩
  | .tamperHoldEntry => some ⟨.supervisor, .tamper, 0⟩
  | .tamperWarmStart => some ⟨.supervisor, .tamper, 0⟩
  | .selfTest _ _ => some ⟨.engine, .tamper, 0⟩
  | .tamperLinkReset => some ⟨.exchange, .tamper, 0⟩
  | .supervisorBlockResult _ => some ⟨.energy, .supervisor, 0⟩
  | .overVoltageSet _ => some ⟨.energy, .supervisor, 0⟩
  | .overVoltageClear _ => some ⟨.energy, .supervisor, 0⟩
  | .sagCountReached _ => some ⟨.energy, .supervisor, 0⟩
  | .supervisorSecond _ _ => some ⟨.calendar, .supervisor, 0⟩
  | .backupReading _ _ => some ⟨.calendar, .supervisor, 0⟩
  | .writeSetting _ _ _ => some ⟨.engine, .settings, 0⟩
  | .enterService _ => some ⟨.engine, .settings, 0⟩
  | .releaseRequest => some ⟨.code, .settings, 0⟩
  | .settingsSecond => some ⟨.calendar, .settings, 0⟩
  | .periodicSweep => some ⟨.calendar, .settings, 0⟩
  | .warmStartSweep => some ⟨.supervisor, .settings, 0⟩
  | .integrityTestRequest => some ⟨.tamper, .settings, 0⟩
  | .settingsWarmStart => some ⟨.supervisor, .settings, 0⟩
  | .post n => some ⟨.exchange, .engine, n.val + 1⟩
  | .withdraw n => some ⟨.exchange, .engine, n.val + 1⟩
  | .release n => some ⟨.exchange, .engine, n.val + 1⟩
  | .exchangeHoldEntry => some ⟨.supervisor, .exchange, 0⟩
  | .exchangeWarmStart => some ⟨.supervisor, .exchange, 0⟩
  | .answersWrittenNews => some ⟨.engine, .exchange, 0⟩
  | .ownerAnswer _ _ d => some ⟨answerSender d, .engine, 0⟩
  | .ownerPark p => some ⟨ParkingOwner.unit p.owner, .engine, 0⟩
  | .relayStateReport _ _ => some ⟨.switch, .engine, 0⟩
  | .engineHoldEntry => some ⟨.supervisor, .engine, 0⟩
  | .engineWarmStart => some ⟨.supervisor, .engine, 0⟩
  | .engineLinkReset => some ⟨.exchange, .engine, 0⟩
  | .entryArrival e => some ⟨eventSender e.event, .report, 0⟩
  | .reportHoldEntry => some ⟨.supervisor, .report, 0⟩
  | .reportWarmStart => some ⟨.supervisor, .report, 0⟩
  | .blockCompletionReport => some ⟨.energy, .report, 0⟩
  | .publicationDue => some ⟨.energy, .report, 0⟩
  | .mirrorFreedNews => some ⟨.exchange, .report, 0⟩
  | .blockCompletion _ _ _ => none
  | .secondTick => none
  | .stagingCopyDone => none
  | .driveEnd => none
  | .settleEnd => none
  | .loadSenseChange _ => none
  | .lineChange _ _ => none
  | .qualificationTimerExpiry _ => none
  | .forcedTimerExpiry => none
  | .injectionDeadline => none
  | .holdEntry _ => none
  | .holdReading _ => none
  | .coldStart _ => none
  | .warmStart _ => none
  | .readAscend _ => none
  | .readDescend _ => none
  | .readHold _ => none
  | .readLineAscend _ => none
  | .writeAscend _ => none
  | .writeDescend _ => none
  | .writeHold _ => none
  | .writeLineAscend _ => none
  | .invalidCommand _ _ => none
  | .frameWhileClosed _ _ => none
  | .accessGrant => none
  | .noticeClear _ => none
  | .noticeEnable _ => none
  | .semaphoreTake _ => none
  | .semaphoreGive _ _ => none
  | .registerWriteOther _ _ => none
  | .linkReset => none
  | .linkrstnRelease => none
  | .slotCopyDone => none
  | .answerComplete => none
  | .stateByteWritten => none
  | .entryHandling => none
  | .entryWritten => none
  | .publicationEnd => none
  | .retentionLoss => none

/-- What must have been taken before a command can come: a block completes and a second passes only once the unit has taken the
start or the HOLD entry that was handed to it (R1, R21, R27), and a block never falls between the write of a calibration
constant and the Energy Unit's news of it, for the remainder is 0 from the moment the constant is stored (R3). -/
def Instr.comesAfter : Instr → List Instr
  | .blockCompletion _ _ _ =>
    [.energyHoldEntry, .energyWarmStart, .calibrationWriteNews .line, .calibrationWriteNews .neutral]
  | .secondTick => [.calendarWarmStart]
  | _ => []

/-- The owner of a class of codes (R77, R79 to R81). -/
def classOwner (cls : Nat) : PartUnit :=
  match cls with
  | 0 => .credit
  | 1 => .switch
  | 2 => .tamper
  | _ => .settings

/-- A journal entry that joins the queue after another one, sent before it by another unit: every entry after POWER (R139, R209), the
Switch Unit's after SERVICE (R157), and CODE after those of the owner of its class (R78, R158). See notes/assumptions/43.md. -/
def Event.follows (later earlier : Event) : Bool :=
  (match earlier with
    | .power _ _ _ => true
    | .service _ _ _ => decide (eventSender later = .switch)
    | _ => false) ||
  (match later with
    | .code cls _ _ => decide (eventSender earlier = classOwner cls)
    | _ => false)

/-- An arrival that waits for one sent before it on another channel: the entries of `Event.follows`; the news of a freed MIRROR, for a
HOLD entry of the Report Unit; and a block completion, for its HOLD entry and its warm start, from which the eight completions count
(R212). See notes/assumptions/43.md. -/
def Instr.follows : Instr → Instr → Bool
  | .entryArrival e, .entryArrival d => Event.follows e.event d.event
  | .mirrorFreedNews, .reportHoldEntry => true
  | .blockCompletionReport, .reportHoldEntry => true
  | .blockCompletionReport, .reportWarmStart => true
  | _, _ => false

/-- What comes while a code is evaluated and is taken after the evaluation (R67): a loss of supply, an assertion of LINKRSTN that is a
link reset, and each arrival with which the link opens while LINKRSTN stands asserted, for that is a link reset at that moment (R183). -/
def Instr.waitsForCode (s : State) : Instr → Prop
  | .holdEntry _ => True
  | .linkReset => s.pins.linkrstn = false ∧ s.exchange.link = .open
  | .exchangeWarmStart => s.pins.linkrstn = true ∧ (s.onExchange fun x => { x with hold := false }).linkDue
  | .answersWrittenNews => s.pins.linkrstn = true ∧ (s.onExchange fun x => { x with answersTold := true }).linkDue
  | _ => False

/-- A command is admissible: its operands are in range, nothing that comes before it is in flight, no evaluation of a code runs
that it must wait for, and an arrival is the first in flight of its channel, with none sent before it that it follows. -/
def Admissible (c : Instr) (s : State) : Prop :=
  c.wellFormed = true ∧ (∀ d ∈ Instr.comesAfter c, d ∉ s.inFlight) ∧
    (Instr.waitsForCode s c → s.code.evaluation = none) ∧
    (channelOf c = none ∨ s.inFlight.find? (fun d => decide (channelOf d = channelOf c)) = some c.sentForm) ∧
    ∀ d ∈ s.inFlight.takeWhile (fun d => decide (d ≠ c.sentForm)), Instr.follows c.sentForm d = false

/-- The states that admissible commands lead to from a start state, with the queue filled one command at a time. -/
inductive Reachable (start : State) : State → Prop where
  | start : Reachable start start
  | command (s t : State) (c : Instr) :
      Reachable start s → s.pending = [] → Admissible c s → step { s with pending := [c] } = .next t → Reachable start t
  | tick (s t : State) : Reachable start s → s.pending = [] → step s = .next t → Reachable start t

/-! ### The words of the statements -/

/-- A command answers a next state of which `P` holds. -/
def Answers (c : Instr) (s : State) (P : State → Prop) : Prop := ∃ t, exec c s = .next t ∧ P t

/-- The frame: every unit that is not named, the input lines and the queue stand as they stood. The arrivals in flight are said
apart. -/
def OnlyChanges (us : List PartUnit) (s t : State) : Prop :=
  (.energy ∈ us ∨ t.energy = s.energy) ∧ (.calendar ∈ us ∨ t.calendar = s.calendar) ∧
    (.credit ∈ us ∨ t.credit = s.credit) ∧ (.code ∈ us ∨ t.code = s.code) ∧ (.switch ∈ us ∨ t.switch = s.switch) ∧
    (.tamper ∈ us ∨ t.tamper = s.tamper) ∧ (.supervisor ∈ us ∨ t.supply = s.supply) ∧
    (.settings ∈ us ∨ t.settings = s.settings) ∧ (.exchange ∈ us ∨ t.exchange = s.exchange) ∧
    (.engine ∈ us ∨ t.engine = s.engine) ∧ (.report ∈ us ∨ t.report = s.report) ∧ t.pins = s.pins ∧
    t.pending = s.pending

/-- `c` has taken its arrival, and these arrivals have been sent. -/
def Sends (c : Instr) (s t : State) (sent : List Instr) : Prop := t.inFlight = s.inFlight.erase c.sentForm ++ sent

/-! ### Invariants -/

/-- The operation record is absent, and the relay at rest, or present, and the relay moves in its direction (R95). -/
def OperationMatchesRelay (s : State) : Prop :=
  match s.switch.operation with
  | none => s.switch.relay ≠ .opening ∧ s.switch.relay ≠ .closing
  | some o => s.switch.relay = match o.direction with
    | .opening => .opening
    | .closing => .closing

/-- The ranges of the counted state, each with the rule that gives it. -/
structure Ranges (s : State) : Prop where
  /-- R25. -/
  time : s.calendar.t ≤ 4294967295
  /-- R34. -/
  allowance : s.calendar.allowance ≤ 900
  /-- R6. -/
  lineRemainder : s.energy.rL < 2 ^ 32
  neutralRemainder : s.energy.rN < 2 ^ 32
  /-- R44. -/
  chargeRemainder : s.credit.q < 1000000000
  /-- R45, R55; between an adoption and the Credit Unit's news of it the balance may stand below the new floor (R58). -/
  balance : s.credit.c ≤ 10000000000
  debtFloor : (∃ f, Instr.newTableArrival f ∈ s.inFlight) ∨ -(s.calendar.table.df : Int) ≤ s.credit.c
  /-- R85. -/
  failures : s.code.failures ≤ 4
  /-- R102, R103, R106. -/
  stuckWait : s.switch.stuckWait ≤ 299
  limitRun : s.switch.limitRun ≤ 240
  closedTime : s.switch.closedTime ≤ 600
  /-- R97, R104, R105. -/
  trips : s.switch.trips ≤ 3
  backoff : s.switch.backoff ≤ 600
  lastDuty : s.switch.lastDuty ≤ 256
  /-- R16 to R18, R20. -/
  qualifiers : ∀ q ∈ [s.energy.imbalance, s.energy.reverseFlow, s.energy.bypass], q.count ≤ 255 ∧ q.forcedCount ≤ 255
  /-- R118, R126. -/
  occurrences : ∀ i : Source, (s.tamper.record i).count ≤ 255 ∧ ∀ m, (s.tamper.record i).standby = some m → m.number ≤ 255
  /-- R142 to R144, R147. -/
  overVoltageCount : s.supply.overVoltageCount ≤ 240
  sagCount : s.supply.sagCount ≤ 8
  backupCount : s.supply.backupCount ≤ 3599
  /-- R137. -/
  holdTimer : s.supply.holdTimer ≤ 60
  /-- R161. -/
  sweepCount : s.settings.sweepCount ≤ 59
  /-- R151. -/
  settings : ∀ i : SettingId, i.row.low ≤ s.setting i ∧ s.setting i ≤ i.row.high
  /-- R206, R207, R208. -/
  queue : s.report.queue.length ≤ 32
  writeIndex : s.report.w < 48
  readIndex : s.report.p < 48
  /-- R210. -/
  blockCount : s.report.blockCount ≤ 7

/-- The number that `n` bytes spell from an offset, most significant first (00_scope.md, Units and conventions). -/
def numberAt (bytes : List Byte) (offset : Nat) : Nat → Nat
  | 0 => 0
  | n + 1 => numberAt bytes offset n * 256 + (bytes.getD (offset + n) 0).toNat

/-- `bytes` are `size` bytes from the offset `base` of a structure: each of the fields, an offset with a size and a value, holds its value
most significant byte first and signed in two's complement, and every byte of no field is 0 (09_exchange_memory_and_the_link.md,
Layouts). -/
structure LaidOut (base size : Nat) (fields : List (Nat × Nat × Int)) (bytes : List Byte) : Prop where
  length : bytes.length = size
  held : ∀ offset n value, (offset, n, value) ∈ fields →
    (numberAt bytes (offset - base) n : Int) = value % (256 ^ n : Nat)
  clear : ∀ i, i < size → (∀ offset n value, (offset, n, value) ∈ fields → base + i < offset ∨ offset + n ≤ base + i) →
    bytes.getD i 0 = 0

/-- The number whose bit i is set where element i is true; of one flag, 1 set and 0 clear (R185). -/
def bitsNumber : List Bool → Nat
  | [] => 0
  | b :: bs => (if b then 1 else 0) + 2 * bitsNumber bs

/-- A switch point of a schedule in an image fails items 3 and 5 of R39: its second, its band, or its place after the point before. -/
def PointFails (image : List Byte) (base i : Nat) : Prop :=
  86400 ≤ numberAt image (base + 4 * i) 3 ∨ 4 ≤ numberAt image (base + 4 * i + 3) 1 ∨
    (0 < i ∧ numberAt image (base + 4 * i) 3 ≤ numberAt image (base + 4 * (i - 1)) 3)

/-- A window of an image fails item 7 of R39. -/
def WindowFails (image : List Byte) (i : Nat) : Prop :=
  86400 ≤ numberAt image (92 + 8 * i) 3 ∨ 86400 ≤ numberAt image (92 + 8 * i + 3) 3 ∨
    numberAt image (92 + 8 * i) 3 = numberAt image (92 + 8 * i + 3) 3 ∨ 127 < numberAt image (92 + 8 * i + 6) 1

/-- The check of an item of R39 fails for an element of an image, at the offsets of R188. -/
def ItemFails (image : List Byte) (item index : Nat) : Prop :=
  match item with
  | 1 => index < 4 ∧ 16777215 < numberAt image (4 * index) 4
  | 2 => index = 0 ∧ (numberAt image 16 1 < 1 ∨ 8 < numberAt image 16 1)
  | 3 => index < numberAt image 16 1 ∧ PointFails image 20 index
  | 4 => index = 0 ∧ (numberAt image 52 1 < 1 ∨ 8 < numberAt image 52 1)
  | 5 => index < numberAt image 52 1 ∧ PointFails image 56 index
  | 6 => index = 0 ∧ 4 < numberAt image 88 1
  | 7 => index < numberAt image 88 1 ∧ WindowFails image index
  | 8 => index = 0 ∧ (6 < numberAt image 124 1 ∨ 127 < numberAt image 125 1)
  | 9 => index = 0 ∧ (16777215 < numberAt image 128 4 ∨ 1000000000 < numberAt image 132 4 ∨ 1000000000 < numberAt image 136 4)
  | 10 => index = 0 ∧ numberAt image 136 4 < numberAt image 140 4
  | _ => False

/-- A schedule is the one that an image holds from `base`, with `count` points (R188). -/
def ScheduleRead (image : List Byte) (base count : Nat) (points : List SwitchPoint) : Prop :=
  points.length = count ∧ ∀ i p, points[i]? = some p →
    p.second = numberAt image (base + 4 * i) 3 ∧ p.band.val = numberAt image (base + 4 * i + 3) 1

/-- A table is the one that an image holds (R188). -/
structure TableRead (image : List Byte) (x : Tariff) : Prop where
  rates : ∀ i : Fin 4, x.rates[i] = numberAt image (4 * i.val) 4
  workday : ScheduleRead image 20 (numberAt image 16 1) x.workday
  restDay : ScheduleRead image 56 (numberAt image 52 1) x.restDay
  windowCount : x.windows.length = numberAt image 88 1
  windows : ∀ i v, x.windows[i]? = some v → v.start = numberAt image (92 + 8 * i) 3 ∧
    v.stop = numberAt image (92 + 8 * i + 3) 3 ∧ v.mask.toNat = numberAt image (92 + 8 * i + 6) 1
  weekday : x.w0 = numberAt image 124 1
  restMask : x.restMask.toNat = numberAt image 125 1
  standing : x.sc = numberAt image 128 4
  low : x.lowT = numberAt image 132 4
  floor : x.df = numberAt image 136 4
  emergency : x.ec = numberAt image 140 4

/-- A schedule in range: 1 to 8 points, each within the day, strictly ascending (R32). -/
def ScheduleInRange (points : List SwitchPoint) : Prop :=
  1 ≤ points.length ∧ points.length ≤ 8 ∧ (∀ p ∈ points, p.second ≤ 86399) ∧
    points.Pairwise fun p q => p.second < q.second

/-- The tariff table in range (R32). -/
structure TariffInRange (x : Tariff) : Prop where
  rates : ∀ i : Fin 4, x.rates[i] ≤ 16777215
  workday : ScheduleInRange x.workday
  restDay : ScheduleInRange x.restDay
  windowCount : x.windows.length ≤ 4
  windows : ∀ v ∈ x.windows, v.start ≤ 86399 ∧ v.stop ≤ 86399 ∧ v.start ≠ v.stop
  weekday : x.w0 ≤ 6
  standing : x.sc ≤ 16777215
  low : x.lowT ≤ 1000000000
  floor : x.df ≤ 1000000000
  emergency : x.ec ≤ x.df

/-! ### The evaluation of the credit state -/

/-- The CREDIT condition of a Credit Unit in a credit state (R61). -/
def CreditWanted (x : Credit) (st : CreditState) : Prop :=
  x.serviceView = .inService ∧ st = .exhausted ∧ x.friendlyView = false

/-- What the re-evaluation of the CREDIT reason leaves of a Credit Unit `x` whose credit state has become `st` (R61, R62). -/
structure CreditReasoned (x : Credit) (st : CreditState) (y : Credit) (sent : List Instr) : Prop where
  unit : y = { x with state := st, requested := y.requested, deferral := y.deferral }
  requested : y.requested = true ↔ CreditWanted x st
  deferral : y.deferral = true ↔ x.serviceView = .inService ∧ st = .exhausted ∧ x.friendlyView = true
  request : sent = if y.requested = x.requested then [] else [.reasonRequest y.requested .credit]

/-- The credit state, the entry and the notice that an evaluation of a Credit Unit `x` makes (R51, R52). -/
structure CreditRecorded (cause : CreditCause) (x : Credit) (s t : State) (entry : List Instr) : Prop where
  state : t.credit.state = creditStateOf x.c x.em s.calendar.table.lowT s.calendar.table.ec
  same : t.credit.state = x.state → entry = [] ∧ t.exchange = s.exchange
  changed : t.credit.state ≠ x.state →
    entry = [.entryArrival ⟨s.calendar.t, .credit x.state t.credit.state cause x.c x.b⟩] ∧
      t.exchange = { s.exchange with notices := s.exchange.notices ||| 0x20#8 }

/-- What an evaluation leaves of a Credit Unit that an arrival has brought to `x`: the state of R51; where it has not changed,
nothing more; where it has, the entry, the notice and the re-evaluation of the reason (R52). -/
structure CreditEvaluated (cause : CreditCause) (x : Credit) (s t : State) (sent : List Instr) : Prop where
  state : t.credit.state = creditStateOf x.c x.em s.calendar.table.lowT s.calendar.table.ec
  same : t.credit.state = x.state → t.credit = x ∧ sent = [] ∧ t.exchange = s.exchange
  changed : t.credit.state ≠ x.state →
    t.exchange = { s.exchange with notices := s.exchange.notices ||| 0x20#8 } ∧
      ∃ asked, sent = .entryArrival ⟨s.calendar.t, .credit x.state t.credit.state cause x.c x.b⟩ :: asked ∧
        CreditReasoned x t.credit.state t.credit asked

/-! ### The history of codes -/

/-- The history of codes in order: at most 32 serials, strictly ascending, each above the code floor, and an evaluation that waits
for an owner has found its serial unused (R82, R83). -/
structure HistoryOrdered (x : Code) : Prop where
  length : x.used.length ≤ 32
  ascending : x.used.Pairwise fun a b => a < b
  above : ∀ n ∈ x.used, x.floor < n
  waiting : ∀ ev, x.evaluation = some ev → x.floor < ev.serial ∧ ev.serial ∉ x.used

/-- The history `y` after a serial is recorded in a history `x` that does not hold it: it joins in its place; where 32 serials stood,
the smallest of the 33 leaves the list and becomes the code floor (R82). -/
structure SerialRecorded (x : Code) (serial : Nat) (y : Code) : Prop where
  joins : x.used.length < 32 → y.floor = x.floor ∧ ∀ n, n ∈ y.used ↔ n = serial ∨ n ∈ x.used
  evicts : x.used.length = 32 → (y.floor = serial ∨ y.floor ∈ x.used) ∧ y.floor ≤ serial ∧ (∀ n ∈ x.used, y.floor ≤ n) ∧
    ∀ n, n ∈ y.used ↔ (n = serial ∨ n ∈ x.used) ∧ n ≠ y.floor
  ascending : y.used.Pairwise fun a b => a < b
  length : y.used.length = min 32 (x.used.length + 1)
  rest : y = { x with used := y.used, floor := y.floor }

/-! ### The relay -/

/-- The part after an arrival of the relay at `st`, of a Switch Unit that the same arrival has brought to `x`: the record is
removed, the flag and the counters of R90 and R99 follow, and the entry, the notice and the report are made (R99). -/
def relayArrives (s : State) (x : Switch) (st : RelayState) : State :=
  { s with
    switch := { x with
      relay := st
      operation := none
      consent := if st = .closed then false else x.consent
      closedTime := if st = .closed then 0 else x.closedTime
      stuckWait := if st = .stuck then 0 else x.stuckWait }
    exchange := { s.exchange with notices := s.exchange.notices ||| 0x10#8 }
    inFlight := s.inFlight ++
      [.entryArrival ⟨s.calendar.t, .relay st x.reasons (if st = .closed then false else x.consent) x.sensedClosed⟩,
        .relayStateReport st x.reasons] }

/-- The part after the start of an operation (R95), with its request for a reading (R96). -/
def operationStarts (s : State) (x : Switch) (d : OpDirection) (origin : OpOrigin) : State :=
  { s with
    switch := { x with
      relay := match d with
        | .opening => .opening
        | .closing => .closing
      operation := some { direction := d, phase := .coilWait, attempt := 1, duty := none, reverse := false, origin := origin }
      limitRun := if x.relay = .closed then 0 else x.limitRun
      coilWait := false }
    inFlight := s.inFlight ++ [.coilReadingRequest 0] }

/-- What R101 makes of a relay in STUCK: it leaves for the desired position where the sensed one matches it. -/
def stuckJudged (s : State) (x : Switch) : State :=
  if x.reasons = ReasonSet.empty then (if x.sensedClosed then relayArrives s x .closed else { s with switch := x })
  else (if x.sensedClosed then { s with switch := x } else relayArrives s x .open)

/-- A delivered second of a relay that is CLOSED (R106). -/
def closedSecondPasses (s : State) : State :=
  { s with switch := { s.switch with
      closedTime := min 600 (s.switch.closedTime + 1)
      trips := if s.switch.closedTime + 1 = 600 then 0 else s.switch.trips } }

/-- A delivered second of a relay that is STUCK: the wait, or at 300 the retry for the desired position (R102). -/
def stuckSecondPasses (s : State) : State :=
  if s.switch.stuckWait + 1 < 300 then { s with switch := { s.switch with stuckWait := s.switch.stuckWait + 1 } }
  else if s.switch.reasons ≠ ReasonSet.empty then
    operationStarts s { s.switch with stuckWait := 0 } .opening .stuckRetry
  else if s.switch.consent then { s with switch := { s.switch with stuckWait := 0 } }
  else operationStarts s { s.switch with stuckWait := 0 } .closing .stuckRetry

/-- The end of the evaluation that waits for an owner, once the owner has taken its request (R78). -/
def codeAcceptedBy (s : State) (balance : Int) : State :=
  match s.code.evaluation with
  | none => s
  | some ev =>
    { s with
      code := { s.code.record ev.serial with failures := 0, evaluation := none }
      inFlight := s.inFlight ++ [.entryArrival ⟨s.calendar.t, .code ev.cls ev.serial ev.amount⟩,
        .ownerAnswer ev.order .ok (.code .accepted ev.cls ev.serial ev.amount balance
          (lockoutRemaining s.code.lockoutEnd s.calendar.t))] }

/-! ### The tamper sources -/

/-- The TAMPER reason re-evaluated of a part that an arrival has brought to `s` (R121). -/
structure TamperReasoned (s t : State) : Prop where
  requested : t.tamper.requested = true ↔
    ∃ i : Source, (s.tamper.record i).latch = true ∧ (s.effectiveMask i).testBit 0 = true
  rest : t = { s with
    tamper := { s.tamper with requested := t.tamper.requested }
    inFlight := s.inFlight ++
      if t.tamper.requested = s.tamper.requested then [] else [.reasonRequest t.tamper.requested .tamper] }

/-- Steps 1 to 5 of R118 for a source, with the entry and the notice of R119; a CASE occurrence in HOLD makes its standby mark
instead (R126). -/
structure OccurrenceRecorded (i : Source) (s t : State) (entry : List Instr) : Prop where
  record : t.tamper.record i =
    { latch := true
      active := true
      count := min 255 ((s.tamper.record i).count + 1)
      first := if (s.tamper.record i).latch then (s.tamper.record i).first else s.calendar.t
      last := s.calendar.t
      standby :=
        if i = .case ∧ s.tamper.hold = true then
          some (match (s.tamper.record i).standby with
            | none => ⟨s.calendar.t, 1⟩
            | some m => ⟨m.time, min 255 (m.number + 1)⟩)
        else (s.tamper.record i).standby }
  others : ∀ j, j ≠ i → t.tamper.record j = s.tamper.record j
  inHold : i = .case → s.tamper.hold = true → entry = [] ∧ t.exchange = s.exchange
  entryMade : ¬(i = .case ∧ s.tamper.hold = true) → entry =
    if (s.effectiveMask i).testBit 1 then
      [.entryArrival ⟨s.calendar.t, match i with
        | .imbalance => .tamper i false false s.tamper.imbalance.valueA s.tamper.imbalance.valueB
        | .reverse => .tamper i false false s.tamper.reverseFlow.valueA s.tamper.reverseFlow.valueB
        | .bypass => .tamper i false false s.tamper.bypass.valueA s.tamper.bypass.valueB
        | _ => .tamper i false false (min 255 ((s.tamper.record i).count + 1)) 0⟩]
    else []
  noticeSet : ¬(i = .case ∧ s.tamper.hold = true) → t.exchange =
    if (s.effectiveMask i).testBit 2 then { s.exchange with notices := s.exchange.notices ||| 0x08#8 } else s.exchange
  rest : t = { s with
    tamper := { s.tamper with records := t.tamper.records }
    exchange := t.exchange
    inFlight := s.inFlight ++ entry }

/-- An occurrence of a source: the six steps of R118, the last of which waits for the warm start where R126 says so. -/
def Occurred (i : Source) (s t : State) : Prop :=
  ∃ u entry, OccurrenceRecorded i s u entry ∧
    if i = .case ∧ s.tamper.hold = true then t = u else TamperReasoned u t

/-- A real qualification of a source: absorbed while an injection stands on it in RUN, else an occurrence (R131, R133). -/
def TakenAsReal (i : Source) (s t : State) : Prop :=
  ((s.tamper.hold = false ∧ ∃ j, s.tamper.injection = some j ∧ j.target = i) → t = s) ∧
    (¬(s.tamper.hold = false ∧ ∃ j, s.tamper.injection = some j ∧ j.target = i) → Occurred i s t)

/-- The real condition of a source stands qualified (R115 to R117). -/
def RealQualified (x : Tamper) : Source → Prop
  | .case => x.caseLine.stage = .qualified
  | .terminal => x.terminalLine.stage = .qualified
  | .magnet => x.magnetLine.stage = .qualified
  | .imbalance => x.imbalance.qualified = true
  | .reverse => x.reverseFlow.qualified = true
  | .bypass => x.bypass.qualified = true

/-- The Energy Unit with the forced mark of a block source on or off and its forced count at 0 (R20). -/
def forcedTo (x : Energy) (on : Bool) : Source → Energy
  | .imbalance => { x with imbalance := { x.imbalance with forced := on, forcedCount := 0 } }
  | .reverse => { x with reverseFlow := { x.reverseFlow with forced := on, forcedCount := 0 } }
  | .bypass => { x with bypass := { x.bypass with forced := on, forcedCount := 0 } }
  | .case => x
  | .terminal => x
  | .magnet => x

/-- The withdrawal of any injection, and the occurrence then owed (R131). -/
def InjectionWithdrawn (s t : State) : Prop :=
  (s.tamper.injection = none → t = s) ∧
    ∀ j u, s.tamper.injection = some j →
      u = { s with tamper := { s.tamper with injection := none }, energy := forcedTo s.energy false j.target } →
      (RealQualified s.tamper j.target → (s.tamper.record j.target).active = false → Occurred j.target u t) ∧
      (¬(RealQualified s.tamper j.target ∧ (s.tamper.record j.target).active = false) → t = u)

/-- The test occurrence of an injection that stands: the entry, the answer, the withdrawal (R129). -/
def TestOccurred (j : Injection) (s t : State) : Prop :=
  InjectionWithdrawn { s with
    inFlight := s.inFlight ++ [.entryArrival ⟨s.calendar.t, .tamper j.target true false j.timer 0⟩,
      .ownerAnswer j.order .ok (.testOk j.target.index.val j.timer s.calendar.t)] } t

/-- The report of a block source compared with its active bit (R117). -/
def ReportCompared (i : Source) (s t : State) : Prop :=
  (RealQualified s.tamper i → (s.tamper.record i).active = false → TakenAsReal i s t) ∧
    (¬RealQualified s.tamper i → (s.tamper.record i).active = true →
      t = { s with tamper := s.tamper.setRecord i { s.tamper.record i with active := false } }) ∧
    ((RealQualified s.tamper i ↔ (s.tamper.record i).active = true) → t = s)

/-- The three comparisons of a block result, in the order of the sources (notes/assumptions/50.md). -/
def ReportsCompared (s t : State) : Prop :=
  ∃ u v, ReportCompared .imbalance s u ∧ ReportCompared .reverse u v ∧ ReportCompared .bypass v t

/-- A source at step 3 of a clear: named and active, it occurs again (R122). -/
def OccursAgain (mask : BitVec 6) (i : Source) (s t : State) : Prop :=
  (mask.getLsbD i.index.val = true → (s.tamper.record i).active = true → ∃ e, OccurrenceRecorded i s t e) ∧
    (¬(mask.getLsbD i.index.val = true ∧ (s.tamper.record i).active = true) → t = s)

/-- A clear of the named sources (R122). -/
def SourcesCleared (byOrder : Bool) (mask : BitVec 6) (s t : State) : Prop :=
  ∃ (before : BitVec 6) (u0 u1 u2 u3 u4 u5 u6 : State),
    (∀ i : Source, before.getLsbD i.index.val = (mask.getLsbD i.index.val && (s.tamper.record i).latch)) ∧
    (∀ i, u0.tamper.record i =
      if mask.getLsbD i.index.val then { s.tamper.record i with latch := false } else s.tamper.record i) ∧
    u0 = { s with
      tamper := { s.tamper with records := u0.tamper.records }
      inFlight := s.inFlight ++ [.entryArrival ⟨s.calendar.t, .tamperCleared byOrder mask before⟩] } ∧
    OccursAgain mask .case u0 u1 ∧ OccursAgain mask .terminal u1 u2 ∧ OccursAgain mask .magnet u2 u3 ∧
    OccursAgain mask .imbalance u3 u4 ∧ OccursAgain mask .reverse u4 u5 ∧ OccursAgain mask .bypass u5 u6 ∧
    TamperReasoned u6 t

/-! ### The protected settings -/

/-- The stream of the check word: the key set flag, then every setting in id order at its width, most significant byte first
(R159). -/
def checkStream (x : Settings) : List Byte :=
  (if x.keySet then 1 else 0) :: (SettingId.all.map fun i => beBytes i.row.width x.values[i.index]).flatten

/-- An integrity sweep, of the kind after a write or another (R160, R162). -/
structure Swept (afterWrite : Prop) (s t : State) : Prop where
  found : crc16 (checkStream s.settings) ≠ s.settings.checkWord → s.settings.fault = false → t = { s with
    settings := { s.settings with fault := true }
    exchange := { s.exchange with notices := s.exchange.notices ||| 0x40#8 }
    inFlight := s.inFlight ++ [.entryArrival ⟨s.calendar.t,
      .integrity .set s.settings.checkWord (crc16 (checkStream s.settings))⟩] }
  known : crc16 (checkStream s.settings) ≠ s.settings.checkWord → s.settings.fault = true → t = s
  cured : crc16 (checkStream s.settings) = s.settings.checkWord → s.settings.fault = true → afterWrite → t = { s with
    settings := { s.settings with fault := false }
    inFlight := s.inFlight ++ [.entryArrival ⟨s.calendar.t,
      .integrity .clear s.settings.checkWord (crc16 (checkStream s.settings))⟩] }
  standing : crc16 (checkStream s.settings) = s.settings.checkWord → ¬(s.settings.fault = true ∧ afterWrite) → t = s

/-- The settings in the order of their ids, from 1, with range and default (R151). -/
def settingsTable : List (SettingId × Nat × Nat × Nat) :=
  [(.meterKey, 0, 18446744073709551615, 0), (.meterNumber, 0, 4294967295, 0), (.kL, 0, 4294967295, 0), (.kN, 0, 4294967295, 0),
    (.kV, 0, 65535, 0), (.creep, 0, 1000, 2), (.imbT, 1, 63, 8), (.imbFloor, 0, 65535, 2000), (.imbBlocks, 8, 240, 40),
    (.revFloor, 0, 65535, 2000), (.bypassFloor, 1, 65535, 500), (.maskCase, 0, 7, 7), (.maskTerminal, 0, 7, 7), (.maskMagnet, 0, 7, 7),
    (.maskImbalance, 0, 7, 7), (.maskReverse, 0, 7, 7), (.maskBypass, 0, 7, 7), (.pulseLen, 20, 200, 60), (.limitHold, 1, 240, 8),
    (.limitBackoff, 10, 600, 60), (.uHigh, 1000, 32767, 2645), (.uHyst, 0, 999, 100), (.uLow, 1, 32767, 1955),
    (.csMin, 0, 30000, 10800), (.csNom, 0, 30000, 12000), (.bcLow, 0, 10000, 3100), (.bcRetain, 0, 10000, 2700)]

/-- The fields of the check word's stream of 57 bytes: the key set flag, then the settings in id order, each at its width (R151, R159). -/
def streamFields (x : Settings) : List (Nat × Nat × Int) :=
  (0, 1, (bitsNumber [x.keySet] : Int)) ::
    ([(1, 8, .meterKey), (9, 4, .meterNumber), (13, 4, .kL), (17, 4, .kN), (21, 2, .kV), (23, 2, .creep), (25, 1, .imbT),
      (26, 2, .imbFloor), (28, 1, .imbBlocks), (29, 2, .revFloor), (31, 2, .bypassFloor), (33, 1, .maskCase), (34, 1, .maskTerminal),
      (35, 1, .maskMagnet), (36, 1, .maskImbalance), (37, 1, .maskReverse), (38, 1, .maskBypass), (39, 1, .pulseLen),
      (40, 1, .limitHold), (41, 2, .limitBackoff), (43, 2, .uHigh), (45, 2, .uHyst), (47, 2, .uLow), (49, 2, .csMin), (51, 2, .csNom),
      (53, 2, .bcLow), (55, 2, .bcRetain)] : List (Nat × Nat × SettingId)).map fun f => (f.1, f.2.1, ((x.values[f.2.2.index] : Nat) : Int))

/-! ### The byte layouts -/

/-- The reason set as a number: CREDIT bit 0, OVER_LIMIT bit 1, OVER_VOLTAGE bit 2, TAMPER bit 3, REMOTE bit 4 (R185). -/
def reasonBits (r : ReasonSet) : Nat := bitsNumber [r.credit, r.overLimit, r.overVoltage, r.tamper, r.remote]

/-- The numbers of the enumerated values that the layouts write (R86, R114, R185, R186, R199). -/
def EnumeratedValuesNumbered : Prop :=
  [RelayState.closed, .opening, .open, .ready, .closing, .stuck].map RelayState.number = [0, 1, 2, 3, 4, 5] ∧
    [CreditState.normal, .low, .emergency, .exhausted].map CreditState.number = [0, 1, 2, 3] ∧
    [ServiceState.commissioning, .inService].map ServiceState.number = [0, 1] ∧
    [CreditCause.block, .hour, .topUp, .emergency, .tariff].map CreditCause.number = [0, 1, 2, 3, 4] ∧
    [LimitMode.backoff, .lockout].map LimitMode.number = [1, 2] ∧ [OpDirection.opening, .closing].map OpDirection.number = [0, 1] ∧
    [IntegrityMark.clear, .set, .test].map IntegrityMark.number = [0, 1, 2] ∧
    [CodeOutcome.accepted, .lockedOut, .malformed, .keyFault, .badCheck, .wrongMeter, .unknownClass, .used, .invalidAmount, .wrongState,
      .overCap].map CodeOutcome.number = [0, 1, 2, 3, 4, 5, 6, 7, 8, 9, 10] ∧
    [ResultCode.ok, .refusedLocked, .wrongState, .badArgument, .stageHeld, .aborted, .unknownKind, .failed].map ResultCode.number =
      [0, 1, 2, 3, 4, 5, 6, 7] ∧
    [Source.case, .terminal, .magnet, .imbalance, .reverse, .bypass].map (fun i => i.index.val) = [0, 1, 2, 3, 4, 5]

/-- The fields of an answer's result data, by their offsets in the slot (R185). -/
def answerFields : ResultData → List (Nat × Nat × Int)
  | .none => []
  | .noneOfTamper => []
  | .code o cls serial amount balance lockout =>
    [(42, 1, o.number), (43, 1, cls), (44, 3, serial), (47, 3, amount), (50, 8, balance), (58, 2, lockout)]
  | .relay st r => [(42, 1, st.number), (43, 1, reasonBits r)]
  | .emergency st ea em c => [(42, 1, st.number), (43, 1, bitsNumber [ea]), (44, 1, bitsNumber [em]), (45, 8, c)]
  | .setTime requested applied remaining => [(42, 8, requested), (50, 8, applied), (58, 2, remaining)]
  | .tariffRefused item index => [(42, 1, item), (43, 1, index)]
  | .tariffAdopted band friendly => [(44, 1, band.val), (45, 1, bitsNumber [friendly])]
  | .setting x clamped fault applied =>
    [(42, 1, x.index.val + 1), (43, 1, bitsNumber [clamped]), (44, 1, bitsNumber [fault]), (48, 8, applied)]
  | .item n => [(42, 1, n)]
  | .clearTamper mask latches => [(42, 1, mask.toNat), (43, 1, latches.toNat)]
  | .target n => [(42, 1, n)]
  | .testOk n timer t => [(42, 1, n), (43, 4, timer), (47, 4, t)]
  | .testFailed n deadline => [(42, 1, n), (43, 4, deadline)]
  | .integrityTest isMatch => [(42, 1, 6), (51, 1, bitsNumber [isMatch])]

/-- The kind, the detail, value A and value B of a journal entry, the values no greater than their fields hold (R186). -/
def kindAndValues (kind detail a b : Nat) : List (Nat × Nat × Int) :=
  [(2, 1, kind), (3, 1, detail), (8, 4, min a 4294967295), (12, 4, min b 4294967295)]

/-- The fields of a journal entry from its kind on, but for its time (R186). -/
def eventFields : Event → List (Nat × Nat × Int)
  | .tamper i test standby a b => kindAndValues 1 (i.index.val + 8 * bitsNumber [test, standby]) a b
  | .tamperCleared byOrder mask latches => kindAndValues 2 (bitsNumber [byOrder]) mask.toNat latches.toNat
  | .code cls serial amount => kindAndValues 3 cls serial amount
  | .lockout o lockoutEnd => kindAndValues 4 o.number lockoutEnd 0
  | .credit old new cause c b =>
    [(2, 1, 5), (3, 1, old.number + 4 * new.number + 16 * cause.number), (8, 5, max (-549755813888) (min c 549755813887)),
      (13, 3, min b.toNat 16777215)]
  | .emergency c ec => [(2, 1, 6), (3, 1, 0), (8, 4, max (-2147483648) (min c 2147483647)), (12, 4, min ec 4294967295)]
  | .relay st r consent sensed => kindAndValues 7 st.number (reasonBits r) (bitsNumber [consent, sensed])
  | .relayFault d sensed => kindAndValues 8 d.number (bitsNumber [sensed]) 0
  | .overLimit trip mode billed pLim =>
    [(2, 1, 9), (3, 1, trip + 4 * mode.number), (8, 5, min billed 1099511627775), (13, 2, min pLim 65535)]
  | .overVoltage set u uHigh => kindAndValues 10 (bitsNumber [set]) u uHigh
  | .sag u uLow => kindAndValues 11 0 u uLow
  | .backupLow reading bcLow => kindAndValues 12 0 reading bcLow
  | .time oldT delta => kindAndValues 13 (bitsNumber [decide (delta < 0)]) oldT delta.natAbs
  | .tariff band friendly => kindAndValues 14 0 band.val (bitsNumber [friendly])
  | .service byCode old new => kindAndValues 15 (bitsNumber [byCode]) old.number new.number
  | .integrity mark stored computed => kindAndValues 16 mark.number stored.toNat computed.toNat
  | .power doubt start duration => kindAndValues 17 (bitsNumber [doubt]) start duration
  | .overflow kind => kindAndValues 18 0 kind 0

/-- The fields of a journal entry (R186, Journal entry). -/
def entryFields (seq : BitVec 16) (e : Entry) : List (Nat × Nat × Int) :=
  (0, 2, (seq.toNat : Int)) :: (4, 4, (min e.time 4294967295 : Nat)) :: eventFields e.event

/-- The six sources as a number, bit i for source i (R185). -/
def sourcesNumber (f : Source → Bool) : Nat := bitsNumber [f .case, f .terminal, f .magnet, f .imbalance, f .reverse, f .bypass]

/-- The fields of the status mirror (R187, Status mirror). -/
def mirrorFields (s : State) (count : BitVec 32) (lockout : Nat) : List (Nat × Nat × Int) :=
  ([(0x00, 4, count.toNat), (0x04, 4, s.calendar.t), (0x08, 8, s.credit.c), (0x10, 8, s.credit.b.toNat),
    (0x18, 8, s.energy.billed.toNat), (0x20, 8, s.energy.forward.toNat), (0x28, 8, s.energy.reverse.toNat),
    (0x30, 4, min s.energy.power 4294967295), (0x34, 2, s.energy.voltage), (0x36, 1, s.calendar.band.val),
    (0x37, 1, bitsNumber [s.calendar.friendly, s.credit.deferral, s.credit.ea, s.credit.em]),
    (0x38, 1, s.credit.state.number), (0x39, 1, s.switch.relay.number), (0x3A, 1, reasonBits s.switch.reasons),
    (0x3B, 1, bitsNumber [s.switch.consent]), (0x3C, 1, s.switch.trips), (0x3D, 2, s.switch.lastDuty),
    (0x3F, 1, sourcesNumber fun i => (s.tamper.record i).latch), (0x40, 1, sourcesNumber fun i => (s.tamper.record i).active),
    (0x41, 1, s.settings.service.number),
    (0x42, 1, bitsNumber [s.settings.fault, s.supply.backupLow, s.supply.sag, s.switch.coilWait]),
    (0x44, 2, s.switch.pLim), (0x46, 2, lockout)] : List (Nat × Nat × Int)) ++
  [Source.case, .terminal, .magnet, .imbalance, .reverse, .bypass].flatMap fun i =>
    [(0x48 + 9 * i.index.val, 1, ((s.tamper.record i).count : Int)), (0x49 + 9 * i.index.val, 4, (s.tamper.record i).first),
      (0x4D + 9 * i.index.val, 4, (s.tamper.record i).last)]

/-- A byte that the host writes: the journal read index, the kind, the tag and the arguments of a slot, and the staging area (R167,
Header, Slot). -/
def HostByte (a : Nat) : Prop :=
  a = 0x008 ∨ (∃ (n : Fin 8) (o : Nat), a = 0x040 + 64 * n.val + o ∧ (o = 0 ∨ (2 ≤ o ∧ o ≤ 39))) ∨ (0x300 ≤ a ∧ a ≤ 0x3FF)

/-- A byte of the exchange memory that is unassigned (R167). -/
def UnassignedByte (a : Nat) : Prop := (0x2C0 ≤ a ∧ a ≤ 0x2FF) ∨ (0x700 ≤ a ∧ a ≤ 0xFBF)

/-! ### The link -/

/-- The READ row of a walk (R168). -/
def readRow (w : Walk) (g : ReadSegment) : Instr :=
  match w with
  | .ascend => .readAscend g
  | .descend => .readDescend g
  | .hold => .readHold g
  | .lineAscend => .readLineAscend g

/-- The WRITE row of a walk (R168). -/
def writeRow (w : Walk) (g : WriteSegment) : Instr :=
  match w with
  | .ascend => .writeAscend g
  | .descend => .writeDescend g
  | .hold => .writeHold g
  | .lineAscend => .writeLineAscend g

/-- The address after `a` under a walk (R170). -/
def addressAfter (w : Walk) (a : Nat) : Nat :=
  match w with
  | .ascend => if a = 0xFFF then 0 else a + 1
  | .descend => if a = 0 then 0xFFF else a - 1
  | .hold => a
  | .lineAscend => if a % 64 = 63 then a - 63 else a + 1

/-- The value listed for an address. -/
def cellAt (cells : List Host.Cell) (a : Nat) : Option Byte := (cells.find? fun c => decide (c.1 = a)).map fun c => c.2

/-- A gathered word is applied: bytes of the host are written, bytes of the part are discarded with the LINK notice, bytes of no
owner are discarded (R172). -/
structure WordApplied (cells : List Host.Cell) (x y : Exchange) : Prop where
  bytes : ∀ a, Memory.read y.mem a = match cellAt cells a with
    | some v => if ownerOf a = .host then v else Memory.read x.mem a
    | none => Memory.read x.mem a
  notice : y.notices = if ∃ c ∈ cells, ownerOf c.1 = .part then x.notices ||| 0x80#8 else x.notices
  rest : y = { x with mem := y.mem, notices := y.notices }

/-- What a link read of a register address returns (R175 to R177, R180). -/
structure RegisterReads (s : State) (a : Nat) (b : Byte) : Prop where
  post : a = 0xFC0 → ∀ n : Fin 8, b.getLsbD n.val = decide (s.engine.slots[n] = .posted)
  done : a = 0xFC2 → ∀ n : Fin 8, b.getLsbD n.val = decide (s.engine.slots[n] = .done)
  notice : a = 0xFC3 → b = s.exchange.notices
  enable : a = 0xFC4 → b = s.exchange.enable
  mirror : a = 0xFC8 → b = if s.exchange.mirrorHolder = .none then 0 else 1
  stage : a = 0xFC9 → b = if s.exchange.stageHolder = .none then 0 else 1
  other : a ∉ [0xFC0, 0xFC2, 0xFC3, 0xFC4, 0xFC8, 0xFC9] → b = 0

/-- A frame record stands only while the link is served, no access of the link waits between two commands, and the bytes
gathered for a word lie in it by rising address (R168, R172 to R174, R183). -/
structure FrameServed (x : Exchange) : Prop where
  served : x.frame ≠ none → x.link = .open ∧ x.hold = false ∧ x.resetPending = false
  noRequest : x.linkRequest = none
  held : x.hold = true → x.link = .closed
  gathered : ∀ f w cells, x.frame = some f → f.word = .gathered w cells →
    cells.Pairwise (fun c d => c.1 < d.1) ∧ ∀ c ∈ cells, c.1 / 4 = w

/-- The part after a link reset (R183). -/
def linkResets (s : State) : State :=
  { s with
    exchange := { s.exchange with
      frame := none
      ignoring := s.exchange.frame.isSome || s.exchange.ignoring
      linkRequest := none
      notices := 0
      enable := 0
      mirrorHolder := if s.exchange.mirrorHolder = .link then .none else s.exchange.mirrorHolder
      stageHolder := if s.exchange.stageHolder = .link then .none else s.exchange.stageHolder
      resetPending := true }
    inFlight := s.inFlight ++ (if s.exchange.mirrorHolder = .link then [.mirrorFreedNews] else []) ++
      [.engineLinkReset, .tamperLinkReset] }

/-- The part after the link opens: a LINKRSTN that stands asserted is a link reset at that moment (R174, R183). -/
def linkOpens (s : State) : State :=
  if s.pins.linkrstn then linkResets { s with exchange := { s.exchange with link := .open } }
  else { s with exchange := { s.exchange with link := .open } }

/-- The part once an arrival has brought it to `s`: the link opens where all that R174 asks has been done
(notes/assumptions/20.md). -/
def linkOpensWhenDue (s : State) : State :=
  if s.exchange.link = .closed ∧ s.exchange.hold = false ∧ s.exchange.answersTold = true ∧
      .engineHoldEntry ∉ s.inFlight ∧ .engineWarmStart ∉ s.inFlight then linkOpens s
  else s

/-! ### Orders -/

/-- A change of a slot's state, with its state item unless one for the slot waits (R189, R196). -/
def slotChanged (x : Engine) (n : Fin 8) (st : SlotState) : Engine :=
  { x with slots := x.slots.set n st, work := x.work ++ if WorkItem.state n ∈ x.work then [] else [.state n] }

/-- A take, where the engine runs with no current order and a slot is POSTED: of the lowest such slot (R193); the number of the take names
the order (notes/assumptions/47.md). -/
structure TakeMade (x y : Engine) : Prop where
  made : ∀ n : Fin 8, x.mode = .running → x.current = none → x.slots[n] = .posted → (∀ m : Fin 8, m < n → x.slots[m] ≠ .posted) →
    y = { slotChanged x n .taken with
      current := some { id := ⟨n, x.takes⟩, bytes := [], phase := .copying, abandoned := false }
      takes := x.takes + 1
      work := (slotChanged x n .taken).work ++ [.copy n] }
  none : ¬(x.mode = .running ∧ x.current = .none ∧ ∃ n : Fin 8, x.slots[n] = .posted) → y = x

/-! ### The journal and the mirror -/

/-- An idle writer takes the head of the queue, with the OVERFLOW entry of a loss before it; in HOLD it takes none (R206, R209). -/
structure WriterTakes (time : Nat) (x y : Report) : Prop where
  taken : ∀ e q, x.hold = false → x.writer = none → x.queue = e :: q → y = { x with
    queue := q
    loss := none
    writer := some
      { entries := (match x.loss with
          | some k => [Entry.mk time (.overflow k)]
          | none => []) ++ [e]
        stage := .reading, savedOverflow := x.overflow, savedLoss := x.loss } }
  none : x.hold = true ∨ x.writer ≠ .none ∨ x.queue = [] → y = x

/-- The writer is done with the entry at its head: the next of its entries begins, or it takes the next of the queue (R206). -/
structure WriterGoesOn (time : Nat) (x : Report) (wr : Writer) (y : Report) : Prop where
  next : ∀ d e rest, wr.entries = d :: e :: rest → y = { x with
    writer := some { entries := e :: rest, stage := .reading, savedOverflow := x.overflow, savedLoss := x.loss } }
  last : wr.entries.length ≤ 1 → WriterTakes time { x with writer := none } y

/-- The publisher's take of MIRROR: pending where the link holds it; else a publication begins, every field collected now (R72, R210,
R211). -/
structure PublicationTried (s t : State) : Prop where
  pending : s.exchange.mirrorHolder = .link → t = { s with report := { s.report with pendingPub := true } }
  begun : s.exchange.mirrorHolder ≠ .link → t = { s with
    exchange := { s.exchange with mirrorHolder := .internal }
    code := { s.code with lockoutEnd := s.code.lockoutEnd.filter fun e => decide (s.calendar.t < e) }
    report := { s.report with
      publishing := true
      pubCount := s.report.pubCount + 1
      publication := some
        { bytes := mirrorBytes s (s.report.pubCount + 1) (lockoutRemaining s.code.lockoutEnd s.calendar.t), granted := 0 } } }

end Sys2Proof.Machine
end

