-- ==== Sys2Proof/Certificates/Slice0/Obligations.lean ====
section
/-! DEFINITION. The statements for the provers. `Answers`, `OnlyChanges`, `Sends` and the other words are those of Sys2Proof/Safety.lean.
Each docstring names the rules of spec/ that its statement rests on; OBLIGATIONS.json holds the titles and the quotes. -/

open Sys2Proof Sys2Proof.Machine

/-! ### The step -/

/-- The command at the front of the queue is run on the queue's rest. -/
def Obligations.StepRunsFrontCommand : Prop :=
  ∀ (c : Instr) (cs : List Instr) (s : State), step { s with pending := c :: cs } = exec c { s with pending := cs }

/-- The model's choice of notes/assumptions/3.md: a step on an empty queue is one millisecond of the part's timers, each of which
stands at its limit (R97, R98, R115, R128, R129); all else stands as it stood. -/
def Obligations.IdleStepRunsTheTimers : Prop :=
  ∀ s : State, s.pending = [] → ∃ t, step s = .next t ∧ OnlyChanges [.switch, .tamper] s t ∧ t.inFlight = s.inFlight ∧
    (s.switch.operation = none → t.switch = s.switch) ∧
    (∀ o e n, s.switch.operation = some o → o.phase = .drive e n →
      t.switch = { s.switch with operation := some { o with phase := .drive (min n (e + 1)) n } }) ∧
    (∀ o e, s.switch.operation = some o → o.phase = .settle e →
      t.switch = { s.switch with operation := some { o with phase := .settle (min 100 (e + 1)) } }) ∧
    (∀ o, s.switch.operation = some o → o.phase = .coilWait → t.switch = s.switch) ∧
    t.tamper.caseLine = (if s.tamper.caseLine.stage = .pending then ⟨.pending, min 50 (s.tamper.caseLine.timer + 1)⟩
      else s.tamper.caseLine) ∧
    (s.tamper.hold = true → t.tamper.terminalLine = s.tamper.terminalLine ∧ t.tamper.injection = s.tamper.injection) ∧
    (s.tamper.hold = false →
      t.tamper.terminalLine = (if s.tamper.terminalLine.stage = .pending then
        ⟨.pending, min 50 (s.tamper.terminalLine.timer + 1)⟩ else s.tamper.terminalLine) ∧
      (s.tamper.injection = none → t.tamper.injection = none) ∧
      (∀ j, s.tamper.injection = some j → t.tamper.injection = some { j with
        timer := min j.deadline (j.timer + 1)
        forcedTimer := if j.stage = .pending ∧ j.target ≠ .magnet then min 50 (j.forcedTimer + 1) else j.forcedTimer })) ∧
    t.tamper = { s.tamper with
      caseLine := t.tamper.caseLine, terminalLine := t.tamper.terminalLine, injection := t.tamper.injection }

/-- No command ends a run, and none but the step itself touches the queue: every refusal of the part is an answer, an outcome or
a notice. -/
def Obligations.EveryCommandAnswersNext : Prop :=
  ∀ (c : Instr) (s : State), Answers c s fun t => t.pending = s.pending

/-! ### What every step keeps -/

/-- The exchange memory keeps its canonical form; and R167, R173: a store changes the bytes it names and no other, and each byte then reads
as it was stored. -/
def Obligations.StepKeepsMemoryFormAndStoresReadBack : Prop :=
  (∀ s t : State, Memory.wf s.exchange.mem = true → step s = .next t → Memory.wf t.exchange.mem = true) ∧
  (∀ (m : Memory) (a : Nat) (bytes : List Byte), Memory.wf m = true →
    Memory.wf (Memory.writeFrom m a bytes) = true ∧
    (∀ b, b < a ∨ a + bytes.length ≤ b → Memory.read (Memory.writeFrom m a bytes) b = Memory.read m b) ∧
    (∀ (i : Nat) (v : Byte), bytes[i]? = some v → Memory.read (Memory.writeFrom m a bytes) (a + i) = v))

/-- Every step keeps the three records of the part: the operation record is present exactly while the relay is OPENING or CLOSING, and
names that direction (R95); the history of codes stands in order (R82, R83); and the frame record stands only while the link is
served, with the bytes gathered for its word in order (R168, R172, R174, R183). -/
def Obligations.StepKeepsTheRecords : Prop :=
  ∀ s t : State, step s = .next t → (OperationMatchesRelay s → OperationMatchesRelay t) ∧
    (HistoryOrdered s.code → HistoryOrdered t.code) ∧ (FrameServed s.exchange → FrameServed t.exchange)

/-- The ranges that the chapters give the counted state: meter time and the allowance (R25, R34), the remainders of metering and
charging (R6, R44), the balance with its floor and its cap (R45, R55), the failure count (R85), the relay's limit run, trip counter,
back-off, closed time, STUCK wait and last duty (R97, R102 to R106), the qualification and forced counts (R16 to R20), the occurrence
counts and standby numbers (R118, R126), the supervisor's counts and its HOLD reading timer (R137, R142 to R144, R147), the sweep count
(R161), the protected settings (R151), the queue and the indices of the journal (R206 to R208) and the block count (R210). Between an
adoption and the Credit Unit's news of it the balance may stand below the new floor (R58). That the trip counter stops at 3 where no
run brings it is notes/assumptions/36.md. The HOLD reading timer runs to 59 and returns to 0 (R137); that it may stand at 60, while a
reading is due and in RUN after one that a warm start forestalled, is the model's choice of notes/assumptions/24.md. -/
def Obligations.StepKeepsTheRanges : Prop := ∀ s t : State, Ranges s → step s = .next t → Ranges t

/-- In IN_SERVICE no command but a cold start or the loss of the retained domain changes a protected setting, the key set flag or
the check word (R152). -/
def Obligations.ServiceLocksTheSettings : Prop :=
  ∀ (c : Instr) (s t : State), s.settings.service = .inService → exec c s = .next t → c ≠ .retentionLoss →
    (∀ mv, c ≠ .coldStart mv) →
    t.settings.values = s.settings.values ∧ t.settings.keySet = s.settings.keySet ∧
      t.settings.checkWord = s.settings.checkWord

/-! ### Frames -/

/-- The bytes of a whole frame decode to the command they were written for: no bit of an encoding is dropped (R168, R169). -/
def Obligations.FrameBytesDecodeToTheirCommand : Prop :=
  ∀ (c : Instr) (bytes : List Byte), c.wellFormed = true → encodeFrame c = some bytes → decodeFrame bytes = some c


/-! ### Energy Unit -/

/-- R13, with the clearing of the flag (R12) and the report of the completion. -/
def Obligations.SettlingBlockDiscarded : Prop :=
  ∀ (s : State) (sL sN : Int) (sV : Nat), s.supply.power = .run → s.energy.settling = true →
    exec (.blockCompletion sL sN sV) s =
      .next { s with
        energy := { s.energy with settling := false }
        inFlight := s.inFlight ++ [.blockCompletionReport] }

/-- R9 and R10: the power from the billed energy of the block result, the voltage from the integer square root. -/
def Obligations.BlockPowerAndVoltage : Prop :=
  ∀ (s : State) (sL sN : Int) (sV : Nat), s.supply.power = .run → s.energy.settling = false →
    ∃ (t : State) (r : BlockResult) (code : Nat), exec (.blockCompletion sL sN sV) s = .next t ∧
      t.inFlight = s.inFlight ++ [.creditBlockResult r, .tamperBlockResult r, .switchBlockResult r,
        .supervisorBlockResult r, .blockCompletionReport] ∧
      t.energy.power = r.billed * 36 / 1250 ∧
      code * code ≤ sV / 500 ∧ sV / 500 < (code + 1) * (code + 1) ∧
      r.voltage = code * s.setting .kV / 65536 ∧ t.energy.voltage = r.voltage ∧
      (s.setting .kV = 0 → r.voltage = 0) ∧
      (sV ≤ 500 * 2 ^ 30 → code ≤ 32768) ∧
      (sV ≤ 500 * 2 ^ 30 → s.setting .kV ≤ 65535 → r.voltage ≤ 32767)

/-- R2, R4, R5, R7, R8, R14, R15 for a block that is no settling block: what each channel counts and carries, which channel is
billed, what the registers gain, and the block result that four units are sent. -/
def Obligations.BlockEnergiesAndRegisters : Prop :=
  ∀ (s : State) (sL sN aL aN : Int) (sV limit : Nat), s.supply.power = .run → s.energy.settling = false →
    aL = sL * (s.setting .kL : Int) → aN = sN * (s.setting .kN : Int) → limit = s.setting .creep * 2 ^ 32 →
    ∃ (t : State) (r : BlockResult) (eL eN : Nat), exec (.blockCompletion sL sN sV) s = .next t ∧
      OnlyChanges [.energy] s t ∧
      t.inFlight = s.inFlight ++ [.creditBlockResult r, .tamperBlockResult r, .switchBlockResult r,
        .supervisorBlockResult r, .blockCompletionReport] ∧
      (aL.natAbs < limit → eL = 0 ∧ t.energy.rL = s.energy.rL) ∧
      (limit ≤ aL.natAbs → eL * 2 ^ 32 + t.energy.rL = aL.natAbs + s.energy.rL ∧ t.energy.rL < 2 ^ 32) ∧
      (aN.natAbs < limit → eN = 0 ∧ t.energy.rN = s.energy.rN) ∧
      (limit ≤ aN.natAbs → eN * 2 ^ 32 + t.energy.rN = aN.natAbs + s.energy.rN ∧ t.energy.rN < 2 ^ 32) ∧
      (aN.natAbs ≤ aL.natAbs → r.channel = .line ∧ r.billed = eL ∧
        r.direction = if aL.natAbs < limit then .none else if 0 < aL then .forward else if aL < 0 then .reverse else .none) ∧
      (aL.natAbs < aN.natAbs → r.channel = .neutral ∧ r.billed = eN ∧
        r.direction = if aN.natAbs < limit then .none else if 0 < aN then .forward else if aN < 0 then .reverse else .none) ∧
      r.lineMagnitude = aL.natAbs / 2 ^ 32 ∧ r.neutralMagnitude = aN.natAbs / 2 ^ 32 ∧ r.relay = s.switch.relay ∧
      t.energy.billed = s.energy.billed + BitVec.ofNat 64 r.billed ∧
      t.energy.forward = (if r.direction = .forward then s.energy.forward + BitVec.ofNat 64 r.billed else s.energy.forward) ∧
      t.energy.reverse = (if r.direction = .reverse then s.energy.reverse + BitVec.ofNat 64 r.billed else s.energy.reverse) ∧
      t.energy.settling = false

/-- R16 to R20: the three raw conditions, the counters, the forced counts and the reports of the block result that the block sends. -/
def Obligations.BlockQualificationCounters : Prop :=
  ∀ (s : State) (sL sN : Int) (sV mL mN : Nat), s.supply.power = .run → s.energy.settling = false →
    mL = (sL * (s.setting .kL : Int)).natAbs → mN = (sN * (s.setting .kN : Int)).natAbs →
    ∃ (t : State) (r : BlockResult), exec (.blockCompletion sL sN sV) s = .next t ∧
      t.inFlight = s.inFlight ++ [.creditBlockResult r, .tamperBlockResult r, .switchBlockResult r,
        .supervisorBlockResult r, .blockCompletionReport] ∧
      (64 * ((mL - mN) + (mN - mL)) > s.setting .imbT * max mL mN ∧ s.setting .imbFloor ≤ max mL mN / 2 ^ 32 →
        t.energy.imbalance.count = min 255 (s.energy.imbalance.count + 1)) ∧
      (¬(64 * ((mL - mN) + (mN - mL)) > s.setting .imbT * max mL mN ∧ s.setting .imbFloor ≤ max mL mN / 2 ^ 32) →
        t.energy.imbalance.count = 0) ∧
      (r.direction = .reverse ∧ s.setting .revFloor ≤ r.billed →
        t.energy.reverseFlow.count = min 255 (s.energy.reverseFlow.count + 1)) ∧
      (¬(r.direction = .reverse ∧ s.setting .revFloor ≤ r.billed) → t.energy.reverseFlow.count = 0) ∧
      ((s.switch.relay = .open ∨ s.switch.relay = .ready) ∧ s.setting .bypassFloor ≤ r.billed →
        t.energy.bypass.count = min 255 (s.energy.bypass.count + 1)) ∧
      (¬((s.switch.relay = .open ∨ s.switch.relay = .ready) ∧ s.setting .bypassFloor ≤ r.billed) →
        t.energy.bypass.count = 0) ∧
      (∀ q q' : Qualifier, (q, q') ∈ [(s.energy.imbalance, t.energy.imbalance), (s.energy.reverseFlow, t.energy.reverseFlow),
          (s.energy.bypass, t.energy.bypass)] →
        q'.forced = q.forced ∧ q'.forcedCount = if q.forced then min 255 (q.forcedCount + 1) else q.forcedCount) ∧
      (r.imbalance.qualified = true ↔ s.setting .imbBlocks ≤ t.energy.imbalance.count) ∧
      (r.reverse.qualified = true ↔ 40 ≤ t.energy.reverseFlow.count) ∧
      (r.bypass.qualified = true ↔ 16 ≤ t.energy.bypass.count) ∧
      (r.imbalance.testQualified = true ↔
        t.energy.imbalance.forced = true ∧ s.setting .imbBlocks ≤ t.energy.imbalance.forcedCount) ∧
      (r.reverse.testQualified = true ↔ t.energy.reverseFlow.forced = true ∧ 40 ≤ t.energy.reverseFlow.forcedCount) ∧
      (r.bypass.testQualified = true ↔ t.energy.bypass.forced = true ∧ 16 ≤ t.energy.bypass.forcedCount)

/-- R21, R24 and R3: the HOLD entry, the warm start, and the news of a calibration write when no write waits for it.
That such news is taken in HOLD too is the model's choice of notes/assumptions/46.md. -/
def Obligations.EnergyStartsAndCalibration : Prop :=
  ∀ s : State,
    exec .energyHoldEntry s = .next { s with
      energy := { s.energy with
        imbalance := { s.energy.imbalance with count := 0 }
        reverseFlow := { s.energy.reverseFlow with count := 0 }
        bypass := { s.energy.bypass with count := 0 } }
      inFlight := s.inFlight.erase .energyHoldEntry ++ [.conditionsUnqualifiedNews] } ∧
    exec .energyWarmStart s = .next { s with
      energy := { s.energy with settling := true, power := 0, voltage := 0 }
      inFlight := s.inFlight.erase .energyWarmStart } ∧
    (s.settings.waiting = none →
      exec (.calibrationWriteNews .line) s = .next { s with
        energy := { s.energy with rL := 0 }, inFlight := s.inFlight.erase (.calibrationWriteNews .line) } ∧
      exec (.calibrationWriteNews .neutral) s = .next { s with
        energy := { s.energy with rN := 0 }, inFlight := s.inFlight.erase (.calibrationWriteNews .neutral) })


/-! ### Calendar Unit -/

/-- R25, R26, R27, R30, R137: a second tick in RUN, in HOLD, and without the retained domain; and the warm start, which re-evaluates the
band and the friendly flag from T as it then stands.
That a tick without the retained domain does nothing is the model's choice of notes/assumptions/6.md, and that the HOLD reading timer
counts the ticks of HOLD and stands at 60 that of notes/assumptions/24.md; that a warm start taken after a further HOLD entry acts all the
same is that of notes/assumptions/46.md. -/
def Obligations.MeterTimeAdvancesAndReevaluates : Prop :=
  (∀ s : State,
    (s.supply.retention = true → s.supply.power = .run → ∃ t, exec .secondTick s = .next t ∧ OnlyChanges [.calendar] s t ∧
      t.calendar = { s.calendar with
        t := min (s.calendar.t + 1) 4294967295
        band := bandAt s.calendar.table (min (s.calendar.t + 1) 4294967295)
        friendly := friendlyAt s.calendar.table (min (s.calendar.t + 1) 4294967295) } ∧
      t.inFlight = s.inFlight ++ (if t.calendar.friendly = s.calendar.friendly then [] else
        [.friendlyFlagNews t.calendar.friendly]) ++
        [.creditSecond, .switchSecond, .tamperSecond, .supervisorSecond 0 0, .settingsSecond]) ∧
    (s.supply.retention = true → s.supply.power = .hold → exec .secondTick s = .next { s with
      calendar := { s.calendar with t := min (s.calendar.t + 1) 4294967295 }
      supply := { s.supply with holdTimer := min (s.supply.holdTimer + 1) 60 } }) ∧
    (s.supply.retention = false → exec .secondTick s = .next s)) ∧
  (∀ s : State, ∃ t, exec .calendarWarmStart s = .next t ∧ OnlyChanges [.calendar] s t ∧
    t.calendar = { s.calendar with
      band := bandAt s.calendar.table s.calendar.t, friendly := friendlyAt s.calendar.table s.calendar.t } ∧
    Sends .calendarWarmStart s t
      (if t.calendar.friendly = s.calendar.friendly then [] else [.friendlyFlagNews t.calendar.friendly]))

/-- R28, R29, R31: the band is that of the last switch point of today's schedule at or below the second of the day, or of
yesterday's last point before today's first; the friendly flag is set while a window is active. -/
def Obligations.BandAndFriendlyFlagOfTheTable : Prop :=
  ∀ (table : Tariff) (t w yesterday sec : Nat), w = (t / 86400 + table.w0) % 7 → yesterday = (w + 6) % 7 → sec = t % 86400 →
    (∀ (before after : List SwitchPoint) (p : SwitchPoint),
      (if table.restMask.getLsbD w then table.restDay else table.workday) = before ++ p :: after → p.second ≤ sec →
      (∀ q ∈ after, sec < q.second) → bandAt table t = p.band) ∧
    (∀ (before : List SwitchPoint) (p : SwitchPoint),
      (∀ q ∈ if table.restMask.getLsbD w then table.restDay else table.workday, sec < q.second) →
      (if table.restMask.getLsbD yesterday then table.restDay else table.workday) = before ++ [p] →
      bandAt table t = p.band) ∧
    (friendlyAt table t = true ↔ ∃ x ∈ table.windows,
      (x.start < x.stop ∧ x.mask.getLsbD w = true ∧ x.start ≤ sec ∧ sec < x.stop) ∨
      (x.stop < x.start ∧ ((x.start ≤ sec ∧ x.mask.getLsbD w = true) ∨ (sec < x.stop ∧ x.mask.getLsbD yesterday = true))))

/-- R33 and R35 in COMMISSIONING: T becomes the target, the allowance is neither read nor changed, and the answer carries the requested
delta twice; a target equal to T sends nothing else. R34 and R35 in IN_SERVICE: the renewal, the three limits in their order, the
charge of the allowance and the applied set. R37: in HOLD the order is not taken; that one whose engine's HOLD entry is on its way is
not taken either is the model's choice of notes/assumptions/31.md. -/
def Obligations.TimeSetInCommissioningAndInService : Prop :=
  (∀ (s : State) (order : OrderId) (target : BitVec 32), s.supply.power = .hold ∨ .engineHoldEntry ∈ s.inFlight →
    exec (.setTime order target) s = .next { s with inFlight := s.inFlight.erase (.setTime order target) }) ∧
  (∀ (s : State) (order : OrderId) (target : BitVec 32) (d : Int), s.supply.power = .run → .engineHoldEntry ∉ s.inFlight →
    s.settings.service = .commissioning →
    d = (target.toNat : Int) - (s.calendar.t : Int) →
    (d = 0 → exec (.setTime order target) s = .next { s with
      inFlight := s.inFlight.erase (.setTime order target) ++ [.ownerAnswer order .ok (.setTime 0 0 s.calendar.allowance)] }) ∧
    (d ≠ 0 → ∃ t, exec (.setTime order target) s = .next t ∧ OnlyChanges [.calendar] s t ∧
      t.calendar = { s.calendar with
        t := target.toNat
        band := bandAt s.calendar.table target.toNat
        friendly := friendlyAt s.calendar.table target.toNat } ∧
      Sends (.setTime order target) s t ([.entryArrival ⟨target.toNat, .time s.calendar.t d⟩, .newTArrival] ++
        (if t.calendar.friendly = s.calendar.friendly then [] else [.friendlyFlagNews t.calendar.friendly]) ++
        [.ownerAnswer order .ok (.setTime d d s.calendar.allowance)]))) ∧
  (∀ (s : State) (order : OrderId) (target : BitVec 32) (requested d1 d2 applied : Int) (allowance day : Nat),
    s.supply.power = .run → .engineHoldEntry ∉ s.inFlight → s.settings.service = .inService → s.calendar.t ≤ 4294967295 →
    requested = (target.toNat : Int) - (s.calendar.t : Int) →
    (if s.calendar.allowanceDay < s.calendar.t / 86400 then allowance = 900 ∧ day = s.calendar.t / 86400
      else allowance = s.calendar.allowance ∧ day = s.calendar.allowanceDay) →
    d1 = max (-300) (min 300 requested) →
    d2 = max (-(allowance : Int)) (min (allowance : Int) d1) →
    applied = max (-(s.calendar.t : Int)) (min (4294967295 - (s.calendar.t : Int)) d2) →
    ∃ t, exec (.setTime order target) s = .next t ∧ OnlyChanges [.calendar] s t ∧
      (t.calendar.t : Int) = s.calendar.t + applied ∧ t.calendar.t ≤ 4294967295 ∧
      t.calendar.allowance + applied.natAbs = allowance ∧ t.calendar.allowanceDay = day ∧
      t.calendar.table = s.calendar.table ∧ t.calendar.adopted = s.calendar.adopted ∧
      (applied = 0 → t.calendar.band = s.calendar.band ∧ t.calendar.friendly = s.calendar.friendly ∧
        Sends (.setTime order target) s t [.ownerAnswer order .ok (.setTime requested 0 allowance)]) ∧
      (applied ≠ 0 → t.calendar.band = bandAt s.calendar.table t.calendar.t ∧
        t.calendar.friendly = friendlyAt s.calendar.table t.calendar.t ∧
        Sends (.setTime order target) s t ([.entryArrival ⟨t.calendar.t, .time s.calendar.t applied⟩, .newTArrival] ++
          (if t.calendar.friendly = s.calendar.friendly then [] else [.friendlyFlagNews t.calendar.friendly]) ++
          [.ownerAnswer order .ok (.setTime requested applied t.calendar.allowance)])))

/-- R39, R40, R188 and R32: an image of 256 bytes is refused with the first item that fails and the first element that fails it, and
changes nothing; where no item fails it is adopted whole, the table being the one that its bytes hold, and what stands then meets the
ranges of the table. R42 and R47: no adoption is made in HOLD; that an image is not taken either while the engine's HOLD entry is on its
way is the model's choice of notes/assumptions/31.md. -/
def Obligations.TariffImageRefusedOrAdopted : Prop :=
  ∀ (s : State) (order : OrderId) (image : List Byte), image.length = 256 →
    (s.supply.power = .hold ∨ .engineHoldEntry ∈ s.inFlight → exec (.tariffImageArrival order image) s = .next { s with
      inFlight := s.inFlight.erase (.tariffImageArrival order image) }) ∧
    (∀ item index, s.supply.power = .run → .engineHoldEntry ∉ s.inFlight → ItemFails image item index →
      (∀ j k, j < item ∨ (j = item ∧ k < index) → ¬ItemFails image j k) →
      exec (.tariffImageArrival order image) s = .next { s with
        inFlight := s.inFlight.erase (.tariffImageArrival order image) ++
          [.ownerAnswer order .badArgument (.tariffRefused item index)] }) ∧
    (s.supply.power = .run → .engineHoldEntry ∉ s.inFlight → (∀ j k, ¬ItemFails image j k) →
      ∃ t, exec (.tariffImageArrival order image) s = .next t ∧ OnlyChanges [.calendar] s t ∧
      TableRead image t.calendar.table ∧ TariffInRange t.calendar.table ∧
      t.calendar = { s.calendar with
        table := t.calendar.table
        adopted := true
        band := bandAt t.calendar.table s.calendar.t
        friendly := friendlyAt t.calendar.table s.calendar.t } ∧
      Sends (.tariffImageArrival order image) s t
        [.newTableArrival (if t.calendar.friendly = s.calendar.friendly then none else some t.calendar.friendly),
          .entryArrival ⟨s.calendar.t, .tariff t.calendar.band t.calendar.friendly⟩,
          .ownerAnswer order .ok (.tariffAdopted t.calendar.band t.calendar.friendly)])


/-! ### Credit Unit -/

/-- R51: the four conditions of the credit state. -/
def Obligations.CreditStateConditions : Prop :=
  ∀ (c : Int) (em : Bool) (lowT ec : Nat),
    (creditStateOf c em lowT ec = .normal ↔ (lowT : Int) < c) ∧
    (creditStateOf c em lowT ec = .low ↔ 0 < c ∧ c ≤ (lowT : Int)) ∧
    (creditStateOf c em lowT ec = .emergency ↔ c ≤ 0 ∧ em = true ∧ -(ec : Int) < c) ∧
    (creditStateOf c em lowT ec = .exhausted ↔ c ≤ 0 ∧ (em = false ∨ c ≤ -(ec : Int)))

/-- R43, R45, R51, R52: the energy charge of a block result, with the debt floor and the evaluation; a charge of 0 leaves all but
the remainder.
That a charge of 0 is not evaluated is notes/assumptions/28.md. -/
def Obligations.BlockResultCharged : Prop :=
  ∀ (s : State) (r : BlockResult) (sum due : Nat),
    sum = r.billed * s.calendar.table.rates[s.calendar.band] + s.credit.q → due = sum / 1000000000 →
    (due = 0 → exec (.creditBlockResult r) s = .next { s with
      credit := { s.credit with q := sum }, inFlight := s.inFlight.erase (.creditBlockResult r) }) ∧
    (0 < due → -(s.calendar.table.df : Int) ≤ s.credit.c - due →
      ∃ t sent, exec (.creditBlockResult r) s = .next t ∧ OnlyChanges [.credit, .exchange] s t ∧
        Sends (.creditBlockResult r) s t sent ∧
        CreditEvaluated .block { s.credit with q := sum % 1000000000, c := s.credit.c - due } s t sent) ∧
    (0 < due → s.credit.c - due < -(s.calendar.table.df : Int) →
      ∃ t sent, exec (.creditBlockResult r) s = .next t ∧ OnlyChanges [.credit, .exchange] s t ∧
        Sends (.creditBlockResult r) s t sent ∧
        CreditEvaluated .block { s.credit with
          q := sum % 1000000000
          c := -(s.calendar.table.df : Int)
          b := s.credit.b + BitVec.ofInt 64 (-(s.calendar.table.df : Int) - (s.credit.c - due)) } s t sent)

/-- R46, at a delivered second and at a new T: no hour crossed charges nothing; the hours crossed are one lump taken by R45.
A lump of 0 is evaluated all the same (notes/assumptions/28.md); that a new T is taken in HOLD too is the model's choice of
notes/assumptions/46.md. -/
def Obligations.HourRuleCharges : Prop :=
  ∀ (s : State) (c : Instr) (hour : Nat) (lump : Int), (c = .creditSecond ∨ c = .newTArrival) → hour = s.calendar.t / 3600 →
    lump = ((hour : Int) - s.credit.hLast) * s.calendar.table.sc →
    (hour ≤ s.credit.hLast → exec c s = .next { s with inFlight := s.inFlight.erase c }) ∧
    (s.credit.hLast < hour → -(s.calendar.table.df : Int) ≤ s.credit.c - lump →
      ∃ t sent, exec c s = .next t ∧ OnlyChanges [.credit, .exchange] s t ∧ Sends c s t sent ∧
        CreditEvaluated .hour { s.credit with hLast := hour, c := s.credit.c - lump } s t sent) ∧
    (s.credit.hLast < hour → s.credit.c - lump < -(s.calendar.table.df : Int) →
      ∃ t sent, exec c s = .next t ∧ OnlyChanges [.credit, .exchange] s t ∧ Sends c s t sent ∧
        CreditEvaluated .hour { s.credit with
          hLast := hour
          c := -(s.calendar.table.df : Int)
          b := s.credit.b + BitVec.ofInt 64 (-(s.calendar.table.df : Int) - (s.credit.c - lump)) } s t sent)

/-- R53: a draw is accepted in LOW or EXHAUSTED with the right unused and C above minus EC; every other order is refused with
nothing changed. That an order in flight at the HOLD entry is taken in HOLD as in RUN is the model's choice of
notes/assumptions/31.md. -/
def Obligations.EmergencyDrawn : Prop :=
  ∀ (s : State) (order : OrderId) (ok : Prop),
    (ok ↔ (s.credit.state = .low ∨ s.credit.state = .exhausted) ∧ s.credit.ea = true ∧
      -(s.calendar.table.ec : Int) < s.credit.c) →
    (ok → ∃ t sent, exec (.emergency order) s = .next t ∧ OnlyChanges [.credit, .exchange] s t ∧
      Sends (.emergency order) s t (.entryArrival ⟨s.calendar.t, .emergency s.credit.c s.calendar.table.ec⟩ :: sent ++
        [.ownerAnswer order .ok (.emergency t.credit.state false true s.credit.c)]) ∧
      CreditEvaluated .emergency { s.credit with em := true, ea := false } s t sent) ∧
    (¬ok → exec (.emergency order) s = .next { s with
      inFlight := s.inFlight.erase (.emergency order) ++
        [.ownerAnswer order .wrongState (.emergency s.credit.state s.credit.ea s.credit.em s.credit.c)] })

/-- R55, R56, R77, R78 for the evaluation that waits: over the cap nothing but the evaluation changes; else the balance rises, an
emergency ends where it rises above 0, the serial is recorded and the answer carries the balance. R82: what recording a serial makes of
an ordered history, here and wherever a code is accepted.
That the evaluation waits in the unit, and ends with its record, its entry and its answer in the step of the request, is the model's
choice of notes/assumptions/16.md. -/
def Obligations.TopUpTaken : Prop :=
  ∀ (s : State) (amount : Nat) (ev : Evaluation) (sum : Int), s.code.evaluation = some ev →
    sum = s.credit.c + amount * 1000 →
    (10000000000 < sum → exec (.topUpRequest amount) s = .next { s with
      code := { s.code with evaluation := none }
      inFlight := s.inFlight.erase (.topUpRequest amount) ++ [.ownerAnswer ev.order .ok (.code .overCap ev.cls ev.serial
        ev.amount s.credit.c (lockoutRemaining s.code.lockoutEnd s.calendar.t))] }) ∧
    (HistoryOrdered s.code → SerialRecorded s.code ev.serial (s.code.record ev.serial)) ∧
    (sum ≤ 10000000000 → ∃ t sent, exec (.topUpRequest amount) s = .next t ∧ OnlyChanges [.credit, .exchange, .code] s t ∧
      t.code = { s.code.record ev.serial with failures := 0, evaluation := none } ∧ t.credit.c = sum ∧
      Sends (.topUpRequest amount) s t (sent ++ [.entryArrival ⟨s.calendar.t, .code ev.cls ev.serial ev.amount⟩,
        .ownerAnswer ev.order .ok (.code .accepted ev.cls ev.serial ev.amount sum
          (lockoutRemaining s.code.lockoutEnd s.calendar.t))]) ∧
      CreditEvaluated .topUp { s.credit with
        c := sum
        em := s.credit.em && !decide (0 < sum)
        ea := s.credit.ea || (s.credit.em && decide (0 < sum)) } s t sent)

/-- R60, R61 and R62 at the news of a friendly flag, and of a service state that no arrival of the Settings Unit waits for; R58, R59: at a
new table the clamp to the new debt floor, the evaluation, the friendly view where one comes, and one re-evaluation of the reason;
R47, R61, R66: at the warm start the HOLD lump, the evaluation and the request whether or not it agrees.
That a new table's reason is re-evaluated once, and that the warm start sends one request also where the evaluation changes the state, are
notes/assumptions/28.md; that news in flight at the HOLD entry is taken in HOLD is the model's choice of notes/assumptions/46.md. -/
def Obligations.CreditViewsTablesAndWarmStart : Prop :=
  (∀ s : State,
    (∀ f : Bool, ∃ t sent, exec (.friendlyFlagNews f) s = .next t ∧ OnlyChanges [.credit] s t ∧
      Sends (.friendlyFlagNews f) s t sent ∧
      CreditReasoned { s.credit with friendlyView := f } s.credit.state t.credit sent) ∧
    (∀ v : ServiceState, s.settings.waiting = none → ∃ t sent, exec (.serviceStateNewsCredit v) s = .next t ∧
      OnlyChanges [.credit] s t ∧ Sends (.serviceStateNewsCredit v) s t sent ∧
      CreditReasoned { s.credit with serviceView := v } s.credit.state t.credit sent)) ∧
  (∀ s : State,
    (∀ f : Option Bool, ∃ t x entry asked, exec (.newTableArrival f) s = .next t ∧ OnlyChanges [.credit, .exchange] s t ∧
      x = { s.credit with
        c := max s.credit.c (-(s.calendar.table.df : Int))
        b := s.credit.b + BitVec.ofInt 64 (max s.credit.c (-(s.calendar.table.df : Int)) - s.credit.c) } ∧
      CreditRecorded .tariff x s t entry ∧ Sends (.newTableArrival f) s t (entry ++ asked) ∧
      CreditReasoned { x with friendlyView := f.getD s.credit.friendlyView } t.credit.state t.credit asked) ∧
    (∃ t x entry, exec .creditWarmStart s = .next t ∧ OnlyChanges [.credit, .exchange] s t ∧
      (s.calendar.t / 3600 ≤ s.credit.hLast → x = s.credit) ∧
      (∀ lump : Int, s.credit.hLast < s.calendar.t / 3600 →
        lump = (((s.calendar.t / 3600 : Nat) : Int) - s.credit.hLast) * s.calendar.table.sc →
        x = { s.credit with
          hLast := s.calendar.t / 3600
          c := max (s.credit.c - lump) (-(s.calendar.table.df : Int))
          b := s.credit.b + BitVec.ofInt 64 (max (s.credit.c - lump) (-(s.calendar.table.df : Int)) - (s.credit.c - lump)) }) ∧
      CreditRecorded .hour x s t entry ∧
      Sends .creditWarmStart s t (entry ++ [.reasonRequest t.credit.requested .credit]) ∧
      CreditReasoned x t.credit.state t.credit (if t.credit.requested = x.requested then [] else
        [.reasonRequest t.credit.requested .credit])))


/-! ### Code Unit -/

/-- R67, R72, R68, R86: while a lockout runs the code is refused LOCKED_OUT, its end brought to within 600 seconds; else an ended lockout is
discarded and a byte above 9 is refused MALFORMED. Neither reads the digits further or counts a failure. A code that comes while an
evaluation waits for an owner is not taken, and nor is the news of a key write. R84 and R88: that news, when no write waits for it,
empties the history; a warm start changes nothing. R67 and R88: a code that a loss of supply meets before its evaluation begins is not
evaluated. That a code and the news wait so is the model's choice of notes/assumptions/16.md; that it is not evaluated either while the
engine's HOLD entry is on its way, that of notes/assumptions/31.md. That news of a key write in flight at the HOLD entry is taken in
HOLD is the model's choice of notes/assumptions/46.md. -/
def Obligations.CodeLockedOutMalformedOrHistoryKept : Prop :=
  (∀ (s : State) (order : OrderId) (digits : List Byte),
    (s.code.evaluation ≠ none → exec (.enterCode order digits) s = .next s) ∧
    (s.code.evaluation = none → s.supply.power = .hold ∨ .engineHoldEntry ∈ s.inFlight →
      exec (.enterCode order digits) s = .next { s with inFlight := s.inFlight.erase (.enterCode order digits) }) ∧
    (∀ e, s.code.evaluation = none → s.supply.power = .run → .engineHoldEntry ∉ s.inFlight → s.code.lockoutEnd = some e →
      s.calendar.t < e →
      exec (.enterCode order digits) s = .next { s with
        code := { s.code with lockoutEnd := some (min e (s.calendar.t + 600)) }
        inFlight := s.inFlight.erase (.enterCode order digits) ++
          [.ownerAnswer order .ok (.code .lockedOut 0 0 0 s.credit.c (min (e - s.calendar.t) 600))] }) ∧
    (s.code.evaluation = none → s.supply.power = .run → .engineHoldEntry ∉ s.inFlight →
      (∀ e, s.code.lockoutEnd = some e → e ≤ s.calendar.t) → (∃ d ∈ digits, 9 < d.toNat) →
      exec (.enterCode order digits) s = .next { s with
        code := { s.code with lockoutEnd := none }
        inFlight := s.inFlight.erase (.enterCode order digits) ++
          [.ownerAnswer order .ok (.code .malformed 0 0 0 s.credit.c 0)] })) ∧
  (∀ s : State,
    (s.code.evaluation ≠ none → exec .keyWriteNews s = .next s) ∧
    (s.code.evaluation = none → s.settings.waiting = none → exec .keyWriteNews s = .next { s with
      code := { s.code with used := [], floor := 0 }, inFlight := s.inFlight.erase .keyWriteNews }) ∧
    exec .codeWarmStart s = .next { s with inFlight := s.inFlight.erase .codeWarmStart })

/-- R69 to R78, R85, R86 for 24 digits met by no lockout and no HOLD: the first of the steps 3 to 8 that fails is the outcome; BAD_CHECK and
WRONG_METER are counted, the fifth starting a lockout; a code that passes them waits on the request to its owner.
The first clauses are R70: numbers most significant byte first, and the check's register, preset to 0xFFFF, through the eight bits of a
byte from the most significant.
How the evaluation waits is notes/assumptions/16.md. That the answer of the fifth failure carries the lockout end set less T, which is
600 but within 600 seconds of saturation, is the model's choice of notes/assumptions/23.md. -/
def Obligations.CodeEvaluated : Prop :=
  (∀ n v, (beBytes n v).length = n ∧ numberAt (beBytes n v) 0 n = v % 256 ^ n) ∧
  crc16 [] = 0xFFFF#16 ∧
  (∀ (bytes : List Byte) (b : Byte), ∃ reg : Nat → BitVec 16, reg 0 = crc16 bytes ∧ reg 8 = crc16 (bytes ++ [b]) ∧
    ∀ k, k < 8 → reg (k + 1) =
      if (reg k).msb = b.getLsbD (7 - k) then reg k <<< 1 else (reg k <<< 1) ^^^ 0x1021#16) ∧
  ∀ (s : State) (order : OrderId) (digits : List Byte) (n cls serial amount : Nat) (o : Option CodeOutcome),
    s.code.evaluation = none → s.supply.power = .run → .engineHoldEntry ∉ s.inFlight →
    (∀ e, s.code.lockoutEnd = some e → e ≤ s.calendar.t) → (∀ d ∈ digits, d.toNat ≤ 9) →
    n = digits.foldl (fun a d => a * 10 + d.toNat) 0 →
    cls = n / 2 ^ 76 → serial = n / 2 ^ 56 % 2 ^ 20 → amount = n / 2 ^ 32 % 2 ^ 24 →
    o = (if s.settings.fault = true ∨ s.settings.keySet = false then some .keyFault
      else if crc16 (beBytes 8 (n / 2 ^ 16) ++ beBytes 8 (s.setting .meterKey)) ≠ BitVec.ofNat 16 n then some .badCheck
      else if n / 2 ^ 16 % 2 ^ 16 ≠ s.setting .meterNumber % 65536 then some .wrongMeter
      else if 3 < cls then some .unknownClass
      else if serial ≤ s.code.floor ∨ serial ∈ s.code.used then some .used
      else if cls = 0 ∧ amount = 0 then some .invalidAmount
      else if cls = 1 ∧ 65535 < amount then some .invalidAmount
      else if cls = 2 ∧ (amount = 0 ∨ 63 < amount) then some .invalidAmount
      else if cls = 3 ∧ amount ≠ 0 then some .invalidAmount
      else if cls = 3 ∧ s.settings.service = .commissioning then some .wrongState
      else none) →
    (∀ r, o = some r → r ≠ .badCheck → r ≠ .wrongMeter → exec (.enterCode order digits) s = .next { s with
      code := { s.code with lockoutEnd := none }
      inFlight := s.inFlight.erase (.enterCode order digits) ++
        [.ownerAnswer order .ok (.code r cls serial amount s.credit.c 0)] }) ∧
    (∀ r, o = some r → r = .badCheck ∨ r = .wrongMeter → s.code.failures < 4 → exec (.enterCode order digits) s = .next { s with
      code := { s.code with lockoutEnd := none, failures := s.code.failures + 1 }
      inFlight := s.inFlight.erase (.enterCode order digits) ++
        [.ownerAnswer order .ok (.code r cls serial amount s.credit.c 0)] }) ∧
    (∀ r stop, o = some r → r = .badCheck ∨ r = .wrongMeter → 4 ≤ s.code.failures →
      stop = min (s.calendar.t + 600) 4294967295 → exec (.enterCode order digits) s = .next { s with
        code := { s.code with lockoutEnd := some stop, failures := 0 }
        inFlight := s.inFlight.erase (.enterCode order digits) ++ [.entryArrival ⟨s.calendar.t, .lockout r stop⟩,
          .ownerAnswer order .ok (.code r cls serial amount s.credit.c (stop - s.calendar.t))] }) ∧
    (o = none → exec (.enterCode order digits) s = .next { s with
      code := { s.code with lockoutEnd := none, evaluation := some ⟨order, cls, serial, amount⟩ }
      inFlight := s.inFlight.erase (.enterCode order digits) ++
        [if cls = 0 then .topUpRequest amount else if cls = 1 then .limitRequest amount
          else if cls = 2 then .clearRequest (BitVec.ofNat 6 amount) else .releaseRequest] })


/-! ### Switch Unit -/

/-- R89 to R92, R101 and R111: the add of a reason, with `x` the Switch Unit with the reason in its set and the consent-required flag of
R90; and the remove of a reason.
The entry of an arrival at CLOSED carries the consent-required flag as cleared, by the model's choice of notes/assumptions/21.md. -/
def Obligations.ReasonsAddedAndRemoved : Prop :=
  (∀ (s base : State) (r : Reason) (x : Switch), base = { s with inFlight := s.inFlight.erase (.reasonRequest true r) } →
    x = { s.switch with
      reasons := s.switch.reasons.set r true
      consent := s.switch.consent || decide (r = .credit ∨ r = .tamper ∨ r = .remote) } →
    (s.switch.reasons.has r = true → exec (.reasonRequest true r) s = .next base) ∧
    (s.switch.reasons.has r = false → s.switch.hold = true → exec (.reasonRequest true r) s = .next { base with switch := x }) ∧
    (s.switch.reasons.has r = false → s.switch.hold = false → s.switch.reasons ≠ ReasonSet.empty → s.switch.relay ≠ .stuck →
      exec (.reasonRequest true r) s = .next { base with switch := x }) ∧
    (s.switch.reasons.has r = false → s.switch.hold = false → s.switch.relay = .stuck →
      exec (.reasonRequest true r) s = .next (stuckJudged base x)) ∧
    (s.switch.hold = false → s.switch.reasons = ReasonSet.empty →
      (s.switch.relay = .closed → exec (.reasonRequest true r) s = .next (operationStarts base x .opening .ordinary)) ∧
      (s.switch.relay = .ready → exec (.reasonRequest true r) s = .next (relayArrives base x .open)) ∧
      (s.switch.relay = .opening ∨ s.switch.relay = .open →
        exec (.reasonRequest true r) s = .next { base with switch := x }) ∧
      (∀ o, s.switch.relay = .closing → s.switch.operation = some o →
        (∀ e n, o.phase = .drive e n → exec (.reasonRequest true r) s = .next { base with
          switch := { x with operation := some { o with reverse := true } } }) ∧
        (o.phase = .coilWait ∨ (∃ e, o.phase = .settle e) →
          exec (.reasonRequest true r) s = .next (operationStarts base x .opening o.origin))))) ∧
  (∀ (s base : State) (r : Reason) (x : Switch), base = { s with inFlight := s.inFlight.erase (.reasonRequest false r) } →
    x = { s.switch with reasons := s.switch.reasons.set r false } →
    (s.switch.reasons.has r = false → exec (.reasonRequest false r) s = .next base) ∧
    (s.switch.reasons.has r = true → s.switch.hold = true → exec (.reasonRequest false r) s = .next { base with switch := x }) ∧
    (s.switch.reasons.has r = true → s.switch.hold = false → s.switch.relay = .stuck →
      exec (.reasonRequest false r) s = .next (stuckJudged base x)) ∧
    (s.switch.reasons.has r = true → s.switch.hold = false → s.switch.relay ≠ .stuck →
      (x.reasons ≠ ReasonSet.empty ∨ s.switch.relay ≠ .open → exec (.reasonRequest false r) s = .next { base with switch := x }) ∧
      (x.reasons = ReasonSet.empty → s.switch.relay = .open → s.switch.consent = true →
        exec (.reasonRequest false r) s = .next (relayArrives base x .ready)) ∧
      (x.reasons = ReasonSet.empty → s.switch.relay = .open → s.switch.consent = false →
        exec (.reasonRequest false r) s = .next (operationStarts base x .closing .ordinary))))

/-- R94, R108, R109 and R111: CONSENT in its three cases; DISCONNECT and PERMIT leave what the add and the remove of REMOTE leave,
and answer or park by the relay state then; a DISCONNECT in STUCK with REMOTE in the set is judged by R101 first. In HOLD no
operation starts; the park of a DISCONNECT taken in HOLD with the relay CLOSED is the model's choice of
notes/assumptions/12.md, that an order before the unit's warm start is taken as in HOLD that of notes/assumptions/49.md, and the flag in
the entry of an arrival that of notes/assumptions/21.md. -/
def Obligations.SwitchOrders : Prop :=
  ∀ (s : State) (order : OrderId),
    (∀ base u, base = { s with inFlight := s.inFlight.erase (.consent order) } →
      (s.switch.relay = .ready → u = (if s.switch.hold then base else operationStarts base s.switch .closing .ordinary) →
        exec (.consent order) s = .next (u.send (.ownerAnswer order .ok (.relay u.switch.relay ReasonSet.empty)))) ∧
      (∀ x, s.switch.relay = .open → s.switch.reasons = ReasonSet.empty.set .overLimit true → s.switch.mode = .lockout →
        x = { s.switch with mode := .none, trips := 0, reasons := ReasonSet.empty } →
        u = (if s.switch.hold then { base with switch := x } else operationStarts base x .closing .ordinary) →
        exec (.consent order) s = .next (u.send (.ownerAnswer order .ok (.relay u.switch.relay ReasonSet.empty)))) ∧
      (s.switch.relay ≠ .ready → ¬(s.switch.relay = .open ∧ s.switch.reasons = ReasonSet.empty.set .overLimit true ∧
          s.switch.mode = .lockout) →
        exec (.consent order) s = .next (base.send (.ownerAnswer order .wrongState (.relay s.switch.relay s.switch.reasons))))) ∧
    (∀ base, base = { s with inFlight := s.inFlight.erase (.disconnect order) } → ∃ u,
      exec (.reasonRequest true .remote) { base with inFlight := .reasonRequest true .remote :: base.inFlight } = .next u ∧
      (s.switch.relay ≠ .stuck ∨ s.switch.hold = true ∨ s.switch.reasons.has .remote = false →
        exec (.disconnect order) s = .next (match u.switch.relay with
          | .open => u.send (.ownerAnswer order .ok (.relay .open u.switch.reasons))
          | .ready => u.send (.ownerAnswer order .ok (.relay .ready u.switch.reasons))
          | .stuck => u.send (.ownerAnswer order .failed (.relay .stuck u.switch.reasons))
          | .opening => u.send (.ownerPark ⟨.switch, order⟩)
          | .closing => u.send (.ownerPark ⟨.switch, order⟩)
          | .closed => u.send (.ownerPark ⟨.switch, order⟩))) ∧
      (s.switch.relay = .stuck → s.switch.hold = false → s.switch.reasons.has .remote = true →
        exec (.disconnect order) s = .next (
          if s.switch.sensedClosed then base.send (.ownerAnswer order .failed (.relay .stuck s.switch.reasons))
          else (relayArrives base s.switch .open).send (.ownerAnswer order .ok (.relay .open s.switch.reasons))))) ∧
    (∀ base, base = { s with inFlight := s.inFlight.erase (.permit order) } → ∃ u,
      exec (.reasonRequest false .remote) { base with inFlight := .reasonRequest false .remote :: base.inFlight } = .next u ∧
      exec (.permit order) s = .next (u.send (.ownerAnswer order .ok (.relay u.switch.relay u.switch.reasons))))

/-- R96 to R98 and R91, with `base` the state after the arrival is taken: a reading in COIL_WAIT begins DRIVE at the duty of R97,
or waits with the flag and the notice; the end of DRIVE; the comparison at the end of SETTLE with its match, its second attempt
and its failure.
R100 and R101: a change of LOAD_SENSE outside HOLD updates the sensed position, and in STUCK it is judged; in HOLD the line alone
changes. Without an operation a coil reading and the ends of phases do nothing.
A phase ends when its row is taken, at any elapsed time (the model's choice of notes/assumptions/3.md). That RELAY_FAULT stands before the
RELAY entry of STUCK, and that the entry of CLOSED carries the consent-required flag as cleared, are notes/assumptions/21.md; that the
unit's HOLD lasts from its own HOLD entry to its own warm start is notes/assumptions/52.md. -/
def Obligations.OperationPhasesAndLoadSense : Prop :=
  (∀ (s : State) (o : Operation), s.switch.operation = some o →
    (∀ cs base duty, base = { s with inFlight := s.inFlight.erase (.coilReading cs) } → o.phase = .coilWait →
      duty = (if s.setting .csNom = 0 then 0 else if cs = 0 then 256 else min 256 (256 * s.setting .csNom / cs)) →
      (s.setting .csMin ≤ cs → exec (.coilReading cs) s = .next { base with switch := { s.switch with
        operation := some { o with phase := .drive 0 (s.setting .pulseLen), duty := some duty }
        lastDuty := duty
        coilWait := false } }) ∧
      (cs < s.setting .csMin → s.switch.coilWait = true → exec (.coilReading cs) s = .next base) ∧
      (cs < s.setting .csMin → s.switch.coilWait = false → exec (.coilReading cs) s = .next { base with
        switch := { s.switch with coilWait := true }
        exchange := { s.exchange with notices := s.exchange.notices ||| 0x40#8 } })) ∧
    (∀ cs, o.phase ≠ .coilWait → exec (.coilReading cs) s = .next { s with inFlight := s.inFlight.erase (.coilReading cs) }) ∧
    (∀ e n, o.phase = .drive e n →
      (o.reverse = false → exec .driveEnd s = .next { s with
        switch := { s.switch with operation := some { o with phase := .settle 0 } } }) ∧
      (o.reverse = true → exec .driveEnd s = .next (operationStarts s s.switch .opening o.origin))) ∧
    ((∀ e n, o.phase ≠ .drive e n) → exec .driveEnd s = .next s) ∧
    ((∀ e, o.phase ≠ .settle e) → exec .settleEnd s = .next s) ∧
    (∀ e x, o.phase = .settle e → x = { s.switch with sensedClosed := s.pins.loadSense } →
      (s.pins.loadSense = true → o.direction = .closing → exec .settleEnd s = .next (relayArrives s x .closed)) ∧
      (s.pins.loadSense = false → o.direction = .opening → exec .settleEnd s = .next (
        if s.switch.reasons ≠ ReasonSet.empty then relayArrives s x .open
        else if s.switch.consent then relayArrives s x .ready
        else operationStarts s x .closing .ordinary)) ∧
      (s.pins.loadSense = decide (o.direction = .opening) → o.attempt < 2 → exec .settleEnd s = .next { s with
        switch := { x with operation := some { o with phase := .coilWait, attempt := 2, duty := none } }
        inFlight := s.inFlight ++ [.coilReadingRequest 0] }) ∧
      (s.pins.loadSense = decide (o.direction = .opening) → 2 ≤ o.attempt → ∀ stuck,
        stuck = relayArrives (if o.origin = .ordinary then { s with
            exchange := { s.exchange with notices := s.exchange.notices ||| 0x40#8 }
            inFlight := s.inFlight ++ [.entryArrival ⟨s.calendar.t, .relayFault o.direction s.pins.loadSense⟩] }
          else s) x .stuck →
        exec .settleEnd s = .next (stuckJudged stuck stuck.switch)))) ∧
  (∀ (s base : State) (level : Bool), base = { s with pins := { s.pins with loadSense := level } } →
    (s.switch.hold = true → exec (.loadSenseChange level) s = .next base) ∧
    (s.switch.hold = false → s.switch.relay ≠ .stuck → exec (.loadSenseChange level) s = .next { base with
      switch := { s.switch with sensedClosed := level } }) ∧
    (s.switch.hold = false → s.switch.relay = .stuck → exec (.loadSenseChange level) s =
      .next (stuckJudged base { s.switch with sensedClosed := level })) ∧
    (s.switch.operation = none → exec .driveEnd s = .next s ∧ exec .settleEnd s = .next s ∧
      ∀ cs, exec (.coilReading cs) s = .next { s with inFlight := s.inFlight.erase (.coilReading cs) }))

/-- R103, R104, R107 and R136: the limit test of a block result; the trip it makes, which adds OVER_LIMIT as R89 gives (the row TRIP
is the block result that makes one); and a limit request, which removes OVER_LIMIT as R89 gives and ends the evaluation that waits
for it (R78).
Where TRIP is sent at any other result it changes nothing (the model's choice of notes/assumptions/17.md). That the evaluation ends in the
step of the limit request is notes/assumptions/16.md; that the counter stops at 3, notes/assumptions/36.md; that a request before the unit's
warm start is taken as in HOLD, notes/assumptions/49.md; that a block result met in HOLD is taken without effect,
notes/assumptions/19.md. -/
def Obligations.PowerLimit : Prop :=
  ∀ (s : State) (r : BlockResult) (holds : Prop),
    (holds ↔ s.switch.pLim ≠ 0 ∧ s.switch.pLim * 1250 < r.billed * 36) →
    (∀ base, base = { s with inFlight := s.inFlight.erase (.switchBlockResult r) } →
      (s.switch.hold = true → exec (.switchBlockResult r) s = .next base) ∧
      (s.switch.hold = false → s.switch.relay ≠ .closed → exec (.switchBlockResult r) s = .next { base with
        switch := { s.switch with limitRun := 0 } }) ∧
      (s.switch.hold = false → s.switch.relay = .closed → ¬holds → exec (.switchBlockResult r) s = .next { base with
        switch := { s.switch with limitRun := 0 } }) ∧
      (s.switch.hold = false → s.switch.relay = .closed → holds → min 240 (s.switch.limitRun + 1) < s.setting .limitHold →
        exec (.switchBlockResult r) s = .next { base with
          switch := { s.switch with limitRun := min 240 (s.switch.limitRun + 1) } }) ∧
      (¬(s.switch.hold = false ∧ s.switch.relay = .closed ∧ holds ∧
          s.setting .limitHold ≤ min 240 (s.switch.limitRun + 1)) → exec (.trip r) s = .next s) ∧
      (∀ c x n, (c = .switchBlockResult r ∨ c = .trip r) → s.switch.hold = false → s.switch.relay = .closed → holds →
        s.setting .limitHold ≤ min 240 (s.switch.limitRun + 1) → n = min 3 (s.switch.trips + 1) →
        x = { s.switch with
          limitRun := 0
          trips := n
          mode := if n < 3 then .backoff else .lockout
          backoff := if n < 3 then s.setting .limitBackoff else s.switch.backoff
          consent := s.switch.consent || decide (3 ≤ n) } → ∃ u,
        exec (.reasonRequest true .overLimit) { base with
          switch := x, inFlight := .reasonRequest true .overLimit :: base.inFlight } = .next u ∧
        exec c s = .next (u.send (.entryArrival ⟨s.calendar.t, .overLimit n x.mode r.billed s.switch.pLim⟩)))) ∧
    (∀ watts base, base = { s with
        switch := { s.switch with pLim := watts, limitRun := 0, trips := 0, mode := .none, backoff := 0 }
        inFlight := s.inFlight.erase (.limitRequest watts) } → ∃ u,
      exec (.reasonRequest false .overLimit) { base with
        inFlight := .reasonRequest false .overLimit :: base.inFlight } = .next u ∧
      exec (.limitRequest watts) s = .next (codeAcceptedBy u u.credit.c))

/-- R102, R105, R106, R111: a delivered second. The back-off comes first: `u` is the part after it, with OVER_LIMIT removed as R89
gives where it expires. Then the closed time or the STUCK wait of a relay that stood so and stands so still; that order is the
model's choice of notes/assumptions/9.md. The rows of the expiries are the seconds at which they fall; at any other they change nothing
(notes/assumptions/17.md); that the unit's HOLD lasts from its own HOLD entry to its own
warm start is notes/assumptions/52.md, and that a second met there is taken without effect is notes/assumptions/19.md. -/
def Obligations.SwitchSeconds : Prop :=
  ∀ (s base : State) (c : Instr) (backoffEnds closedEnds retryDue : Prop),
    base = { s with inFlight := s.inFlight.erase .switchSecond } →
    (backoffEnds ↔ s.switch.mode = .backoff ∧ s.switch.backoff ≤ 1) →
    (closedEnds ↔ s.switch.relay = .closed ∧ s.switch.closedTime + 1 = 600) →
    (retryDue ↔ s.switch.relay = .stuck ∧ 300 ≤ s.switch.stuckWait + 1) →
    (s.switch.hold = true → exec .switchSecond s = .next base) ∧
    (s.switch.hold = true ∨ ¬backoffEnds → exec .backoffExpiry s = .next s) ∧
    (s.switch.hold = true ∨ ¬closedEnds → exec .closedTimeExpiry s = .next s) ∧
    (s.switch.hold = true ∨ ¬retryDue → exec .stuckRetry s = .next s) ∧
    (s.switch.hold = false → (c = .switchSecond ∨ (c = .backoffExpiry ∧ backoffEnds) ∨ (c = .closedTimeExpiry ∧ closedEnds) ∨
        (c = .stuckRetry ∧ retryDue)) → ∃ u,
      (s.switch.mode ≠ .backoff → u = base) ∧
      (s.switch.mode = .backoff → 1 < s.switch.backoff → u = { base with
        switch := { s.switch with backoff := s.switch.backoff - 1 } }) ∧
      (backoffEnds → exec (.reasonRequest false .overLimit) { base with
        switch := { s.switch with backoff := 0, mode := .none }
        inFlight := .reasonRequest false .overLimit :: base.inFlight } = .next u) ∧
      exec c s = .next (
        if s.switch.relay = .closed ∧ u.switch.relay = .closed then closedSecondPasses u
        else if s.switch.relay = .stuck ∧ u.switch.relay = .stuck then stuckSecondPasses u
        else u))

/-- R111, R112 and R136: the HOLD entry ends any operation and drops the results, seconds and readings sent before it; the warm
start decides from LOAD_SENSE, the set and the flag. The abandoned operation's request for a reading goes with it.
What is dropped from flight is notes/assumptions/18.md; that the entry of an arrival at CLOSED carries the consent-required flag as
cleared is the model's choice of notes/assumptions/21.md. -/
def Obligations.SwitchHoldAndWarmStart : Prop :=
  ∀ s : State,
    (∃ t, exec .switchHoldEntry s = .next t ∧ OnlyChanges [.switch] s t ∧
      t.switch = { s.switch with
        relay := if s.switch.relay = .opening ∨ s.switch.relay = .closing then .open else s.switch.relay
        operation := none
        coilWait := false
        limitRun := 0
        hold := true } ∧
      (∀ before after, s.inFlight = before ++ .switchHoldEntry :: after → .switchHoldEntry ∉ before →
        t.inFlight = ((before.filter fun c => match c with
          | .switchBlockResult _ => false
          | .switchSecond => false
          | .coilReading _ => false
          | _ => true) ++ after).filter fun c => match c with
          | .coilReadingRequest _ => false
          | _ => true)) ∧
    (∀ base x, base = { s with inFlight := s.inFlight.erase .switchWarmStart } →
      x = { s.switch with hold := false, sensedClosed := s.pins.loadSense } →
      exec .switchWarmStart s = .next (
        if s.pins.loadSense then
          if s.switch.reasons = ReasonSet.empty then relayArrives base x .closed
          else operationStarts base x .opening .ordinary
        else if s.switch.reasons ≠ ReasonSet.empty then relayArrives base x .open
        else if s.switch.consent then relayArrives base x .ready
        else operationStarts base x .closing .ordinary))


/-! ### Tamper Unit -/

/-- R115, R116, R120, R125, R131, R138: the change of a line, and the expiry of the 50 ms timer. A line is taken while the retained
domain holds, and in HOLD only CASE.
The expiry acts when its row is taken, at any elapsed time, and carries the line's timer to 50, by the model's choice of
notes/assumptions/3.md; that no line is taken without the retained domain is that of notes/assumptions/6.md; that the unit's HOLD lasts
from its own HOLD entry to its own warm start is notes/assumptions/52.md. -/
def Obligations.LinesQualify : Prop :=
  ∀ (s : State) (l : Line) (taken : Prop), (taken ↔ s.supply.retention = true ∧ (l = .case ∨ s.tamper.hold = false)) →
    (∀ base x tampered, base = { s with pins := s.pins.setLine l tampered } → x = s.tamper.setLine l ⟨.normal, 0⟩ →
      (¬taken → exec (.lineChange l tampered) s = .next base) ∧
      (taken → tampered = true → (s.tamper.line l).stage = .normal → exec (.lineChange l tampered) s = .next { base with
        tamper := s.tamper.setLine l ⟨.pending, 0⟩ }) ∧
      (taken → tampered = true → (s.tamper.line l).stage ≠ .normal → exec (.lineChange l tampered) s = .next base) ∧
      (taken → tampered = false → (s.tamper.line l).stage ≠ .qualified → exec (.lineChange l tampered) s = .next { base with
        tamper := x }) ∧
      (taken → tampered = false → (s.tamper.line l).stage = .qualified → exec (.lineChange l tampered) s = .next { base with
        tamper := x.setRecord (Line.source l) { s.tamper.record (Line.source l) with active := false } })) ∧
    (taken → l ≠ .magnet → (s.tamper.line l).stage = .pending → Answers (.qualificationTimerExpiry l) s
      (TakenAsReal (Line.source l) { s with tamper := s.tamper.setLine l ⟨.qualified, 50⟩ })) ∧
    (¬(taken ∧ l ≠ .magnet ∧ (s.tamper.line l).stage = .pending) → exec (.qualificationTimerExpiry l) s = .next s)

/-- R116, R129, R136: a delivered second, for the real MAGNET line and then for a forced MAGNET stage, an order that is the model's
choice of notes/assumptions/10.md. The row MAGNET_COUNT_REACHED is the second at which a count reaches 2; that the unit's HOLD lasts from
its own HOLD entry to its own warm start is notes/assumptions/52.md, and that a second met there is taken and counts for nothing is
notes/assumptions/19.md. -/
def Obligations.MagnetSecondsCounted : Prop :=
  ∀ (s base : State) (c : Instr) (reached : Prop), base = { s with inFlight := s.inFlight.erase .tamperSecond } →
    (reached ↔ (s.tamper.magnetLine.stage = .pending ∧ 2 ≤ s.tamper.magnetLine.timer + 1) ∨
      ∃ j, s.tamper.injection = some j ∧ j.target = .magnet ∧ j.stage = .pending ∧ 2 ≤ j.forcedTimer + 1) →
    (s.tamper.hold = true → exec .tamperSecond s = .next base) ∧
    (s.tamper.hold = false → (c = .tamperSecond ∨ (c = .magnetCountReached ∧ reached)) → Answers c s fun t => ∃ u,
      (s.tamper.magnetLine.stage ≠ .pending → u = base) ∧
      (s.tamper.magnetLine.stage = .pending → s.tamper.magnetLine.timer + 1 < 2 → u = { base with
        tamper := { s.tamper with magnetLine := ⟨.pending, s.tamper.magnetLine.timer + 1⟩ } }) ∧
      (s.tamper.magnetLine.stage = .pending → 2 ≤ s.tamper.magnetLine.timer + 1 →
        TakenAsReal .magnet { base with tamper := { s.tamper with magnetLine := ⟨.qualified, 2⟩ } } u) ∧
      (¬(∃ j, u.tamper.injection = some j ∧ j.target = .magnet ∧ j.stage = .pending) → t = u) ∧
      (∀ j x, u.tamper.injection = some j → j.target = .magnet → j.stage = .pending →
        x = { j with
          stage := if j.forcedTimer + 1 < 2 then .pending else .qualified
          forcedTimer := if j.forcedTimer + 1 < 2 then j.forcedTimer + 1 else 2 } →
        (j.forcedTimer + 1 < 2 → t = { u with tamper := { u.tamper with injection := some x } }) ∧
        (2 ≤ j.forcedTimer + 1 → TestOccurred x { u with tamper := { u.tamper with injection := some x } } t)))

/-- R117, R119, R130, R136 and R21: a block result, with the test occurrence first, and the news of the Energy Unit's HOLD entry. The
journal values of a report are those of the result that qualified it.
That these values are kept with the report is notes/assumptions/22.md; the order in which the three reports are compared is the model's
choice of notes/assumptions/50.md; that the unit's HOLD lasts from its own HOLD entry to its own
warm start is notes/assumptions/52.md, and that a result met there is taken without effect is notes/assumptions/19.md. -/
def Obligations.BlockReportsTaken : Prop :=
  ∀ (s : State) (r : BlockResult),
    (∀ base, base = { s with inFlight := s.inFlight.erase (.tamperBlockResult r) } →
      (s.tamper.hold = true → exec (.tamperBlockResult r) s = .next base) ∧
      (s.tamper.hold = false → Answers (.tamperBlockResult r) s fun t => ∃ u,
        ((∀ j, s.tamper.injection = some j → (BlockResult.condition r j.target).testQualified = false) → u = base) ∧
        (∀ j, s.tamper.injection = some j → (BlockResult.condition r j.target).testQualified = true → TestOccurred j base u) ∧
        ReportsCompared { u with tamper := { u.tamper with
          imbalance := if r.imbalance.qualified = true then
              (if u.tamper.imbalance.qualified = true then u.tamper.imbalance
              else ⟨true, r.lineMagnitude, r.neutralMagnitude⟩)
            else { u.tamper.imbalance with qualified := false }
          reverseFlow := if r.reverse.qualified = true then
              (if u.tamper.reverseFlow.qualified = true then u.tamper.reverseFlow
              else ⟨true, r.billed, r.channel.number⟩)
            else { u.tamper.reverseFlow with qualified := false }
          bypass := if r.bypass.qualified = true then
              (if u.tamper.bypass.qualified = true then u.tamper.bypass else ⟨true, r.billed, r.relay.number⟩)
            else { u.tamper.bypass with qualified := false } } } t)) ∧
    Answers .conditionsUnqualifiedNews s (ReportsCompared { s with
      tamper := { s.tamper with
        imbalance := { s.tamper.imbalance with qualified := false }
        reverseFlow := { s.tamper.reverseFlow with qualified := false }
        bypass := { s.tamper.bypass with qualified := false } }
      inFlight := s.inFlight.erase .conditionsUnqualifiedNews })

/-- R122, R123 and R78: a clear request of an accepted code, and the CLEAR TAMPER order with its two refusals. R119: the effective mask of
a source, bit 0 LOCK, bit 1 JOURNAL, bit 2 NOTICE: its action mask, and for CASE in IN_SERVICE also LOCK and JOURNAL.
That the evaluation ends in the step of the clear request is the model's choice of notes/assumptions/16.md; the values that a block
source's new entry carries are those of notes/assumptions/22.md. That a CLEAR TAMPER in flight at the HOLD entry is taken in HOLD is
notes/assumptions/31.md, and that a CASE occurrence before the unit's warm start is a standby one the model's choice of
notes/assumptions/52.md. -/
def Obligations.SourcesClearedByCodeAndOrder : Prop :=
  ∀ s : State,
    (∀ (i : Source) (k : Nat), (s.effectiveMask i).testBit k = ((s.setting (match i with
        | .case => .maskCase
        | .terminal => .maskTerminal
        | .magnet => .maskMagnet
        | .imbalance => .maskImbalance
        | .reverse => .maskReverse
        | .bypass => .maskBypass)).testBit k || decide (i = .case ∧ s.settings.service = .inService ∧ k < 2))) ∧
    (∀ mask : BitVec 6, Answers (.clearRequest mask) s fun t =>
      ∃ u, SourcesCleared false mask { s with inFlight := s.inFlight.erase (.clearRequest mask) } u ∧
        t = codeAcceptedBy u u.credit.c) ∧
    (∀ (order : OrderId) (mask : Byte) (base : State), base = { s with inFlight := s.inFlight.erase (.clearTamper order mask) } →
      (s.settings.service = .inService →
        exec (.clearTamper order mask) s = .next (base.send (.ownerAnswer order .refusedLocked .noneOfTamper))) ∧
      (s.settings.service = .commissioning → mask = 0 ∨ 63 < mask.toNat →
        exec (.clearTamper order mask) s = .next (base.send (.ownerAnswer order .badArgument .noneOfTamper))) ∧
      (s.settings.service = .commissioning → mask ≠ 0 → mask.toNat ≤ 63 → Answers (.clearTamper order mask) s fun t =>
        ∃ (u : State) (after : BitVec 6), SourcesCleared true (mask.setWidth 6) base u ∧
          (∀ i : Source, after.getLsbD i.index.val = (u.tamper.record i).latch) ∧
          t = u.send (.ownerAnswer order .ok (.clearTamper (mask.setWidth 6) after))))

/-- R121, R125 to R127 and R133: the HOLD entry, with the standby occurrence of a CASE that an injection had absorbed; and the warm
start in its order, whose request is sent whether or not it agrees.
What is dropped from flight is notes/assumptions/18.md; the values of the occurrence that the withdrawal of an injection raises are those
of notes/assumptions/22.md; that an injection made since the return to RUN is withdrawn too is the model's choice of
notes/assumptions/52.md. -/
def Obligations.TamperHoldAndWarmStart : Prop :=
  ∀ s : State,
    (Answers .tamperHoldEntry s fun t => ∃ u,
      (∀ before after, s.inFlight = before ++ .tamperHoldEntry :: after → .tamperHoldEntry ∉ before →
        u.inFlight = (before.filter fun c => match c with
          | .tamperBlockResult _ => false
          | .tamperSecond => false
          | _ => true) ++ after) ∧
      u = { s with
        tamper := { s.tamper with
          terminalLine := ⟨.normal, 0⟩, magnetLine := ⟨.normal, 0⟩, hold := true, records := u.tamper.records }
        inFlight := u.inFlight } ∧
      (∀ i, u.tamper.record i = if i = .terminal ∨ i = .magnet then { s.tamper.record i with active := false }
        else s.tamper.record i) ∧
      (s.tamper.hold = false ∧ (∃ j, s.tamper.injection = some j ∧ j.target = .case) ∧
        s.tamper.caseLine.stage = .qualified ∧ (s.tamper.record .case).active = false → Occurred .case u t) ∧
      (¬(s.tamper.hold = false ∧ (∃ j, s.tamper.injection = some j ∧ j.target = .case) ∧
        s.tamper.caseLine.stage = .qualified ∧ (s.tamper.record .case).active = false) → t = u)) ∧
    (Answers .tamperWarmStart s fun t => ∃ base u v,
      base = { s with tamper := { s.tamper with hold := false }, inFlight := s.inFlight.erase .tamperWarmStart } ∧
      ((s.tamper.record .case).standby = none → u = base) ∧
      (∀ m, (s.tamper.record .case).standby = some m → u = { base with
        tamper := base.tamper.setRecord .case { s.tamper.record .case with standby := none }
        exchange := if (s.effectiveMask .case).testBit 2 then
            { s.exchange with notices := s.exchange.notices ||| 0x08#8 } else s.exchange
        inFlight := base.inFlight ++ if (s.effectiveMask .case).testBit 1 then
            [.entryArrival ⟨m.time, .tamper .case false true m.number (s.tamper.record .case).last⟩] else [] }) ∧
      InjectionWithdrawn u v ∧
      (t.tamper.requested = true ↔ ∃ i : Source, (v.tamper.record i).latch = true ∧ (v.effectiveMask i).testBit 0 = true) ∧
      t = { v with
        tamper := { v.tamper with
          requested := t.tamper.requested
          terminalLine := if s.pins.terminalOpen then ⟨.pending, 0⟩ else ⟨.normal, 0⟩
          magnetLine := if s.pins.magnetOn then ⟨.pending, 0⟩ else ⟨.normal, 0⟩ }
        inFlight := v.inFlight ++ [.reasonRequest t.tamper.requested .tamper] })

/-- R128 to R133 and R20: SELF TEST in the order of its checks, the injection it makes, the integrity test it asks for; the expiry of
the forced timer; the deadline; the withdrawal of a link reset.
The forced timer and the deadline of a HOLD stand still (R133).
An expiry acts when its row is taken, and the forced timer's then carries the injection timer on by what it lacked, by the model's
choice of notes/assumptions/3.md; the values of the occurrence that a withdrawal raises are those of notes/assumptions/22.md. That a SELF
TEST in flight at the HOLD entry is taken in HOLD is notes/assumptions/31.md, and that one before the unit's warm start is taken as in HOLD
the model's choice of notes/assumptions/52.md; that a test of target 6 is taken while another's request waits, that of
notes/assumptions/54.md. -/
def Obligations.InjectionsStandAndEnd : Prop :=
  ∀ s : State,
    (∀ (order : OrderId) (target : Byte) (base : State), base = { s with inFlight := s.inFlight.erase (.selfTest order target) } →
      (6 < target.toNat → exec (.selfTest order target) s = .next (base.send (.ownerAnswer order .badArgument .noneOfTamper))) ∧
      (∀ j, target.toNat ≤ 6 → s.tamper.injection = some j →
        exec (.selfTest order target) s = .next (base.send (.ownerAnswer order .wrongState (.target j.target.index.val)))) ∧
      (target.toNat = 6 → s.tamper.injection = none → exec (.selfTest order target) s = .next { base with
        tamper := { s.tamper with integrityTest := some order }
        inFlight := base.inFlight ++ [.integrityTestRequest] }) ∧
      (∀ i : Source, target.toNat = i.index.val → s.tamper.injection = none → (s.tamper.record i).active = true →
        exec (.selfTest order target) s = .next (base.send (.ownerAnswer order .wrongState (.target target.toNat)))) ∧
      (∀ i : Source, target.toNat = i.index.val → s.tamper.injection = none → (s.tamper.record i).active = false →
        exec (.selfTest order target) s = .next { base with
          tamper := { s.tamper with injection := some (Injection.mk i
            (match i with
              | .case => 1050
              | .terminal => 1050
              | .magnet => 3000
              | .imbalance => s.setting .imbBlocks * 125 + 1000
              | .reverse => 6000
              | .bypass => 3000)
            0 (if i = .case ∨ i = .terminal ∨ i = .magnet then .pending else .normal) 0 order) }
          energy := forcedTo s.energy true i
          inFlight := base.inFlight ++ [.ownerPark ⟨.tamper, order⟩] })) ∧
    ((s.tamper.hold = true ∨ ∀ j, s.tamper.injection = some j → j.stage ≠ .pending ∨ j.target = .magnet) →
      exec .forcedTimerExpiry s = .next s) ∧
    (∀ j x, s.tamper.hold = false → s.tamper.injection = some j → j.stage = .pending → j.target ≠ .magnet →
      x = { j with stage := .qualified, forcedTimer := 50, timer := j.timer + (50 - j.forcedTimer) } →
      Answers .forcedTimerExpiry s (TestOccurred x { s with tamper := { s.tamper with injection := some x } })) ∧
    (s.tamper.hold = true ∨ s.tamper.injection = none → exec .injectionDeadline s = .next s) ∧
    (∀ j, s.tamper.hold = false → s.tamper.injection = some j → Answers .injectionDeadline s
      (InjectionWithdrawn (s.send (.ownerAnswer j.order .failed (.testFailed j.target.index.val j.deadline))))) ∧
    Answers .tamperLinkReset s (InjectionWithdrawn { s with inFlight := s.inFlight.erase .tamperLinkReset })


/-! ### Supply Supervisor -/

/-- R135 to R137 and R139: the HOLD entry with its reading of the cell, which is handed to six units and leaves untaken the results,
seconds and readings sent to the supervisor before it; the warm start in its order; and a HOLD reading with its timer.
What is dropped from flight is notes/assumptions/18.md. That a HOLD reading waits for the timer's 60 and does nothing before is the
model's choice of notes/assumptions/24.md, and that nothing starts or is read without the retained domain that of
notes/assumptions/6.md. That the duration of the POWER entry is 0 where T lies below the HOLD start time, which no run brings, is
notes/assumptions/36.md. -/
def Obligations.HoldAndWarmStart : Prop :=
  (∀ (s base : State) (cell : Nat) (low : Prop) [Decidable low],
    (base = { s with pins := { s.pins with supplyFail := true } } →
      (s.supply.power = .hold → exec (.holdEntry cell) s = .next base) ∧
      (s.supply.power = .run → exec (.holdEntry cell) s = .next { base with
        supply := { s.supply with
          power := .hold
          holdStart := s.calendar.t
          overVoltageCount := 0
          sagCount := 0
          holdTimer := 0
          doubt := s.supply.doubt || decide (cell < s.setting .bcRetain) }
        inFlight := (s.inFlight.filter fun c => match c with
            | .supervisorBlockResult _ => false
            | .supervisorSecond _ _ => false
            | .coilReadingRequest _ => false
            | _ => true) ++
          [.energyHoldEntry, .switchHoldEntry, .tamperHoldEntry, .exchangeHoldEntry, .engineHoldEntry, .reportHoldEntry] })) ∧
    (base = { s with pins := { s.pins with supplyFail := false } } → (low ↔ cell < s.setting .bcLow) →
      (s.supply.retention = false → exec (.warmStart cell) s = .next s) ∧
      (s.supply.retention = true → s.supply.power = .run → exec (.warmStart cell) s = .next base) ∧
      (s.supply.retention = true → s.supply.power = .hold → exec (.warmStart cell) s = .next { base with
        supply := { s.supply with power := .run, backupLow := decide low, backupCount := 0, doubt := false }
        exchange := if low ∧ s.supply.backupLow = false then
            { s.exchange with notices := s.exchange.notices ||| 0x40#8 } else s.exchange
        inFlight := s.inFlight ++
          [.entryArrival ⟨s.calendar.t, .power s.supply.doubt s.supply.holdStart (s.calendar.t - s.supply.holdStart)⟩] ++
          (if low ∧ s.supply.backupLow = false then
            [.entryArrival ⟨s.calendar.t, .backupLow cell (s.setting .bcLow)⟩] else []) ++
          (if s.supply.doubt = true then [.warmStartSweep] else []) ++
          [.reasonRequest s.supply.overVoltage .overVoltage, .energyWarmStart, .calendarWarmStart, .creditWarmStart,
            .codeWarmStart, .switchWarmStart, .tamperWarmStart, .settingsWarmStart, .exchangeWarmStart, .engineWarmStart,
            .reportWarmStart] }))) ∧
  (∀ (s : State) (cell : Nat),
    (s.supply.power = .hold → s.supply.retention = true → 60 ≤ s.supply.holdTimer → exec (.holdReading cell) s = .next { s with
      supply := { s.supply with holdTimer := 0, doubt := s.supply.doubt || decide (cell < s.setting .bcRetain) } }) ∧
    (¬(s.supply.power = .hold ∧ s.supply.retention = true ∧ 60 ≤ s.supply.holdTimer) →
      exec (.holdReading cell) s = .next s))

/-- R138, R141, R110, R134, R174 and R183: a cold start gives every unit the values of its chapter, takes the lines as they stand,
reads the backup cell, and opens the link; a frame on which CSN was low stays unserved.
The order of the reading and the opening, and the link reset that a standing LINKRSTN makes of the opening, are the model's choice of
notes/assumptions/30.md, and the frame that stays ignored that of notes/assumptions/13.md.
The last clause is the model's choice of notes/assumptions/6.md: a loss of retention in HOLD, after which the part waits for its cold
start (R138) with no unit at work. -/
def Obligations.ColdStartAndLossOfRetention : Prop :=
  (∀ (s : State) (cell : Nat),
    (s.supply.retention = true → exec (.coldStart cell) s = .next s) ∧
    (s.supply.retention = false → Answers (.coldStart cell) s fun t => ∃ low : Bool,
      (low = true ↔ cell < State.reset.setting .bcLow) ∧
      t.energy = State.reset.energy ∧ t.calendar = State.reset.calendar ∧ t.credit = State.reset.credit ∧
      t.code = State.reset.code ∧ t.settings = State.reset.settings ∧ t.engine = State.reset.engine ∧
      t.report = State.reset.report ∧
      t.pins = { s.pins with supplyFail := false } ∧ t.pending = s.pending ∧
      t.switch = (if s.pins.loadSense then
        { State.reset.switch with relay := .closed, consent := false, sensedClosed := true } else State.reset.switch) ∧
      t.tamper = { State.reset.tamper with
        caseLine := if s.pins.caseOpen then ⟨.pending, 0⟩ else ⟨.normal, 0⟩
        terminalLine := if s.pins.terminalOpen then ⟨.pending, 0⟩ else ⟨.normal, 0⟩
        magnetLine := if s.pins.magnetOn then ⟨.pending, 0⟩ else ⟨.normal, 0⟩ } ∧
      t.supply = { State.reset.supply with backupLow := low } ∧
      t.exchange = { State.reset.exchange with
        ignoring := s.exchange.frame.isSome || s.exchange.ignoring
        miso := s.exchange.miso
        notices := if low && !s.pins.linkrstn then 0x40#8 else 0
        resetPending := s.pins.linkrstn } ∧
      t.inFlight = (if low then [.entryArrival ⟨0, .backupLow cell (State.reset.setting .bcLow)⟩] else []) ++
        (if s.pins.linkrstn then [.engineLinkReset, .tamperLinkReset] else []))) ∧
  (∀ s : State,
    (¬(s.supply.power = .hold ∧ s.supply.retention = true) → exec .retentionLoss s = .next s) ∧
    (s.supply.power = .hold → s.supply.retention = true → Answers .retentionLoss s fun t =>
      t.supply = { State.reset.supply with power := .hold, retention := false } ∧ t.energy = State.reset.energy ∧
      t.calendar = State.reset.calendar ∧ t.credit = State.reset.credit ∧ t.code = State.reset.code ∧
      t.switch = { State.reset.switch with hold := true } ∧ t.tamper = { State.reset.tamper with hold := true } ∧
      t.settings = State.reset.settings ∧ t.exchange = { State.reset.exchange with
        link := .closed
        hold := true
        answersTold := false
        ignoring := s.exchange.frame.isSome || s.exchange.ignoring
        miso := s.exchange.miso } ∧
      t.engine = { State.reset.engine with mode := .stopped, hold := true } ∧
      t.report = { State.reset.report with hold := true } ∧ t.inFlight = [] ∧
      t.pins = s.pins ∧ t.pending = s.pending ∧
      exec .secondTick t = .next t ∧ (∀ n : Nat, exec (.holdReading n) t = .next t) ∧ t.nextGrant = none))

/-- R23, R27, R32, R65, R87, R110, R134, R149, R166, R184, R205, R209 and R212: the values of a cold start, with every line at rest.
Where no line of a table gives a value, it is the model's of notes/assumptions/5.md, and the count of takes is the model's own
(notes/assumptions/53.md). They meet the invariants that every step keeps,
and nothing waits or is in flight. -/
def Obligations.ResetValuesAndInvariants : Prop :=
  State.reset.energy =
      { rL := 0, rN := 0, billed := 0, forward := 0, reverse := 0, settling := true, imbalance := ⟨0, false, 0⟩,
        reverseFlow := ⟨0, false, 0⟩, bypass := ⟨0, false, 0⟩, power := 0, voltage := 0 } ∧
    State.reset.calendar =
      { t := 0, allowance := 900, allowanceDay := 0, adopted := false, band := 0, friendly := false,
        table := ⟨#v[0, 0, 0, 0], [⟨0, 0⟩], [⟨0, 0⟩], [], 0, 0, 0, 0, 0, 0⟩ } ∧
    State.reset.credit =
      { c := 0, q := 0, hLast := 0, b := 0, ea := true, em := false, state := .exhausted, friendlyView := false,
        serviceView := .commissioning, requested := false, deferral := false } ∧
    State.reset.code = { used := [], floor := 0, failures := 0, lockoutEnd := none, evaluation := none } ∧
    State.reset.switch =
      { relay := .ready, operation := none, reasons := ⟨false, false, false, false, false⟩, consent := true, sensedClosed := false,
        pLim := 0, limitRun := 0, trips := 0, mode := .none, backoff := 0, closedTime := 0, stuckWait := 0, lastDuty := 0,
        coilWait := false, hold := false } ∧
    (∀ i, State.reset.tamper.record i = ⟨false, false, 0, 0, 0, none⟩) ∧
    State.reset.tamper =
      { records := State.reset.tamper.records, caseLine := ⟨.normal, 0⟩, terminalLine := ⟨.normal, 0⟩, magnetLine := ⟨.normal, 0⟩,
        imbalance := ⟨false, 0, 0⟩, reverseFlow := ⟨false, 0, 0⟩, bypass := ⟨false, 0, 0⟩, requested := false, injection := none,
        integrityTest := none, hold := false } ∧
    State.reset.supply =
      { power := .run, retention := true, holdStart := 0, holdTimer := 0, doubt := false, overVoltage := false,
        overVoltageCount := 0, sag := false, sagCount := 0, backupLow := false, backupCount := 0 } ∧
    (∀ (k : Nat) (i : SettingId) (low high value : Nat), settingsTable[k]? = some (i, low, high, value) →
      State.reset.setting i = value) ∧
    State.reset.settings =
      { values := State.reset.settings.values, keySet := false, checkWord := crc16 (checkStream State.reset.settings),
        service := .commissioning, fault := false, forcedMismatch := false, sweepCount := 0, waiting := none } ∧
    (∀ a, Memory.read State.reset.exchange.mem a =
      if a = 0 then 0x02 else if a = 1 then 0x01 else if a = 2 then 48 else if a = 3 then 16 else 0) ∧
    State.reset.exchange =
      { mem := State.reset.exchange.mem, link := LinkState.open, frame := none, ignoring := false, notices := 0, enable := 0,
        mirrorHolder := .none, stageHolder := .none, linkRequest := none, hold := false, answersTold := true, resetPending := false,
        miso := [] } ∧
    (∀ n : Fin 8, State.reset.engine.slots[n] = .free) ∧
    State.reset.engine =
      { slots := State.reset.engine.slots, current := none, parked := [], work := [], granted := 0, staged := [], mode := .running,
        hold := false, resetWriting := false, takes := 0 } ∧
    State.reset.report =
      { queue := [], loss := none, writer := none, w := 0, p := 0, seq := 0, overflow := false, blockCount := 0, pubCount := 0,
        pendingPub := false, publishing := false, publication := none, hold := false } ∧
    State.reset.pins =
      { caseOpen := false, terminalOpen := false, magnetOn := false, loadSense := false, supplyFail := false, linkrstn := false } ∧
    Memory.wf State.reset.exchange.mem = true ∧ OperationMatchesRelay State.reset ∧ Ranges State.reset ∧
    HistoryOrdered State.reset.code ∧ FrameServed State.reset.exchange ∧ State.reset.pending = [] ∧ State.reset.inFlight = []

/-- R142 to R144 and R136: the two judgements of a block result, over-voltage first; the rows of the counts are the results at which they
are reached. R146, R147 and R136: a delivered second with its coil reading and, once an hour, its backup reading, for which the row
BACKUP_READING stands; and a request for a coil reading.
The order of the two judgements is the model's choice of notes/assumptions/29.md; that no reading is answered while the Switch Unit's HOLD
entry is on its way, that of notes/assumptions/18.md; that a result, a second or a request met in HOLD is taken without effect is
notes/assumptions/19.md. -/
def Obligations.VoltageJudgedAndSupplyRead : Prop :=
  (∀ (s base : State) (r : BlockResult) (c : Instr) (high sag : Prop) (n : Nat),
    base = { s with inFlight := s.inFlight.erase (.supervisorBlockResult r) } →
    (high ↔ if s.supply.overVoltage = true then r.voltage + s.setting .uHyst < s.setting .uHigh
      else s.setting .uHigh < r.voltage) →
    n = (if s.supply.overVoltage = true then 240 else 40) →
    (sag ↔ if s.supply.sag = true then s.setting .uLow ≤ r.voltage else r.voltage < s.setting .uLow) →
    (s.supply.power = .hold → exec (.supervisorBlockResult r) s = .next base) ∧
    (s.supply.power = .run →
      (c = .supervisorBlockResult r ∨
        (c = .overVoltageSet r ∧ s.supply.overVoltage = false ∧ high ∧ n ≤ s.supply.overVoltageCount + 1) ∨
        (c = .overVoltageClear r ∧ s.supply.overVoltage = true ∧ high ∧ n ≤ s.supply.overVoltageCount + 1) ∨
        (c = .sagCountReached r ∧ sag ∧ 8 ≤ s.supply.sagCount + 1)) →
      Answers c s fun t => ∃ u,
        (¬high → u = { base with supply := { s.supply with overVoltageCount := 0 } }) ∧
        (high → s.supply.overVoltageCount + 1 < n → u = { base with
          supply := { s.supply with overVoltageCount := s.supply.overVoltageCount + 1 } }) ∧
        (high → n ≤ s.supply.overVoltageCount + 1 → u = { base with
          supply := { s.supply with overVoltage := !s.supply.overVoltage, overVoltageCount := 0 }
          inFlight := base.inFlight ++ [.reasonRequest (!s.supply.overVoltage) .overVoltage,
            .entryArrival ⟨s.calendar.t, .overVoltage (!s.supply.overVoltage) r.voltage (s.setting .uHigh)⟩] }) ∧
        (¬sag → t = { u with supply := { u.supply with sagCount := 0 } }) ∧
        (sag → s.supply.sagCount + 1 < 8 → t = { u with
          supply := { u.supply with sagCount := s.supply.sagCount + 1 } }) ∧
        (sag → 8 ≤ s.supply.sagCount + 1 → t = { u with
          supply := { u.supply with sag := !s.supply.sag, sagCount := 0 }
          inFlight := u.inFlight ++ if s.supply.sag = true then [] else
            [.entryArrival ⟨s.calendar.t, .sag r.voltage (s.setting .uLow)⟩] }))) ∧
  (∀ (s base : State) (coil cell : Nat) (c : Instr), base = { s with inFlight := s.inFlight.erase (.supervisorSecond 0 0) } →
    (s.supply.power = .hold → exec (.supervisorSecond coil cell) s = .next base) ∧
    (s.supply.power = .run → s.supply.backupCount + 1 < 3600 → exec (.supervisorSecond coil cell) s = .next { base with
      supply := { s.supply with backupCount := s.supply.backupCount + 1 }
      inFlight := base.inFlight ++ [.coilReading coil] }) ∧
    (s.supply.power = .run → 3600 ≤ s.supply.backupCount + 1 →
      (c = .supervisorSecond coil cell ∨ c = .backupReading coil cell) →
      (s.setting .bcLow ≤ cell → exec c s = .next { base with
        supply := { s.supply with backupCount := 0, backupLow := false }
        inFlight := base.inFlight ++ [.coilReading coil] }) ∧
      (cell < s.setting .bcLow → s.supply.backupLow = true → exec c s = .next { base with
        supply := { s.supply with backupCount := 0 }
        inFlight := base.inFlight ++ [.coilReading coil] }) ∧
      (cell < s.setting .bcLow → s.supply.backupLow = false → exec c s = .next { base with
        supply := { s.supply with backupCount := 0, backupLow := true }
        exchange := { s.exchange with notices := s.exchange.notices ||| 0x40#8 }
        inFlight := base.inFlight ++ [.coilReading coil,
          .entryArrival ⟨s.calendar.t, .backupLow cell (s.setting .bcLow)⟩] })) ∧
    (s.supply.power = .run → .switchHoldEntry ∉ s.inFlight → exec (.coilReadingRequest coil) s = .next { s with
      inFlight := s.inFlight.erase (.coilReadingRequest 0) ++ [.coilReading coil] }) ∧
    (s.supply.power = .hold ∨ .switchHoldEntry ∈ s.inFlight → exec (.coilReadingRequest coil) s = .next { s with
      inFlight := s.inFlight.erase (.coilReadingRequest 0) }))


/-! ### Settings Unit -/

/-- R152 to R154, R159 and R160: WRITE SETTING, up to its answer, or up to the news of the setting written, for which it waits. R151 and
R159: the ids and the ranges of the settings, and the stream of the check word; its register is that of R70, which CodeEvaluated gives.
The wait for the news is `settings.waiting` (notes/assumptions/15.md); that an order in flight at the HOLD entry is taken in HOLD is
notes/assumptions/31.md. -/
def Obligations.SettingWritten : Prop :=
  (∀ (k : Nat) (x : SettingId) (low high value : Nat), settingsTable[k]? = some (x, low, high, value) →
    x.index.val = k ∧ x.row.low = low ∧ x.row.high = high) ∧
  (∀ y : Settings, LaidOut 0 57 (streamFields y) (checkStream y)) ∧
  ∀ (s base : State) (order : OrderId) (id : Byte) (value : BitVec 64), s.settings.waiting = none →
    base = { s with inFlight := s.inFlight.erase (.writeSetting order id value) } →
    (s.settings.service = .inService →
      exec (.writeSetting order id value) s = .next (base.send (.ownerAnswer order .refusedLocked .none))) ∧
    (s.settings.service = .commissioning → id.toNat = 0 ∨ 27 < id.toNat →
      exec (.writeSetting order id value) s = .next (base.send (.ownerAnswer order .badArgument .none))) ∧
    (∀ (x : SettingId) (applied : Nat) (y : Settings) (news : Option (Neighbour × Instr)),
      s.settings.service = .commissioning → id.toNat = x.index.val + 1 →
      applied = max x.row.low (min x.row.high value.toNat) →
      y.values = s.settings.values.set x.index applied → y.keySet = (s.settings.keySet || decide (x = .meterKey)) →
      y.checkWord = crc16 (checkStream y) →
      y = { s.settings with values := y.values, keySet := y.keySet, checkWord := y.checkWord } →
      news = (match x with
        | .kL => some (.energy, .calibrationWriteNews .line)
        | .kN => some (.energy, .calibrationWriteNews .neutral)
        | .meterKey => some (.code, .keyWriteNews)
        | .maskCase => some (.tamper, .actionMaskNews)
        | .maskTerminal => some (.tamper, .actionMaskNews)
        | .maskMagnet => some (.tamper, .actionMaskNews)
        | .maskImbalance => some (.tamper, .actionMaskNews)
        | .maskReverse => some (.tamper, .actionMaskNews)
        | .maskBypass => some (.tamper, .actionMaskNews)
        | _ => none) →
      (news = none → Answers (.writeSetting order id value) s fun t => ∃ u, Swept True { base with settings := y } u ∧
        t = u.send (.ownerAnswer order .ok (.setting x (decide (applied ≠ value.toNat)) u.settings.fault applied))) ∧
      (∀ n c, news = some (n, c) → exec (.writeSetting order id value) s = .next { base with
        settings := { y with waiting := some (.write order x (decide (applied ≠ value.toNat)) applied n) }
        inFlight := base.inFlight ++ [c] }))

/-- R154 and R155: each news acts in its unit as it acts when nothing waits for it; then a write that awaits it runs its sweep and
answers, and a change of the service state ends once both its news are taken. R121, R124 and R155 to R158: the Tamper Unit's two news
when nothing waits for them; ENTER SERVICE, which stops at the first item that fails, and is not taken in HOLD (R60); and a release
request, whose entry carries the origin CODE.
The news of a key write is not taken while an evaluation waits (R67; CodeLockedOutMalformedOrHistoryKept says so).
The wait is `settings.waiting` (notes/assumptions/15.md). That the last news of a release ends the code's evaluation in its own step is
the model's choice of notes/assumptions/16.md, and that an ENTER SERVICE is not taken while the engine's HOLD entry is on its way that
of notes/assumptions/31.md; that news in flight at the HOLD entry is taken in HOLD, and ends the wait there, is that of
notes/assumptions/46.md. -/
def Obligations.NewsEndsTheWaitAndServiceChanges : Prop :=
  (∀ (s free : State), free = { s with settings := { s.settings with waiting := none } } →
    (∀ (n : Neighbour) (c : Instr), (n, c) ∈ [(Neighbour.energy, Instr.calibrationWriteNews .line),
        (.energy, .calibrationWriteNews .neutral), (.code, .keyWriteNews), (.tamper, .actionMaskNews)] →
      (c = .keyWriteNews → s.code.evaluation = none) → ∃ u, exec c free = .next u ∧
        (∀ order x clamped applied, s.settings.waiting = some (.write order x clamped applied n) → Answers c s fun t => ∃ v,
          Swept True u v ∧ t = v.send (.ownerAnswer order .ok (.setting x clamped v.settings.fault applied))) ∧
        ((∀ order x clamped applied, s.settings.waiting ≠ some (.write order x clamped applied n)) →
          exec c s = .next { u with settings := s.settings })) ∧
    (∀ (c : Instr) (credit : Bool), ((∃ v, c = .serviceStateNewsCredit v) ∧ credit = true) ∨
        (c = .serviceStateNewsTamper ∧ credit = false) →
      ∃ u, exec c free = .next u ∧
        (∀ x y order, s.settings.waiting = some (.service x y order) →
          ((if credit then y else x) = true → exec c s = .next { u with settings := { s.settings with
            waiting := some (.service (x && !credit) (y && credit) order) } }) ∧
          (∀ n, (if credit then y else x) = false → order = some n →
            exec c s = .next (u.send (.ownerAnswer n .ok (.item 0)))) ∧
          ((if credit then y else x) = false → order = none → exec c s = .next (codeAcceptedBy u u.credit.c))) ∧
        ((∀ x y order, s.settings.waiting ≠ some (.service x y order)) → exec c s = .next { u with settings := s.settings }))) ∧
  (∀ s : State, s.settings.waiting = none →
    Answers .actionMaskNews s (TamperReasoned { s with inFlight := s.inFlight.erase .actionMaskNews }) ∧
    Answers .serviceStateNewsTamper s (TamperReasoned { s with inFlight := s.inFlight.erase .serviceStateNewsTamper }) ∧
    (∀ (order : OrderId) (base : State) (item : Nat), base = { s with inFlight := s.inFlight.erase (.enterService order) } →
      item = (if s.settings.service = .inService then 1 else if s.settings.keySet = false then 2
        else if s.setting .meterNumber = 0 then 3 else if s.setting .kL = 0 then 4 else if s.setting .kN = 0 then 5
        else if s.setting .kV = 0 then 6 else if s.calendar.adopted = false then 7
        else if s.settings.fault = true then 8 else 0) →
      (s.supply.power = .hold ∨ .engineHoldEntry ∈ s.inFlight → exec (.enterService order) s = .next base) ∧
      (s.supply.power = .run → .engineHoldEntry ∉ s.inFlight → item ≠ 0 →
        exec (.enterService order) s = .next (base.send (.ownerAnswer order .wrongState (.item item)))) ∧
      (s.supply.power = .run → .engineHoldEntry ∉ s.inFlight → item = 0 → exec (.enterService order) s = .next { base with
        settings := { s.settings with service := .inService, waiting := some (.service true true (some order)) }
        inFlight := base.inFlight ++ [.entryArrival ⟨s.calendar.t, .service false .commissioning .inService⟩,
          .serviceStateNewsCredit .inService, .serviceStateNewsTamper] })) ∧
    exec .releaseRequest s = .next { s with
      settings := { s.settings with service := .commissioning, waiting := some (.service true true none) }
      inFlight := s.inFlight.erase .releaseRequest ++
        [.entryArrival ⟨s.calendar.t, .service true s.settings.service .commissioning⟩,
          .serviceStateNewsCredit .commissioning, .serviceStateNewsTamper] })

/-- R161, R162, R164, R132 and R166: the sweeps of a second, of a warm start with doubt and of a test, and the warm start of the
unit, when none of its arrivals waits; while one waits the unit takes none of its own.
That it leaves them is the model's choice of notes/assumptions/15.md; that PERIODIC_SWEEP changes nothing at any other second, that of
notes/assumptions/17.md; that a second in flight at the HOLD entry is counted in HOLD, with its sweep, that of notes/assumptions/45.md;
that the answer of a test goes to the order of the last test taken, that of notes/assumptions/54.md. -/
def Obligations.SweepsRun : Prop :=
  ∀ s : State,
    (s.settings.waiting ≠ none → ∀ c : Instr, ((∃ order id v, c = .writeSetting order id v) ∨ (∃ order, c = .enterService order) ∨
      c ∈ [.releaseRequest, .settingsSecond, .periodicSweep, .warmStartSweep, .integrityTestRequest, .settingsWarmStart]) →
      exec c s = .next s) ∧
    (s.settings.waiting = none →
      (s.settings.sweepCount + 1 < 60 → exec .settingsSecond s = .next { s with
        settings := { s.settings with sweepCount := s.settings.sweepCount + 1 }
        inFlight := s.inFlight.erase .settingsSecond } ∧ exec .periodicSweep s = .next s) ∧
      (60 ≤ s.settings.sweepCount + 1 → ∀ c, c = .settingsSecond ∨ c = .periodicSweep → Answers c s (Swept False { s with
        settings := { s.settings with sweepCount := 0 }
        inFlight := s.inFlight.erase .settingsSecond })) ∧
      Answers .warmStartSweep s (Swept False { s with inFlight := s.inFlight.erase .warmStartSweep }) ∧
      exec .settingsWarmStart s = .next { s with
        settings := { s.settings with sweepCount := 0 }
        inFlight := s.inFlight.erase .settingsWarmStart } ∧
      (Answers .integrityTestRequest s fun t => ∃ u v, Swept False { s with
          settings := { s.settings with forcedMismatch := true }
          inFlight := s.inFlight.erase .integrityTestRequest } u ∧
        v = { u with
          settings := { u.settings with forcedMismatch := false }
          inFlight := u.inFlight ++ [.entryArrival ⟨s.calendar.t,
            .integrity .test s.settings.checkWord (crc16 (checkStream s.settings))⟩] } ∧
        (s.tamper.integrityTest = none → t = v) ∧
        (∀ order, s.tamper.integrityTest = some order → t = { v with
          tamper := { s.tamper with integrityTest := none }
          inFlight := v.inFlight ++ [.ownerAnswer order .ok
            (.integrityTest (decide (crc16 (checkStream s.settings) = s.settings.checkWord)))] })))


/-! ### Exchange Unit -/

/-- R168, R169, R174, R183: how a frame begins: where the link is served, with the notice byte, then 0x00; where it is not, with 0xFF.
A frame that is being ignored is ignored to its end.
The bytes of a frame are taken one after another: a segment is its bytes in two parts, the second of which goes on with the
frame, and its last part lets CSN rise.
`readRow w` and `writeRow w` are the READ and the WRITE row of a walk (READ_ASCEND, READ_DESCEND, READ_HOLD, READ_LINE_ASCEND,
WRITE_ASCEND, WRITE_DESCEND, WRITE_HOLD, WRITE_LINE_ASCEND). That a frame is commands of one segment each is notes/assumptions/7.md; the
0xFF of the rest of a frame that is no longer served is notes/assumptions/13.md; that frames are served by the unit's own link state is the
model's choice of notes/assumptions/41.md. -/
def Obligations.FramesBeginAndGoOn : Prop :=
  (∀ (s : State) (w : Walk) (x : Exchange), x = s.exchange →
    (x.frame = none → x.ignoring = false → s.served = true →
      (∀ a, exec (readRow w ⟨.at a, 0, false⟩) s = .next { s with exchange := { x with
        frame := some ⟨false, w, a.setWidth 12, .none⟩, miso := [x.notices, 0, 0, 0] } }) ∧
      (∀ a, exec (writeRow w ⟨.at a, [], false⟩) s = .next { s with exchange := { x with
        frame := some ⟨true, w, a.setWidth 12, .none⟩, miso := [x.notices, 0, 0] } }) ∧
      (∀ k : Fin 3, exec (readRow w ⟨.short k, 0, true⟩) s = .next { s with exchange := { x with
        miso := x.notices :: List.replicate k.val 0 } }) ∧
      (∀ k : Fin 3, exec (writeRow w ⟨.short k, [], true⟩) s = .next { s with exchange := { x with
        miso := x.notices :: List.replicate k.val 0 } }) ∧
      (∀ (c : Byte) (n : Nat), c.toNat / 4 ≠ 0x2C → c.toNat / 4 ≠ 0x1C → exec (.invalidCommand c n) s = .next { s with
        exchange := { x with miso := x.notices :: List.replicate n 0, notices := x.notices ||| 0x80#8 } })) ∧
    (x.frame = none → x.ignoring = false → s.served = false →
      (∀ a n last, exec (readRow w ⟨.at a, n, last⟩) s = .next { s with exchange := { x with
        miso := List.replicate (4 + n) 0xFF, ignoring := !last } }) ∧
      (∀ a vs last, exec (writeRow w ⟨.at a, vs, last⟩) s = .next { s with exchange := { x with
        miso := List.replicate (3 + vs.length) 0xFF, ignoring := !last } }) ∧
      (∀ k : Fin 3, exec (readRow w ⟨.short k, 0, true⟩) s = .next { s with exchange := { x with
        miso := List.replicate (1 + k.val) 0xFF, ignoring := false } }) ∧
      (∀ k : Fin 3, exec (writeRow w ⟨.short k, [], true⟩) s = .next { s with exchange := { x with
        miso := List.replicate (1 + k.val) 0xFF, ignoring := false } }) ∧
      (∀ (c : Byte) (n : Nat), c.toNat / 4 ≠ 0x2C → c.toNat / 4 ≠ 0x1C → exec (.invalidCommand c n) s = .next { s with
        exchange := { x with miso := List.replicate (1 + n) 0xFF, ignoring := false } }) ∧
      (∀ n last, exec (.frameWhileClosed n last) s = .next { s with exchange := { x with
        miso := List.replicate n 0xFF, ignoring := !last } })) ∧
    (x.ignoring = true →
      (∀ n last, exec (readRow w ⟨.goOn, n, last⟩) s = .next { s with exchange := { x with
        miso := x.miso ++ List.replicate n 0xFF, ignoring := !last } }) ∧
      (∀ vs last, exec (writeRow w ⟨.goOn, vs, last⟩) s = .next { s with exchange := { x with
        miso := x.miso ++ List.replicate vs.length 0xFF, ignoring := !last } }) ∧
      (∀ n last, exec (.frameWhileClosed n last) s = .next { s with exchange := { x with
        miso := x.miso ++ List.replicate n 0xFF, ignoring := !last } }))) ∧
  (∀ (s t : State) (w : Walk) (start : FrameStart) (last : Bool), (∀ k, start ≠ .short k) →
    (start = .goOn ∨ (s.exchange.frame = none ∧ s.exchange.ignoring = false)) →
    (∀ n m, exec (readRow w ⟨start, n, false⟩) s = .next t →
      exec (readRow w ⟨start, n + m, last⟩) s = exec (readRow w ⟨.goOn, m, last⟩) t) ∧
    (∀ us vs, exec (writeRow w ⟨start, us, false⟩) s = .next t →
      exec (writeRow w ⟨start, us ++ vs, last⟩) s = exec (writeRow w ⟨.goOn, vs, last⟩) t))

/-- R170, R171, R175 to R177 and R180: one data byte of a READ, and its end. A memory byte comes from the frame's current word, fetched
when the frame enters it; an unassigned byte, as R167 maps them, reads 0; a register reads as it stands, and a semaphore is taken.
`readRow w` is READ_ASCEND, READ_DESCEND, READ_HOLD or READ_LINE_ASCEND, by the walk. -/
def Obligations.ReadByteReturned : Prop :=
  (∀ a, a < 0xFC0 → (ownerOf a = .unassigned ↔ UnassignedByte a)) ∧
  ∀ (s : State) (f : Frame) (x : Exchange) (a : Nat) (after : BitVec 12), x = s.exchange → FrameServed x → x.frame = some f →
    f.write = false → x.ignoring = false → a = f.address.toNat → after.toNat = addressAfter f.walk a →
    (0xFC0 ≤ a → Answers (readRow f.walk ⟨.goOn, 1, false⟩) s fun t => ∃ b, RegisterReads s a b ∧
      t = { s with exchange := { x with
        frame := some { f with address := after, word := .none }
        miso := x.miso ++ [b]
        mirrorHolder := if a = 0xFC8 ∧ x.mirrorHolder = .none then .link else x.mirrorHolder
        stageHolder := if a = 0xFC9 ∧ x.stageHolder = .none then .link else x.stageHolder } }) ∧
    (a < 0xFC0 → ownerOf a = .unassigned → exec (readRow f.walk ⟨.goOn, 1, false⟩) s = .next { s with exchange := { x with
      frame := some { f with address := after, word := .none }, miso := x.miso ++ [0] } }) ∧
    (∀ bytes, a < 0xFC0 → ownerOf a ≠ .unassigned → f.word = .fetched (a / 4) bytes →
      exec (readRow f.walk ⟨.goOn, 1, false⟩) s = .next { s with exchange := { x with
        frame := some { f with address := after }, miso := x.miso ++ [bytes.getD (a % 4) 0] } }) ∧
    (a < 0xFC0 → ownerOf a ≠ .unassigned → (∀ bytes, f.word ≠ .fetched (a / 4) bytes) →
      exec (readRow f.walk ⟨.goOn, 1, false⟩) s = .next { s with exchange := { x with
        frame := some { f with
          address := after
          word := .fetched (a / 4) [Memory.read x.mem (a / 4 * 4), Memory.read x.mem (a / 4 * 4 + 1),
            Memory.read x.mem (a / 4 * 4 + 2), Memory.read x.mem (a / 4 * 4 + 3)] }
        miso := x.miso ++ [Memory.read x.mem a] } }) ∧
    ((∀ v cells, f.word ≠ .gathered v cells) →
      exec (readRow f.walk ⟨.goOn, 0, true⟩) s = .next { s with exchange := { x with frame := none } })

/-- R169, R170, R172, R176 to R179 and R181: one data byte of a WRITE, and its end. A memory byte is gathered into its word, which is
applied when the walk leaves it or CSN rises; a register byte acts at once, as the row of its register does. R167 with the Header and
Slot layouts: the owner of every byte.
`writeRow w` is WRITE_ASCEND, WRITE_DESCEND, WRITE_HOLD or WRITE_LINE_ASCEND, by the walk. -/
def Obligations.WriteByteTaken : Prop :=
  (∀ a, a < 0xFC0 → (ownerOf a = .host ↔ HostByte a) ∧ (ownerOf a = .unassigned ↔ UnassignedByte a) ∧
    (ownerOf a = .part ↔ ¬HostByte a ∧ ¬UnassignedByte a)) ∧
  ∀ (s : State) (f : Frame) (x : Exchange) (a : Nat) (after : BitVec 12) (v : Byte), x = s.exchange → FrameServed x →
    Memory.wf x.mem = true → x.frame = some f → f.write = true → x.ignoring = false →
    a = f.address.toNat → after.toNat = addressAfter f.walk a →
    (a < 0xFC0 → Answers (writeRow f.walk ⟨.goOn, [v], false⟩) s fun t => ∃ cells,
      (∀ b, cellAt cells b = if b = a then some v else match f.word with
        | .gathered w old => if w = a / 4 then cellAt old b else none
        | _ => none) ∧
      (after.toNat / 4 = a / 4 → t = { s with exchange := { x with
        frame := some { f with address := after, word := .gathered (a / 4) cells }, miso := x.miso ++ [0] } }) ∧
      (after.toNat / 4 ≠ a / 4 → ∃ y, t = { s with exchange := y } ∧ WordApplied cells { x with
        frame := some { f with address := after, word := .none }, miso := x.miso ++ [0] } y)) ∧
    (∀ u, u = { s with exchange := { x with frame := some { f with address := after }, miso := x.miso ++ [0] } } →
      (∀ (action : Fin 8 → Instr), (a = 0xFC0 ∧ action = .post) ∨ (a = 0xFC1 ∧ action = .withdraw) ∨
          (a = 0xFC2 ∧ action = .release) →
        exec (writeRow f.walk ⟨.goOn, [v], false⟩) s = .next { u with
          inFlight := s.inFlight ++ ((List.finRange 8).filter fun n => v.getLsbD n.val).map action }) ∧
      (∀ row, s.pins.linkrstn = false → (a = 0xFC3 ∧ row = .noticeClear v) ∨ (a = 0xFC4 ∧ row = .noticeEnable v) ∨
          (a = 0xFC8 ∧ row = .semaphoreGive .mirror v) ∨ (a = 0xFC9 ∧ row = .semaphoreGive .stage v) ∨
          ((0xFC5 ≤ a ∧ a ≤ 0xFC7 ∨ 0xFCA ≤ a) ∧ row = .registerWriteOther f.address v) →
        exec (writeRow f.walk ⟨.goOn, [v], false⟩) s = exec row u)) ∧
    (∀ w cells, f.word = .gathered w cells → Answers (writeRow f.walk ⟨.goOn, [], true⟩) s fun t =>
      ∃ y, t = { s with exchange := y } ∧ WordApplied cells { x with frame := none } y) ∧
    ((∀ w cells, f.word ≠ .gathered w cells) →
      exec (writeRow f.walk ⟨.goOn, [], true⟩) s = .next { s with exchange := { x with frame := none } })

/-- R178: a write of NOTICE clears each notice whose bit is 1 in the byte written and leaves the others as they stand; and R179: a
write of NOTICE ENABLE replaces the mask, and IRQN is low while a set notice is enabled and the link is OPEN.
R174 and R183: when the link is served, and where it is not, a write is discarded; that both rows then change nothing is the model's reading of
notes/assumptions/33.md. -/
def Obligations.NoticesClearedAndEnabled : Prop :=
  ∀ (s : State) (v : Byte),
    (s.served = true ↔ s.exchange.link = .open ∧ s.exchange.hold = false ∧ s.pins.linkrstn = false ∧
      s.exchange.resetPending = false) ∧
    (s.served = true → Answers (.noticeClear v) s fun t =>
      (∀ i : Fin 8, t.exchange.notices.getLsbD i.val = (s.exchange.notices.getLsbD i.val && !v.getLsbD i.val)) ∧
      t = { s with exchange := { s.exchange with notices := t.exchange.notices } }) ∧
    (s.served = true → exec (.noticeEnable v) s = .next { s with exchange := { s.exchange with enable := v } }) ∧
    (s.irqnLow = true ↔ s.exchange.link = .open ∧ s.exchange.hold = false ∧
      ∃ i : Fin 8, s.exchange.notices.getLsbD i.val = true ∧ s.exchange.enable.getLsbD i.val = true) ∧
    (s.served = false → exec (.noticeClear v) s = .next s ∧ exec (.noticeEnable v) s = .next s)

/-- R176, R180 and R181: the take and the give of a semaphore, and a write of an unassigned register address. Where the link is not
served, nothing changes, and a take shows its byte to the host, by the model's choice of notes/assumptions/33.md. -/
def Obligations.SemaphoresAndOtherRegisters : Prop :=
  ∀ (s : State) (m : Semaphore) (v : Byte) (refused : State),
    refused = { s with exchange := { s.exchange with notices := s.exchange.notices ||| 0x80#8 } } →
    (s.served = true →
      (s.exchange.holder m = .none → exec (.semaphoreTake m) s = .next { s with
        exchange := { s.exchange.setHolder m .link with miso := [0] } }) ∧
      (s.exchange.holder m ≠ .none → exec (.semaphoreTake m) s = .next { s with
        exchange := { s.exchange with miso := [1] } }) ∧
      (v ≠ 0 → exec (.semaphoreGive m v) s = .next refused) ∧
      (v = 0 → s.exchange.holder m = .none → exec (.semaphoreGive m v) s = .next s) ∧
      (v = 0 → s.exchange.holder m = .internal → exec (.semaphoreGive m v) s = .next refused) ∧
      (v = 0 → s.exchange.holder m = .link → exec (.semaphoreGive m v) s = .next { s with
        exchange := s.exchange.setHolder m .none
        inFlight := s.inFlight ++ if m = .mirror then [.mirrorFreedNews] else [] })) ∧
    (s.served = false → exec (.semaphoreTake m) s = .next s ∧ exec (.semaphoreGive m v) s = .next s) ∧
    (∀ a : BitVec 12, exec (.registerWriteOther a v) s = .next s)

/-- R173, R174 and R211: the arbiter grants the waiting access of the highest priority, none in HOLD, and the publisher's only while it
holds MIRROR; and the grant of an access of the
link (R171, R172). What a grant does for the other three, the statements of their units say.
That the arbiter grants while the link is CLOSED in RUN is notes/assumptions/25.md. -/
def Obligations.ArbiterGrantsByPriority : Prop :=
  ∀ s : State,
    (s.nextGrant = some .link ↔ s.exchange.hold = false ∧ s.exchange.linkRequest ≠ none) ∧
    (s.nextGrant = some .journal ↔ s.exchange.hold = false ∧ s.exchange.linkRequest = none ∧ s.report.journalWaits = true) ∧
    (s.nextGrant = some .engine ↔ s.exchange.hold = false ∧ s.exchange.linkRequest = none ∧ s.report.journalWaits = false ∧
      s.engine.hold = false ∧ s.engine.work ≠ []) ∧
    (s.nextGrant = some .publisher ↔ s.exchange.hold = false ∧ s.exchange.linkRequest = none ∧
      s.report.journalWaits = false ∧ (s.engine.hold = true ∨ s.engine.work = []) ∧ s.report.hold = false ∧
      s.report.publication ≠ none ∧ s.exchange.mirrorHolder = .internal) ∧
    (s.report.journalWaits = true ↔ s.report.hold = false ∧ ∃ wr, s.report.writer = some wr ∧ wr.entries ≠ [] ∧
      ∀ b, wr.stage ≠ .stopped b) ∧
    (s.nextGrant = none → exec .accessGrant s = .next s) ∧
    (∀ w, s.exchange.hold = false → s.exchange.linkRequest = some (.fetch w) → exec .accessGrant s = .next { s with
      exchange := { s.exchange with
        linkRequest := none
        frame := s.exchange.frame.map fun f => { f with word := .fetched w (Memory.readWord s.exchange.mem w) } } }) ∧
    (∀ cells, Memory.wf s.exchange.mem = true → s.exchange.hold = false →
      s.exchange.linkRequest = some (.store cells) → cells.Pairwise (fun c d => c.1 < d.1) →
      Answers .accessGrant s fun t =>
        (∀ a, Memory.read t.exchange.mem a = (cellAt cells a).getD (Memory.read s.exchange.mem a)) ∧
        t = { s with exchange := { s.exchange with linkRequest := none, mem := t.exchange.mem } })

/-- R174, R182 and R183: the HOLD entry and the warm start of the Exchange Unit, the news of the written answers, the assertion of
LINKRSTN and its release.
When the link opens at a warm start is `linkOpensWhenDue` (notes/assumptions/20.md). That LINKRSTN goes by the unit's own link state, also
between SUPPLY_FAIL and the unit's HOLD entry, is the model's choice of notes/assumptions/41.md; that the rest of a dropped frame is ignored
is notes/assumptions/13.md. -/
def Obligations.LinkOpensClosesAndResets : Prop :=
  ∀ s : State,
    exec .exchangeHoldEntry s = .next { s with
      exchange := { s.exchange with
        frame := none
        ignoring := s.exchange.frame.isSome || s.exchange.ignoring
        linkRequest := none
        link := .closed
        hold := true }
      inFlight := s.inFlight.erase .exchangeHoldEntry } ∧
    exec .exchangeWarmStart s = .next (linkOpensWhenDue { s with
      exchange := { s.exchange with hold := false, mirrorHolder := .none, stageHolder := .none }
      inFlight := s.inFlight.erase .exchangeWarmStart ++ [.mirrorFreedNews] }) ∧
    exec .answersWrittenNews s = .next (linkOpensWhenDue { s with
      exchange := { s.exchange with answersTold := true }
      inFlight := s.inFlight.erase .answersWrittenNews }) ∧
    (∀ base, base = { s with pins := { s.pins with linkrstn := true } } →
      (s.pins.linkrstn = false → s.exchange.link = .open → exec .linkReset s = .next (linkResets base)) ∧
      (s.pins.linkrstn = true ∨ s.exchange.link = .closed → exec .linkReset s = .next base)) ∧
    exec .linkrstnRelease s = .next { s with pins := { s.pins with linkrstn := false } }


/-! ### Order Engine -/

/-- R190 to R192, R201 and R203: a post, a withdraw and a release, by the slot's state; none is taken while the engine is STOPPED or
the state bytes of a link reset wait to be written.
That state-byte clause is notes/assumptions/35.md, the number that a take gives its order notes/assumptions/53.md, and
that a take's state item comes before its copy item notes/assumptions/26.md. -/
def Obligations.SlotActionsTaken : Prop :=
  ∀ (s : State) (n : Fin 8) (serving : Prop), (serving ↔ s.engine.mode = .running ∧ s.engine.resetWriting = false) →
    (∀ base, base = { s with inFlight := s.inFlight.erase (.post n) } →
      (¬serving → exec (.post n) s = .next base) ∧
      (serving → s.engine.slots[n] = .free → Answers (.post n) s fun t =>
        t = { base with engine := t.engine } ∧ TakeMade (slotChanged s.engine n .posted) t.engine) ∧
      (serving → s.engine.slots[n] ≠ .free → exec (.post n) s = .next { base with
        exchange := { s.exchange with notices := s.exchange.notices ||| 0x80#8 } })) ∧
    (∀ base, base = { s with inFlight := s.inFlight.erase (.withdraw n) } →
      (serving → s.engine.slots[n] = .posted → exec (.withdraw n) s = .next { base with
        engine := slotChanged s.engine n .free }) ∧
      (¬serving ∨ s.engine.slots[n] ≠ .posted → exec (.withdraw n) s = .next base)) ∧
    (∀ base, base = { s with inFlight := s.inFlight.erase (.release n) } →
      (¬serving → exec (.release n) s = .next base) ∧
      (serving → s.engine.slots[n] = .done → exec (.release n) s = .next { base with
        engine := slotChanged s.engine n .free }) ∧
      (serving → s.engine.slots[n] ≠ .done → exec (.release n) s = .next { base with
        exchange := { s.exchange with notices := s.exchange.notices ||| 0x80#8 } }))

/-- R194, R195 and R38: the copy of a slot and the dispatch at its end, and the copy of the staging area and the hand-over at its end;
the rows of the ends are the grants of the last words, and change nothing at any other grant (the model's choice of
notes/assumptions/17.md). That a STAGE still held internally is taken again, and that a hold which the link has taken since stands at the
engine's give, are notes/assumptions/44.md. The order goes to its owner with the number of its take (notes/assumptions/47.md). -/
def Obligations.OrdersCopiedAndDispatched : Prop :=
  ∀ (s : State) (o : CurrentOrder), s.nextGrant = some .engine → s.engine.current = some o →
    (∀ n rest w bytes popped, s.engine.work = .copy n :: rest → w = 16 * (n.val + 1) + s.engine.granted →
      bytes = o.bytes ++ [Memory.read s.exchange.mem (4 * w), Memory.read s.exchange.mem (4 * w + 1),
        Memory.read s.exchange.mem (4 * w + 2), Memory.read s.exchange.mem (4 * w + 3)] →
      popped = { s.engine with work := rest, granted := 0 } →
      (∀ b, bytes[0]? = some b → orderKind bytes = b.toNat) ∧
      (s.engine.granted < 9 → exec .slotCopyDone s = .next s ∧ exec .accessGrant s = .next { s with
        engine := { s.engine with current := some { o with bytes := bytes }, granted := s.engine.granted + 1 } }) ∧
      (9 ≤ s.engine.granted → ∀ c, c = .accessGrant ∨ c = .slotCopyDone →
        (orderKind bytes = 7 → s.exchange.stageHolder = .link → exec c s = .next { s with engine := { popped with
          current := some { o with bytes := bytes, phase := .answering }
          work := rest ++ [.answer o.id.slot .stageHeld .none] } }) ∧
        (orderKind bytes = 7 → s.exchange.stageHolder ≠ .link → exec c s = .next { s with
          exchange := { s.exchange with stageHolder := .internal }
          engine := { popped with
            current := some { o with bytes := bytes }, staged := [], work := rest ++ [.staging] } }) ∧
        (orderKind bytes = 0 ∨ 11 < orderKind bytes → exec c s = .next { s with engine := { popped with
          current := some { o with bytes := bytes, phase := .answering }
          work := rest ++ [.answer o.id.slot .unknownKind .none] } }) ∧
        (1 ≤ orderKind bytes → orderKind bytes ≤ 11 → orderKind bytes ≠ 7 → ∃ d, orderCommand o.id bytes = some d ∧
          exec c s = .next { s with
            engine := { popped with current := some { o with bytes := bytes, phase := .withOwner } }
            inFlight := s.inFlight ++ [d] }))) ∧
    (∀ rest w bytes, s.engine.work = .staging :: rest → w = 192 + s.engine.granted →
      bytes = s.engine.staged ++ [Memory.read s.exchange.mem (4 * w), Memory.read s.exchange.mem (4 * w + 1),
        Memory.read s.exchange.mem (4 * w + 2), Memory.read s.exchange.mem (4 * w + 3)] →
      (s.engine.granted < 63 → exec .stagingCopyDone s = .next s ∧ exec .accessGrant s = .next { s with
        engine := { s.engine with staged := bytes, granted := s.engine.granted + 1 } }) ∧
      (63 ≤ s.engine.granted → ∀ c, c = .accessGrant ∨ c = .stagingCopyDone → exec c s = .next { s with
        exchange := { s.exchange with
          stageHolder := if s.exchange.stageHolder = .internal then .none else s.exchange.stageHolder }
        engine := { s.engine with
          work := rest, granted := 0, staged := [], current := some { o with phase := .withOwner } }
        inFlight := s.inFlight ++ [.tariffImageArrival o.id bytes] }))

/-- R195 and the Slot layout of chapter 9: the owner that each kind of order is for, and the argument bytes that it is handed. -/
def Obligations.OrderArgumentsHandedOver : Prop :=
  ∀ (order : OrderId) (bytes : List Byte), bytes.length = 40 →
    (∀ b, bytes[0]? = some b → orderKind bytes = b.toNat) ∧
    (orderKind bytes = 1 → ∃ digits : List Byte, digits.length = 24 ∧ (∀ i, i < 24 → digits[i]? = bytes[4 + i]?) ∧
      orderCommand order bytes = some (.enterCode order digits)) ∧
    (orderKind bytes = 2 → orderCommand order bytes = some (.consent order)) ∧
    (orderKind bytes = 3 → orderCommand order bytes = some (.emergency order)) ∧
    (orderKind bytes = 4 → orderCommand order bytes = some (.disconnect order)) ∧
    (orderKind bytes = 5 → orderCommand order bytes = some (.permit order)) ∧
    (∀ target : BitVec 32, orderKind bytes = 6 →
      (∀ i b, i < 4 → bytes[4 + i]? = some b → b.toNat = target.toNat / 256 ^ (3 - i) % 256) →
      orderCommand order bytes = some (.setTime order target)) ∧
    (∀ (id : Byte) (value : BitVec 64), orderKind bytes = 8 → bytes[4]? = some id →
      (∀ i b, i < 8 → bytes[8 + i]? = some b → b.toNat = value.toNat / 256 ^ (7 - i) % 256) →
      orderCommand order bytes = some (.writeSetting order id value)) ∧
    (orderKind bytes = 9 → orderCommand order bytes = some (.enterService order)) ∧
    (∀ b : Byte, bytes[4]? = some b →
      (orderKind bytes = 10 → orderCommand order bytes = some (.clearTamper order b)) ∧
      (orderKind bytes = 11 → orderCommand order bytes = some (.selfTest order b))) ∧
    (orderKind bytes = 0 ∨ 11 < orderKind bytes → orderCommand order bytes = none)

/-- R189, R197, R202 and R203: an answer item, whose last word completes the order, and a state item, after which an emptied work list
ends a link reset or a warm start. The rows of the ends are the grants of the last words.
A warm start's news of written answers follows its last item (notes/assumptions/20.md); a second link reset in flight keeps the frames
unserved (R183, notes/assumptions/48.md); the rows change nothing at any other grant (the
model's choice of notes/assumptions/17.md). The number of a take is notes/assumptions/53.md, and that its state item
comes before its copy item notes/assumptions/26.md. The first clauses are R185 and R199: the 24 bytes of a result. -/
def Obligations.AnswersAndStatesWritten : Prop :=
  EnumeratedValuesNumbered ∧
  (∀ (code : ResultCode) (data : ResultData),
    LaidOut 40 24 ((40, 2, (code.number : Int)) :: answerFields data) (answerBytes code data)) ∧
  ∀ s : State, s.nextGrant = some .engine → Memory.wf s.exchange.mem = true →
    (∀ n code data rest, s.engine.work = .answer n code data :: rest → ∀ mem : Memory,
      mem = Memory.writeFrom s.exchange.mem (104 + 64 * n.val + 4 * s.engine.granted)
        (((answerBytes code data).drop (4 * s.engine.granted)).take 4) →
      (s.engine.granted < 5 → exec .answerComplete s = .next s ∧ exec .accessGrant s = .next { s with
        exchange := { s.exchange with mem := mem }, engine := { s.engine with granted := s.engine.granted + 1 } }) ∧
      (5 ≤ s.engine.granted → ∀ c, c = .accessGrant ∨ c = .answerComplete → Answers c s fun t => ∃ x,
        x = slotChanged { s.engine with work := rest, granted := 0 } n .done ∧
        (∀ o, s.engine.current = some o → o.id.slot = n → TakeMade { x with current := none } t.engine) ∧
        ((∀ o, s.engine.current = some o → o.id.slot ≠ n) → t.engine = x) ∧
        t = { s with
          exchange := { s.exchange with mem := mem, notices := s.exchange.notices ||| 0x01#8 }, engine := t.engine })) ∧
    (∀ n rest, s.engine.work = .state n :: rest → ∀ c, c = .accessGrant ∨ c = .stateByteWritten → Answers c s fun t => ∃ u x,
      (∀ a, Memory.read u.exchange.mem a = if a = 65 + 64 * n.val then (match s.engine.slots[n] with
        | .free => 0
        | .posted => 1
        | .taken => 2
        | .done => 3) else Memory.read s.exchange.mem a) ∧
      u = { s with
        exchange := { s.exchange with
          mem := u.exchange.mem
          resetPending := s.exchange.resetPending &&
            !(s.engine.resetWriting && decide (rest = [] ∧ Instr.engineLinkReset ∉ s.inFlight)) }
        engine := x } ∧
      x = { s.engine with work := rest, granted := 0, resetWriting := s.engine.resetWriting && !decide (rest = []) } ∧
      (rest = [] → s.engine.mode = .stopped → s.engine.hold = false →
        TakeMade { x with mode := .running } t.engine ∧
        t = { u with engine := t.engine, inFlight := s.inFlight ++ [.answersWrittenNews] }) ∧
      (¬(rest = [] ∧ s.engine.mode = .stopped ∧ s.engine.hold = false) → t = u))

/-- R197, R198 and R201 to R204: an owner's answer and park, and the Switch Unit's report; all three are discarded in STOPPED, and the
reply to an abandoned order ends it alone. A reply is matched to the current order that its owner has in hand or, an answer alone, to a
parked order; one for an order that is neither, so one for an order answered at a warm start or given up at a link reset, is discarded,
whatever stands in its slot.
That an order is told by its slot and the number of its take is notes/assumptions/47.md; replies in flight at a warm start are
notes/assumptions/18.md, and that a take's state item comes before its copy item is notes/assumptions/26.md. -/
def Obligations.OwnerRepliesTaken : Prop :=
  ∀ (s : State) (n : OrderId) (code : ResultCode) (data : ResultData) (owner : ParkingOwner) (st : RelayState) (r : ReasonSet)
      (mine : Option CurrentOrder),
    mine = s.engine.current.filter (fun o => decide (o.id = n ∧ o.phase = .withOwner)) →
    (∀ base, base = { s with inFlight := s.inFlight.erase (.ownerAnswer n code data) } →
      (s.engine.mode = .stopped → exec (.ownerAnswer n code data) s = .next base) ∧
      (∀ o, s.engine.mode = .running → mine = some o → o.abandoned = false →
        exec (.ownerAnswer n code data) s = .next { base with engine := { s.engine with
          current := some { o with phase := .answering }, work := s.engine.work ++ [.answer n.slot code data] } }) ∧
      (∀ o, s.engine.mode = .running → mine = some o → o.abandoned = true → Answers (.ownerAnswer n code data) s fun t =>
        TakeMade { s.engine with current := none } t.engine ∧ t = { base with engine := t.engine }) ∧
      (s.engine.mode = .running → mine = none → (∃ p ∈ s.engine.parked, p.id = n) →
        exec (.ownerAnswer n code data) s = .next { base with engine := { s.engine with
          parked := s.engine.parked.filter fun p => decide (p.id ≠ n)
          work := s.engine.work ++ [.answer n.slot code data] } }) ∧
      (s.engine.mode = .running → mine = none → (∀ p ∈ s.engine.parked, p.id ≠ n) →
        exec (.ownerAnswer n code data) s = .next base)) ∧
    (∀ base, base = { s with inFlight := s.inFlight.erase (.ownerPark ⟨owner, n⟩) } →
      (s.engine.mode = .stopped ∨ mine = none → exec (.ownerPark ⟨owner, n⟩) s = .next base) ∧
      (∀ o, s.engine.mode = .running → mine = some o → Answers (.ownerPark ⟨owner, n⟩) s fun t =>
        TakeMade { s.engine with
          current := none
          parked := s.engine.parked ++ if o.abandoned then [] else [ParkedOrder.mk n (orderKind o.bytes)] } t.engine ∧
        t = { base with engine := t.engine })) ∧
    (∀ base, base = { s with inFlight := s.inFlight.erase (.relayStateReport st r) } →
      (s.engine.mode = .stopped ∨ st ∉ [RelayState.open, .ready, .stuck] → exec (.relayStateReport st r) s = .next base) ∧
      (s.engine.mode = .running → st ∈ [RelayState.open, .ready, .stuck] → exec (.relayStateReport st r) s = .next { base with
        engine := { s.engine with
          parked := s.engine.parked.filter fun p => decide (p.kind ≠ 4)
          work := s.engine.work ++ (s.engine.parked.filter fun p => decide (p.kind = 4)).map fun p =>
            .answer p.id.slot (if st = .stuck then .failed else .ok) (.relay st r) } }))

/-- R201 to R203 and R42: the HOLD entry, the warm start up to its work list, and the link reset of the engine. That the HOLD entry
takes back an unread news of written answers is the model's choice of notes/assumptions/20.md; the link actions and the owners' replies
dropped from flight are notes/assumptions/18.md, the orders taken back notes/assumptions/31.md, the slot order of the state items
notes/assumptions/39.md, a link reset taken after a HOLD entry notes/assumptions/40.md, and the engine's give of STAGE
notes/assumptions/44.md. -/
def Obligations.EngineStopsStartsAndResets : Prop :=
  ∀ s : State,
    (Answers .engineHoldEntry s fun t =>
      t = { s with
        engine := { s.engine with mode := .stopped, hold := true }
        exchange := { s.exchange with answersTold := false }
        inFlight := t.inFlight } ∧
      ∀ before after, s.inFlight = before ++ .engineHoldEntry :: after → .engineHoldEntry ∉ before →
        t.inFlight = ((before.filter fun c => match c with
          | .post _ => false
          | .withdraw _ => false
          | .release _ => false
          | _ => true) ++ after).filter fun c => match c with
          | .answersWrittenNews => false
          | .enterCode _ _ => false
          | .setTime _ _ => false
          | .tariffImageArrival _ _ => false
          | .enterService _ => false
          | _ => true) ∧
    exec .engineWarmStart s = .next { s with
      engine := { s.engine with
        work := (((List.finRange 8).filter fun n => decide (s.engine.slots[n] = .taken)).map fun n =>
            .answer n .aborted .none) ++
          ((List.finRange 8).filter fun n => decide (s.engine.slots[n] ≠ .taken)).map fun n => .state n
        granted := 0
        staged := []
        current := none
        parked := []
        mode := .stopped
        hold := false }
      inFlight := (s.inFlight.erase .engineWarmStart).filter fun c => match c with
        | .post _ => false
        | .withdraw _ => false
        | .release _ => false
        | .ownerAnswer _ _ _ => false
        | .ownerPark _ => false
        | .relayStateReport _ _ => false
        | _ => true } ∧
    (Answers .engineLinkReset s fun t =>
      t = { s with
        engine := { s.engine with
          work := [.state 0, .state 1, .state 2, .state 3, .state 4, .state 5, .state 6, .state 7]
          granted := 0
          staged := []
          parked := []
          current := (s.engine.current.filter fun o => decide (o.phase = .withOwner)).map fun o => { o with abandoned := true }
          slots := t.engine.slots
          resetWriting := true }
        exchange := { s.exchange with
          stageHolder := if WorkItem.staging ∈ s.engine.work ∧ s.exchange.stageHolder = .internal then .none
            else s.exchange.stageHolder }
        inFlight := t.inFlight } ∧
      (∀ n : Fin 8, t.engine.slots[n] = .free) ∧
      ∀ before after, s.inFlight = before ++ .engineLinkReset :: after → .engineLinkReset ∉ before →
        t.inFlight = (before.filter fun c => match c with
          | .post _ => false
          | .withdraw _ => false
          | .release _ => false
          | _ => true) ++ after)


/-! ### Report Unit -/

/-- R206 to R208: an entry arrives, is handled when the writer's read of the read index is granted, and is written with its five
accesses; the rows ENTRY_HANDLING and ENTRY_WRITTEN are the grants of that read and of the fifth access. The first clause is R186: the
16 bytes of an entry, with the numbers of AnswersAndStatesWritten.
That the entry in hand is not among the 32, and what 47 unread make of a clear overflow state, are notes/assumptions/14.md and 27.md; that
the rows change nothing at any other grant is the model's choice of notes/assumptions/17.md. -/
def Obligations.EntriesQueuedHandledAndWritten : Prop :=
  (∀ (seq : BitVec 16) (e : Entry), LaidOut 0 16 (entryFields seq e) (entryBytes seq e) ∧
    (2, 1, (e.event.kind : Int)) ∈ eventFields e.event) ∧
  ∀ s : State,
    (∀ e, Answers (.entryArrival e) s fun t => ∃ x,
      (s.report.queue.length < 32 → x = { s.report with queue := s.report.queue ++ [e] }) ∧
      (32 ≤ s.report.queue.length → x = { s.report with loss := some (s.report.loss.getD e.event.kind) }) ∧
      WriterTakes s.calendar.t x t.report ∧
      t = { s with report := t.report, inFlight := s.inFlight.erase (.entryArrival e) }) ∧
    (s.nextGrant = some .journal → ∀ (wr : Writer) (e : Entry) (rest : List Entry), s.report.writer = some wr →
      wr.entries = e :: rest →
      (wr.stage = .reading → ∀ (r p unread : Nat) (accepted : Prop) (c : Instr), r = (Memory.read s.exchange.mem 8).toNat →
        (accepted ↔ r < 48 ∧ (r + 48 - s.report.p) % 48 ≤ (s.report.w + 48 - s.report.p) % 48) →
        (accepted → p = r) → (¬accepted → p = s.report.w) → unread = (s.report.w + 48 - p) % 48 →
        c = .accessGrant ∨ c = .entryHandling → Answers c s fun t =>
          (unread < 46 → t.report = { s.report with
            p := p
            overflow := false
            writer := some { wr with stage := .writing (entryBytes s.report.seq e) 0 } }) ∧
          (46 ≤ unread → s.report.overflow = false → t.report = { s.report with
            p := p
            overflow := true
            writer := some { wr with
              stage := .writing (entryBytes s.report.seq ⟨s.calendar.t, .overflow e.event.kind⟩) 0 } }) ∧
          (46 ≤ unread → s.report.overflow = true → WriterGoesOn s.calendar.t { s.report with p := p } wr t.report) ∧
          (accepted → t = { s with report := t.report }) ∧
          (¬accepted → t = { s with
            report := t.report, exchange := { s.exchange with notices := s.exchange.notices ||| 0x80#8 } })) ∧
      (∀ bytes n, wr.stage = .writing bytes n → n < 4 → exec .entryWritten s = .next s ∧ exec .accessGrant s = .next { s with
        exchange := { s.exchange with
          mem := Memory.writeFrom s.exchange.mem (1024 + 16 * s.report.w + 4 * n) ((bytes.drop (4 * n)).take 4) }
        report := { s.report with writer := some { wr with stage := .writing bytes (n + 1) } } }) ∧
      (∀ bytes n c, wr.stage = .writing bytes n → 4 ≤ n → c = .accessGrant ∨ c = .entryWritten → Answers c s fun t =>
        WriterGoesOn s.calendar.t { s.report with w := (s.report.w + 1) % 48, seq := s.report.seq + 1 } wr t.report ∧
        t = { s with
          report := t.report
          exchange := { s.exchange with
            mem := Memory.writeFrom s.exchange.mem 4 ([byteOf ((s.report.w + 1) % 48), 0] ++
              beBytes 2 (s.report.seq + 1).toNat)
            notices := s.exchange.notices ||| 0x02#8 } }))

/-- R209 and R212: the HOLD entry and the warm start of the Report Unit: an entry in hand is kept, with the overflow state and the
loss mark restored to where they were when the writer began it, and is handled again from its read of the read index.
The publisher's waiting access is withdrawn, and publishing stays set (R174).
What restored means for a loss mark is notes/assumptions/14.md; the block completions dropped from flight are notes/assumptions/18.md. -/
def Obligations.ReportStopsAndStarts : Prop :=
  ∀ s : State,
    (Answers .reportHoldEntry s fun t => t = { s with
        report := { s.report with
          hold := true, overflow := t.report.overflow, loss := t.report.loss, writer := t.report.writer, publication := none }
        inFlight := t.inFlight } ∧
      (∀ before after, s.inFlight = before ++ .reportHoldEntry :: after → .reportHoldEntry ∉ before →
        t.inFlight = (before.filter fun c => match c with
          | .blockCompletionReport => false
          | _ => true) ++ after) ∧
      (s.report.writer = none → t.report.writer = none ∧ t.report.overflow = s.report.overflow ∧
        t.report.loss = s.report.loss) ∧
      (∀ wr, s.report.writer = some wr → (∀ b, wr.stage ≠ .stopped b) →
        t.report.overflow = wr.savedOverflow ∧ t.report.loss = wr.savedLoss ∧ t.report.writer = some { wr with
          entries := if 2 ≤ wr.entries.length then wr.entries.tail else wr.entries
          stage := .stopped (decide (2 ≤ wr.entries.length)) })) ∧
    (∀ x base, x = { s.report with hold := false, blockCount := 0 } →
      base = { s with inFlight := s.inFlight.erase .reportWarmStart } →
      (s.report.writer = none → Answers .reportWarmStart s fun t =>
        WriterTakes s.calendar.t x t.report ∧ t = { base with report := t.report }) ∧
      (∀ wr e rest, s.report.writer = some wr → wr.entries = e :: rest →
        (wr.stage = .stopped false → exec .reportWarmStart s = .next { base with report := { x with
          writer := some { entries := e :: rest, stage := .reading, savedOverflow := x.overflow, savedLoss := x.loss } } }) ∧
        (wr.stage = .stopped true → exec .reportWarmStart s = .next { base with report := { x with
          loss := none
          writer := some
            { entries := (match x.loss with
                | some k => [Entry.mk s.calendar.t (.overflow k)]
                | none => []) ++ [e]
              stage := .reading, savedOverflow := x.overflow, savedLoss := x.loss } } })))

/-- R210 to R212 and R72: the eighth block completion makes a publication due, for which the row PUBLICATION_DUE stands; the news that
MIRROR is free; and the end of a publication, for which the row PUBLICATION_END stands. The first clauses are R187 and R72: the 128 bytes
of the mirror, with the numbers of AnswersAndStatesWritten, and the remaining lockout.
A take that the publisher itself holds is notes/assumptions/11.md. That a publication leaves a lockout end beyond T + 600 as it stands is
notes/assumptions/23.md, and that the rows change nothing out of their case the model's choice of notes/assumptions/17.md; that the
news of MIRROR acts in HOLD too is that of notes/assumptions/51.md; that a block completion met in HOLD is taken without effect is
notes/assumptions/19.md. -/
def Obligations.PublicationsDueMadeAndEnded : Prop :=
  (∀ (s : State) (count : BitVec 32) (lockout : Nat), LaidOut 0 128 (mirrorFields s count lockout) (mirrorBytes s count lockout)) ∧
  (∀ t e, lockoutRemaining none t = 0 ∧ lockoutRemaining (some e) t = if t < e then min (e - t) 600 else 0) ∧
  ∀ s : State,
    (∀ base, base = { s with inFlight := s.inFlight.erase .blockCompletionReport } →
      (s.report.hold = true → exec .blockCompletionReport s = .next base ∧ exec .publicationDue s = .next s) ∧
      (s.report.hold = false → s.report.blockCount + 1 < 8 → exec .publicationDue s = .next s ∧
        exec .blockCompletionReport s = .next { base with
          report := { s.report with blockCount := s.report.blockCount + 1 } }) ∧
      (∀ c, s.report.hold = false → 8 ≤ s.report.blockCount + 1 → c = .blockCompletionReport ∨ c = .publicationDue →
        (s.report.publishing = true ∨ s.report.pendingPub = true → exec c s = .next { base with
          report := { s.report with blockCount := 0, pendingPub := true } }) ∧
        (s.report.publishing = false → s.report.pendingPub = false → Answers c s
          (PublicationTried { base with report := { s.report with blockCount := 0 } })))) ∧
    (∀ base, base = { s with inFlight := s.inFlight.erase .mirrorFreedNews } →
      (s.report.publishing = false → s.report.pendingPub = false → exec .mirrorFreedNews s = .next base) ∧
      (s.report.publishing = true ∨ s.report.pendingPub = true → Answers .mirrorFreedNews s (PublicationTried { base with
        report := { s.report with pendingPub := false, publishing := false, publication := none } }))) ∧
    (∀ p, s.nextGrant = some .publisher → s.report.publication = some p → ∀ mem : Memory,
      mem = Memory.writeFrom s.exchange.mem (576 + 4 * p.granted) ((p.bytes.drop (4 * p.granted)).take 4) →
      (p.granted < 31 → exec .publicationEnd s = .next s ∧ exec .accessGrant s = .next { s with
        exchange := { s.exchange with mem := mem }
        report := { s.report with publication := some { p with granted := p.granted + 1 } } }) ∧
      (∀ c ended, 31 ≤ p.granted → c = .accessGrant ∨ c = .publicationEnd →
        ended = { s with
          exchange := { s.exchange with mem := mem, mirrorHolder := .none, notices := s.exchange.notices ||| 0x04#8 }
          report := { s.report with pendingPub := false, publishing := false, publication := none } } →
        (s.report.pendingPub = false → exec c s = .next ended) ∧
        (s.report.pendingPub = true → Answers c s (PublicationTried ended)))) ∧
    (s.nextGrant ≠ some .journal → exec .entryHandling s = .next s ∧ exec .entryWritten s = .next s) ∧
    (s.nextGrant ≠ some .publisher → exec .publicationEnd s = .next s) ∧
    (s.nextGrant ≠ some .engine → exec .slotCopyDone s = .next s ∧ exec .stagingCopyDone s = .next s ∧
      exec .answerComplete s = .next s ∧ exec .stateByteWritten s = .next s)
end

