-- ==== Sys2Proof/Laws/State.lean ====
section
/-! SUPPORT. What each update of the state does to each field: one lemma per field per update, so that no proof unfolds a
record update. -/

namespace Sys2Proof.Machine

variable (s : State)

/-! ### onEnergy -/

@[simp] theorem State.onEnergy_energy (f : Energy → Energy) : (s.onEnergy f).energy = f s.energy := rfl
@[simp] theorem State.onEnergy_calendar (f : Energy → Energy) : (s.onEnergy f).calendar = s.calendar := rfl
@[simp] theorem State.onEnergy_credit (f : Energy → Energy) : (s.onEnergy f).credit = s.credit := rfl
@[simp] theorem State.onEnergy_code (f : Energy → Energy) : (s.onEnergy f).code = s.code := rfl
@[simp] theorem State.onEnergy_switch (f : Energy → Energy) : (s.onEnergy f).switch = s.switch := rfl
@[simp] theorem State.onEnergy_tamper (f : Energy → Energy) : (s.onEnergy f).tamper = s.tamper := rfl
@[simp] theorem State.onEnergy_supply (f : Energy → Energy) : (s.onEnergy f).supply = s.supply := rfl
@[simp] theorem State.onEnergy_settings (f : Energy → Energy) : (s.onEnergy f).settings = s.settings := rfl
@[simp] theorem State.onEnergy_exchange (f : Energy → Energy) : (s.onEnergy f).exchange = s.exchange := rfl
@[simp] theorem State.onEnergy_engine (f : Energy → Energy) : (s.onEnergy f).engine = s.engine := rfl
@[simp] theorem State.onEnergy_report (f : Energy → Energy) : (s.onEnergy f).report = s.report := rfl
@[simp] theorem State.onEnergy_pins (f : Energy → Energy) : (s.onEnergy f).pins = s.pins := rfl
@[simp] theorem State.onEnergy_inFlight (f : Energy → Energy) : (s.onEnergy f).inFlight = s.inFlight := rfl
@[simp] theorem State.onEnergy_pending (f : Energy → Energy) : (s.onEnergy f).pending = s.pending := rfl

/-! ### onCalendar -/

@[simp] theorem State.onCalendar_energy (f : Calendar → Calendar) : (s.onCalendar f).energy = s.energy := rfl
@[simp] theorem State.onCalendar_calendar (f : Calendar → Calendar) : (s.onCalendar f).calendar = f s.calendar := rfl
@[simp] theorem State.onCalendar_credit (f : Calendar → Calendar) : (s.onCalendar f).credit = s.credit := rfl
@[simp] theorem State.onCalendar_code (f : Calendar → Calendar) : (s.onCalendar f).code = s.code := rfl
@[simp] theorem State.onCalendar_switch (f : Calendar → Calendar) : (s.onCalendar f).switch = s.switch := rfl
@[simp] theorem State.onCalendar_tamper (f : Calendar → Calendar) : (s.onCalendar f).tamper = s.tamper := rfl
@[simp] theorem State.onCalendar_supply (f : Calendar → Calendar) : (s.onCalendar f).supply = s.supply := rfl
@[simp] theorem State.onCalendar_settings (f : Calendar → Calendar) : (s.onCalendar f).settings = s.settings := rfl
@[simp] theorem State.onCalendar_exchange (f : Calendar → Calendar) : (s.onCalendar f).exchange = s.exchange := rfl
@[simp] theorem State.onCalendar_engine (f : Calendar → Calendar) : (s.onCalendar f).engine = s.engine := rfl
@[simp] theorem State.onCalendar_report (f : Calendar → Calendar) : (s.onCalendar f).report = s.report := rfl
@[simp] theorem State.onCalendar_pins (f : Calendar → Calendar) : (s.onCalendar f).pins = s.pins := rfl
@[simp] theorem State.onCalendar_inFlight (f : Calendar → Calendar) : (s.onCalendar f).inFlight = s.inFlight := rfl
@[simp] theorem State.onCalendar_pending (f : Calendar → Calendar) : (s.onCalendar f).pending = s.pending := rfl

/-! ### onCredit -/

@[simp] theorem State.onCredit_energy (f : Credit → Credit) : (s.onCredit f).energy = s.energy := rfl
@[simp] theorem State.onCredit_calendar (f : Credit → Credit) : (s.onCredit f).calendar = s.calendar := rfl
@[simp] theorem State.onCredit_credit (f : Credit → Credit) : (s.onCredit f).credit = f s.credit := rfl
@[simp] theorem State.onCredit_code (f : Credit → Credit) : (s.onCredit f).code = s.code := rfl
@[simp] theorem State.onCredit_switch (f : Credit → Credit) : (s.onCredit f).switch = s.switch := rfl
@[simp] theorem State.onCredit_tamper (f : Credit → Credit) : (s.onCredit f).tamper = s.tamper := rfl
@[simp] theorem State.onCredit_supply (f : Credit → Credit) : (s.onCredit f).supply = s.supply := rfl
@[simp] theorem State.onCredit_settings (f : Credit → Credit) : (s.onCredit f).settings = s.settings := rfl
@[simp] theorem State.onCredit_exchange (f : Credit → Credit) : (s.onCredit f).exchange = s.exchange := rfl
@[simp] theorem State.onCredit_engine (f : Credit → Credit) : (s.onCredit f).engine = s.engine := rfl
@[simp] theorem State.onCredit_report (f : Credit → Credit) : (s.onCredit f).report = s.report := rfl
@[simp] theorem State.onCredit_pins (f : Credit → Credit) : (s.onCredit f).pins = s.pins := rfl
@[simp] theorem State.onCredit_inFlight (f : Credit → Credit) : (s.onCredit f).inFlight = s.inFlight := rfl
@[simp] theorem State.onCredit_pending (f : Credit → Credit) : (s.onCredit f).pending = s.pending := rfl

/-! ### onCode -/

@[simp] theorem State.onCode_energy (f : Code → Code) : (s.onCode f).energy = s.energy := rfl
@[simp] theorem State.onCode_calendar (f : Code → Code) : (s.onCode f).calendar = s.calendar := rfl
@[simp] theorem State.onCode_credit (f : Code → Code) : (s.onCode f).credit = s.credit := rfl
@[simp] theorem State.onCode_code (f : Code → Code) : (s.onCode f).code = f s.code := rfl
@[simp] theorem State.onCode_switch (f : Code → Code) : (s.onCode f).switch = s.switch := rfl
@[simp] theorem State.onCode_tamper (f : Code → Code) : (s.onCode f).tamper = s.tamper := rfl
@[simp] theorem State.onCode_supply (f : Code → Code) : (s.onCode f).supply = s.supply := rfl
@[simp] theorem State.onCode_settings (f : Code → Code) : (s.onCode f).settings = s.settings := rfl
@[simp] theorem State.onCode_exchange (f : Code → Code) : (s.onCode f).exchange = s.exchange := rfl
@[simp] theorem State.onCode_engine (f : Code → Code) : (s.onCode f).engine = s.engine := rfl
@[simp] theorem State.onCode_report (f : Code → Code) : (s.onCode f).report = s.report := rfl
@[simp] theorem State.onCode_pins (f : Code → Code) : (s.onCode f).pins = s.pins := rfl
@[simp] theorem State.onCode_inFlight (f : Code → Code) : (s.onCode f).inFlight = s.inFlight := rfl
@[simp] theorem State.onCode_pending (f : Code → Code) : (s.onCode f).pending = s.pending := rfl

/-! ### onSwitch -/

@[simp] theorem State.onSwitch_energy (f : Switch → Switch) : (s.onSwitch f).energy = s.energy := rfl
@[simp] theorem State.onSwitch_calendar (f : Switch → Switch) : (s.onSwitch f).calendar = s.calendar := rfl
@[simp] theorem State.onSwitch_credit (f : Switch → Switch) : (s.onSwitch f).credit = s.credit := rfl
@[simp] theorem State.onSwitch_code (f : Switch → Switch) : (s.onSwitch f).code = s.code := rfl
@[simp] theorem State.onSwitch_switch (f : Switch → Switch) : (s.onSwitch f).switch = f s.switch := rfl
@[simp] theorem State.onSwitch_tamper (f : Switch → Switch) : (s.onSwitch f).tamper = s.tamper := rfl
@[simp] theorem State.onSwitch_supply (f : Switch → Switch) : (s.onSwitch f).supply = s.supply := rfl
@[simp] theorem State.onSwitch_settings (f : Switch → Switch) : (s.onSwitch f).settings = s.settings := rfl
@[simp] theorem State.onSwitch_exchange (f : Switch → Switch) : (s.onSwitch f).exchange = s.exchange := rfl
@[simp] theorem State.onSwitch_engine (f : Switch → Switch) : (s.onSwitch f).engine = s.engine := rfl
@[simp] theorem State.onSwitch_report (f : Switch → Switch) : (s.onSwitch f).report = s.report := rfl
@[simp] theorem State.onSwitch_pins (f : Switch → Switch) : (s.onSwitch f).pins = s.pins := rfl
@[simp] theorem State.onSwitch_inFlight (f : Switch → Switch) : (s.onSwitch f).inFlight = s.inFlight := rfl
@[simp] theorem State.onSwitch_pending (f : Switch → Switch) : (s.onSwitch f).pending = s.pending := rfl

/-! ### onTamper -/

@[simp] theorem State.onTamper_energy (f : Tamper → Tamper) : (s.onTamper f).energy = s.energy := rfl
@[simp] theorem State.onTamper_calendar (f : Tamper → Tamper) : (s.onTamper f).calendar = s.calendar := rfl
@[simp] theorem State.onTamper_credit (f : Tamper → Tamper) : (s.onTamper f).credit = s.credit := rfl
@[simp] theorem State.onTamper_code (f : Tamper → Tamper) : (s.onTamper f).code = s.code := rfl
@[simp] theorem State.onTamper_switch (f : Tamper → Tamper) : (s.onTamper f).switch = s.switch := rfl
@[simp] theorem State.onTamper_tamper (f : Tamper → Tamper) : (s.onTamper f).tamper = f s.tamper := rfl
@[simp] theorem State.onTamper_supply (f : Tamper → Tamper) : (s.onTamper f).supply = s.supply := rfl
@[simp] theorem State.onTamper_settings (f : Tamper → Tamper) : (s.onTamper f).settings = s.settings := rfl
@[simp] theorem State.onTamper_exchange (f : Tamper → Tamper) : (s.onTamper f).exchange = s.exchange := rfl
@[simp] theorem State.onTamper_engine (f : Tamper → Tamper) : (s.onTamper f).engine = s.engine := rfl
@[simp] theorem State.onTamper_report (f : Tamper → Tamper) : (s.onTamper f).report = s.report := rfl
@[simp] theorem State.onTamper_pins (f : Tamper → Tamper) : (s.onTamper f).pins = s.pins := rfl
@[simp] theorem State.onTamper_inFlight (f : Tamper → Tamper) : (s.onTamper f).inFlight = s.inFlight := rfl
@[simp] theorem State.onTamper_pending (f : Tamper → Tamper) : (s.onTamper f).pending = s.pending := rfl

/-! ### onSupply -/

@[simp] theorem State.onSupply_energy (f : Supply → Supply) : (s.onSupply f).energy = s.energy := rfl
@[simp] theorem State.onSupply_calendar (f : Supply → Supply) : (s.onSupply f).calendar = s.calendar := rfl
@[simp] theorem State.onSupply_credit (f : Supply → Supply) : (s.onSupply f).credit = s.credit := rfl
@[simp] theorem State.onSupply_code (f : Supply → Supply) : (s.onSupply f).code = s.code := rfl
@[simp] theorem State.onSupply_switch (f : Supply → Supply) : (s.onSupply f).switch = s.switch := rfl
@[simp] theorem State.onSupply_tamper (f : Supply → Supply) : (s.onSupply f).tamper = s.tamper := rfl
@[simp] theorem State.onSupply_supply (f : Supply → Supply) : (s.onSupply f).supply = f s.supply := rfl
@[simp] theorem State.onSupply_settings (f : Supply → Supply) : (s.onSupply f).settings = s.settings := rfl
@[simp] theorem State.onSupply_exchange (f : Supply → Supply) : (s.onSupply f).exchange = s.exchange := rfl
@[simp] theorem State.onSupply_engine (f : Supply → Supply) : (s.onSupply f).engine = s.engine := rfl
@[simp] theorem State.onSupply_report (f : Supply → Supply) : (s.onSupply f).report = s.report := rfl
@[simp] theorem State.onSupply_pins (f : Supply → Supply) : (s.onSupply f).pins = s.pins := rfl
@[simp] theorem State.onSupply_inFlight (f : Supply → Supply) : (s.onSupply f).inFlight = s.inFlight := rfl
@[simp] theorem State.onSupply_pending (f : Supply → Supply) : (s.onSupply f).pending = s.pending := rfl

/-! ### onSettings -/

@[simp] theorem State.onSettings_energy (f : Settings → Settings) : (s.onSettings f).energy = s.energy := rfl
@[simp] theorem State.onSettings_calendar (f : Settings → Settings) : (s.onSettings f).calendar = s.calendar := rfl
@[simp] theorem State.onSettings_credit (f : Settings → Settings) : (s.onSettings f).credit = s.credit := rfl
@[simp] theorem State.onSettings_code (f : Settings → Settings) : (s.onSettings f).code = s.code := rfl
@[simp] theorem State.onSettings_switch (f : Settings → Settings) : (s.onSettings f).switch = s.switch := rfl
@[simp] theorem State.onSettings_tamper (f : Settings → Settings) : (s.onSettings f).tamper = s.tamper := rfl
@[simp] theorem State.onSettings_supply (f : Settings → Settings) : (s.onSettings f).supply = s.supply := rfl
@[simp] theorem State.onSettings_settings (f : Settings → Settings) : (s.onSettings f).settings = f s.settings := rfl
@[simp] theorem State.onSettings_exchange (f : Settings → Settings) : (s.onSettings f).exchange = s.exchange := rfl
@[simp] theorem State.onSettings_engine (f : Settings → Settings) : (s.onSettings f).engine = s.engine := rfl
@[simp] theorem State.onSettings_report (f : Settings → Settings) : (s.onSettings f).report = s.report := rfl
@[simp] theorem State.onSettings_pins (f : Settings → Settings) : (s.onSettings f).pins = s.pins := rfl
@[simp] theorem State.onSettings_inFlight (f : Settings → Settings) : (s.onSettings f).inFlight = s.inFlight := rfl
@[simp] theorem State.onSettings_pending (f : Settings → Settings) : (s.onSettings f).pending = s.pending := rfl

/-! ### onExchange -/

@[simp] theorem State.onExchange_energy (f : Exchange → Exchange) : (s.onExchange f).energy = s.energy := rfl
@[simp] theorem State.onExchange_calendar (f : Exchange → Exchange) : (s.onExchange f).calendar = s.calendar := rfl
@[simp] theorem State.onExchange_credit (f : Exchange → Exchange) : (s.onExchange f).credit = s.credit := rfl
@[simp] theorem State.onExchange_code (f : Exchange → Exchange) : (s.onExchange f).code = s.code := rfl
@[simp] theorem State.onExchange_switch (f : Exchange → Exchange) : (s.onExchange f).switch = s.switch := rfl
@[simp] theorem State.onExchange_tamper (f : Exchange → Exchange) : (s.onExchange f).tamper = s.tamper := rfl
@[simp] theorem State.onExchange_supply (f : Exchange → Exchange) : (s.onExchange f).supply = s.supply := rfl
@[simp] theorem State.onExchange_settings (f : Exchange → Exchange) : (s.onExchange f).settings = s.settings := rfl
@[simp] theorem State.onExchange_exchange (f : Exchange → Exchange) : (s.onExchange f).exchange = f s.exchange := rfl
@[simp] theorem State.onExchange_engine (f : Exchange → Exchange) : (s.onExchange f).engine = s.engine := rfl
@[simp] theorem State.onExchange_report (f : Exchange → Exchange) : (s.onExchange f).report = s.report := rfl
@[simp] theorem State.onExchange_pins (f : Exchange → Exchange) : (s.onExchange f).pins = s.pins := rfl
@[simp] theorem State.onExchange_inFlight (f : Exchange → Exchange) : (s.onExchange f).inFlight = s.inFlight := rfl
@[simp] theorem State.onExchange_pending (f : Exchange → Exchange) : (s.onExchange f).pending = s.pending := rfl

/-! ### onEngine -/

@[simp] theorem State.onEngine_energy (f : Engine → Engine) : (s.onEngine f).energy = s.energy := rfl
@[simp] theorem State.onEngine_calendar (f : Engine → Engine) : (s.onEngine f).calendar = s.calendar := rfl
@[simp] theorem State.onEngine_credit (f : Engine → Engine) : (s.onEngine f).credit = s.credit := rfl
@[simp] theorem State.onEngine_code (f : Engine → Engine) : (s.onEngine f).code = s.code := rfl
@[simp] theorem State.onEngine_switch (f : Engine → Engine) : (s.onEngine f).switch = s.switch := rfl
@[simp] theorem State.onEngine_tamper (f : Engine → Engine) : (s.onEngine f).tamper = s.tamper := rfl
@[simp] theorem State.onEngine_supply (f : Engine → Engine) : (s.onEngine f).supply = s.supply := rfl
@[simp] theorem State.onEngine_settings (f : Engine → Engine) : (s.onEngine f).settings = s.settings := rfl
@[simp] theorem State.onEngine_exchange (f : Engine → Engine) : (s.onEngine f).exchange = s.exchange := rfl
@[simp] theorem State.onEngine_engine (f : Engine → Engine) : (s.onEngine f).engine = f s.engine := rfl
@[simp] theorem State.onEngine_report (f : Engine → Engine) : (s.onEngine f).report = s.report := rfl
@[simp] theorem State.onEngine_pins (f : Engine → Engine) : (s.onEngine f).pins = s.pins := rfl
@[simp] theorem State.onEngine_inFlight (f : Engine → Engine) : (s.onEngine f).inFlight = s.inFlight := rfl
@[simp] theorem State.onEngine_pending (f : Engine → Engine) : (s.onEngine f).pending = s.pending := rfl

/-! ### onReport -/

@[simp] theorem State.onReport_energy (f : Report → Report) : (s.onReport f).energy = s.energy := rfl
@[simp] theorem State.onReport_calendar (f : Report → Report) : (s.onReport f).calendar = s.calendar := rfl
@[simp] theorem State.onReport_credit (f : Report → Report) : (s.onReport f).credit = s.credit := rfl
@[simp] theorem State.onReport_code (f : Report → Report) : (s.onReport f).code = s.code := rfl
@[simp] theorem State.onReport_switch (f : Report → Report) : (s.onReport f).switch = s.switch := rfl
@[simp] theorem State.onReport_tamper (f : Report → Report) : (s.onReport f).tamper = s.tamper := rfl
@[simp] theorem State.onReport_supply (f : Report → Report) : (s.onReport f).supply = s.supply := rfl
@[simp] theorem State.onReport_settings (f : Report → Report) : (s.onReport f).settings = s.settings := rfl
@[simp] theorem State.onReport_exchange (f : Report → Report) : (s.onReport f).exchange = s.exchange := rfl
@[simp] theorem State.onReport_engine (f : Report → Report) : (s.onReport f).engine = s.engine := rfl
@[simp] theorem State.onReport_report (f : Report → Report) : (s.onReport f).report = f s.report := rfl
@[simp] theorem State.onReport_pins (f : Report → Report) : (s.onReport f).pins = s.pins := rfl
@[simp] theorem State.onReport_inFlight (f : Report → Report) : (s.onReport f).inFlight = s.inFlight := rfl
@[simp] theorem State.onReport_pending (f : Report → Report) : (s.onReport f).pending = s.pending := rfl

/-! ### onPins -/

@[simp] theorem State.onPins_energy (f : Pins → Pins) : (s.onPins f).energy = s.energy := rfl
@[simp] theorem State.onPins_calendar (f : Pins → Pins) : (s.onPins f).calendar = s.calendar := rfl
@[simp] theorem State.onPins_credit (f : Pins → Pins) : (s.onPins f).credit = s.credit := rfl
@[simp] theorem State.onPins_code (f : Pins → Pins) : (s.onPins f).code = s.code := rfl
@[simp] theorem State.onPins_switch (f : Pins → Pins) : (s.onPins f).switch = s.switch := rfl
@[simp] theorem State.onPins_tamper (f : Pins → Pins) : (s.onPins f).tamper = s.tamper := rfl
@[simp] theorem State.onPins_supply (f : Pins → Pins) : (s.onPins f).supply = s.supply := rfl
@[simp] theorem State.onPins_settings (f : Pins → Pins) : (s.onPins f).settings = s.settings := rfl
@[simp] theorem State.onPins_exchange (f : Pins → Pins) : (s.onPins f).exchange = s.exchange := rfl
@[simp] theorem State.onPins_engine (f : Pins → Pins) : (s.onPins f).engine = s.engine := rfl
@[simp] theorem State.onPins_report (f : Pins → Pins) : (s.onPins f).report = s.report := rfl
@[simp] theorem State.onPins_pins (f : Pins → Pins) : (s.onPins f).pins = f s.pins := rfl
@[simp] theorem State.onPins_inFlight (f : Pins → Pins) : (s.onPins f).inFlight = s.inFlight := rfl
@[simp] theorem State.onPins_pending (f : Pins → Pins) : (s.onPins f).pending = s.pending := rfl

/-! ### send -/

@[simp] theorem State.send_energy (c : Instr) : (s.send c).energy = s.energy := rfl
@[simp] theorem State.send_calendar (c : Instr) : (s.send c).calendar = s.calendar := rfl
@[simp] theorem State.send_credit (c : Instr) : (s.send c).credit = s.credit := rfl
@[simp] theorem State.send_code (c : Instr) : (s.send c).code = s.code := rfl
@[simp] theorem State.send_switch (c : Instr) : (s.send c).switch = s.switch := rfl
@[simp] theorem State.send_tamper (c : Instr) : (s.send c).tamper = s.tamper := rfl
@[simp] theorem State.send_supply (c : Instr) : (s.send c).supply = s.supply := rfl
@[simp] theorem State.send_settings (c : Instr) : (s.send c).settings = s.settings := rfl
@[simp] theorem State.send_exchange (c : Instr) : (s.send c).exchange = s.exchange := rfl
@[simp] theorem State.send_engine (c : Instr) : (s.send c).engine = s.engine := rfl
@[simp] theorem State.send_report (c : Instr) : (s.send c).report = s.report := rfl
@[simp] theorem State.send_pins (c : Instr) : (s.send c).pins = s.pins := rfl
@[simp] theorem State.send_inFlight (c : Instr) : (s.send c).inFlight = s.inFlight ++ [c] := rfl
@[simp] theorem State.send_pending (c : Instr) : (s.send c).pending = s.pending := rfl

/-! ### took -/

@[simp] theorem State.took_energy (c : Instr) : (s.took c).energy = s.energy := rfl
@[simp] theorem State.took_calendar (c : Instr) : (s.took c).calendar = s.calendar := rfl
@[simp] theorem State.took_credit (c : Instr) : (s.took c).credit = s.credit := rfl
@[simp] theorem State.took_code (c : Instr) : (s.took c).code = s.code := rfl
@[simp] theorem State.took_switch (c : Instr) : (s.took c).switch = s.switch := rfl
@[simp] theorem State.took_tamper (c : Instr) : (s.took c).tamper = s.tamper := rfl
@[simp] theorem State.took_supply (c : Instr) : (s.took c).supply = s.supply := rfl
@[simp] theorem State.took_settings (c : Instr) : (s.took c).settings = s.settings := rfl
@[simp] theorem State.took_exchange (c : Instr) : (s.took c).exchange = s.exchange := rfl
@[simp] theorem State.took_engine (c : Instr) : (s.took c).engine = s.engine := rfl
@[simp] theorem State.took_report (c : Instr) : (s.took c).report = s.report := rfl
@[simp] theorem State.took_pins (c : Instr) : (s.took c).pins = s.pins := rfl
@[simp] theorem State.took_inFlight (c : Instr) : (s.took c).inFlight = s.inFlight.erase c.sentForm := rfl
@[simp] theorem State.took_pending (c : Instr) : (s.took c).pending = s.pending := rfl

/-! ### dropStale -/

@[simp] theorem State.dropStale_energy (c : Instr) (d : Instr → Bool) : (s.dropStale c d).energy = s.energy := rfl
@[simp] theorem State.dropStale_calendar (c : Instr) (d : Instr → Bool) : (s.dropStale c d).calendar = s.calendar := rfl
@[simp] theorem State.dropStale_credit (c : Instr) (d : Instr → Bool) : (s.dropStale c d).credit = s.credit := rfl
@[simp] theorem State.dropStale_code (c : Instr) (d : Instr → Bool) : (s.dropStale c d).code = s.code := rfl
@[simp] theorem State.dropStale_switch (c : Instr) (d : Instr → Bool) : (s.dropStale c d).switch = s.switch := rfl
@[simp] theorem State.dropStale_tamper (c : Instr) (d : Instr → Bool) : (s.dropStale c d).tamper = s.tamper := rfl
@[simp] theorem State.dropStale_supply (c : Instr) (d : Instr → Bool) : (s.dropStale c d).supply = s.supply := rfl
@[simp] theorem State.dropStale_settings (c : Instr) (d : Instr → Bool) : (s.dropStale c d).settings = s.settings := rfl
@[simp] theorem State.dropStale_exchange (c : Instr) (d : Instr → Bool) : (s.dropStale c d).exchange = s.exchange := rfl
@[simp] theorem State.dropStale_engine (c : Instr) (d : Instr → Bool) : (s.dropStale c d).engine = s.engine := rfl
@[simp] theorem State.dropStale_report (c : Instr) (d : Instr → Bool) : (s.dropStale c d).report = s.report := rfl
@[simp] theorem State.dropStale_pins (c : Instr) (d : Instr → Bool) : (s.dropStale c d).pins = s.pins := rfl
@[simp] theorem State.dropStale_inFlight (c : Instr) (d : Instr → Bool) : (s.dropStale c d).inFlight = discardBefore c d s.inFlight := rfl
@[simp] theorem State.dropStale_pending (c : Instr) (d : Instr → Bool) : (s.dropStale c d).pending = s.pending := rfl

/-! ### raise -/

@[simp] theorem State.raise_energy (n : Notice) : (s.raise n).energy = s.energy := rfl
@[simp] theorem State.raise_calendar (n : Notice) : (s.raise n).calendar = s.calendar := rfl
@[simp] theorem State.raise_credit (n : Notice) : (s.raise n).credit = s.credit := rfl
@[simp] theorem State.raise_code (n : Notice) : (s.raise n).code = s.code := rfl
@[simp] theorem State.raise_switch (n : Notice) : (s.raise n).switch = s.switch := rfl
@[simp] theorem State.raise_tamper (n : Notice) : (s.raise n).tamper = s.tamper := rfl
@[simp] theorem State.raise_supply (n : Notice) : (s.raise n).supply = s.supply := rfl
@[simp] theorem State.raise_settings (n : Notice) : (s.raise n).settings = s.settings := rfl
@[simp] theorem State.raise_exchange (n : Notice) : (s.raise n).exchange = { s.exchange with notices := s.exchange.notices ||| BitVec.ofNat 8 (2 ^ n.bit) } := rfl
@[simp] theorem State.raise_engine (n : Notice) : (s.raise n).engine = s.engine := rfl
@[simp] theorem State.raise_report (n : Notice) : (s.raise n).report = s.report := rfl
@[simp] theorem State.raise_pins (n : Notice) : (s.raise n).pins = s.pins := rfl
@[simp] theorem State.raise_inFlight (n : Notice) : (s.raise n).inFlight = s.inFlight := rfl
@[simp] theorem State.raise_pending (n : Notice) : (s.raise n).pending = s.pending := rfl

/-! ### journal -/

@[simp] theorem State.journal_energy (e : Event) : (s.journal e).energy = s.energy := rfl
@[simp] theorem State.journal_calendar (e : Event) : (s.journal e).calendar = s.calendar := rfl
@[simp] theorem State.journal_credit (e : Event) : (s.journal e).credit = s.credit := rfl
@[simp] theorem State.journal_code (e : Event) : (s.journal e).code = s.code := rfl
@[simp] theorem State.journal_switch (e : Event) : (s.journal e).switch = s.switch := rfl
@[simp] theorem State.journal_tamper (e : Event) : (s.journal e).tamper = s.tamper := rfl
@[simp] theorem State.journal_supply (e : Event) : (s.journal e).supply = s.supply := rfl
@[simp] theorem State.journal_settings (e : Event) : (s.journal e).settings = s.settings := rfl
@[simp] theorem State.journal_exchange (e : Event) : (s.journal e).exchange = s.exchange := rfl
@[simp] theorem State.journal_engine (e : Event) : (s.journal e).engine = s.engine := rfl
@[simp] theorem State.journal_report (e : Event) : (s.journal e).report = s.report := rfl
@[simp] theorem State.journal_pins (e : Event) : (s.journal e).pins = s.pins := rfl
@[simp] theorem State.journal_inFlight (e : Event) : (s.journal e).inFlight = s.inFlight ++ [.entryArrival ⟨s.calendar.t, e⟩] := rfl
@[simp] theorem State.journal_pending (e : Event) : (s.journal e).pending = s.pending := rfl

/-! ### journalAt -/

@[simp] theorem State.journalAt_energy (t : Nat) (e : Event) : (s.journalAt t e).energy = s.energy := rfl
@[simp] theorem State.journalAt_calendar (t : Nat) (e : Event) : (s.journalAt t e).calendar = s.calendar := rfl
@[simp] theorem State.journalAt_credit (t : Nat) (e : Event) : (s.journalAt t e).credit = s.credit := rfl
@[simp] theorem State.journalAt_code (t : Nat) (e : Event) : (s.journalAt t e).code = s.code := rfl
@[simp] theorem State.journalAt_switch (t : Nat) (e : Event) : (s.journalAt t e).switch = s.switch := rfl
@[simp] theorem State.journalAt_tamper (t : Nat) (e : Event) : (s.journalAt t e).tamper = s.tamper := rfl
@[simp] theorem State.journalAt_supply (t : Nat) (e : Event) : (s.journalAt t e).supply = s.supply := rfl
@[simp] theorem State.journalAt_settings (t : Nat) (e : Event) : (s.journalAt t e).settings = s.settings := rfl
@[simp] theorem State.journalAt_exchange (t : Nat) (e : Event) : (s.journalAt t e).exchange = s.exchange := rfl
@[simp] theorem State.journalAt_engine (t : Nat) (e : Event) : (s.journalAt t e).engine = s.engine := rfl
@[simp] theorem State.journalAt_report (t : Nat) (e : Event) : (s.journalAt t e).report = s.report := rfl
@[simp] theorem State.journalAt_pins (t : Nat) (e : Event) : (s.journalAt t e).pins = s.pins := rfl
@[simp] theorem State.journalAt_inFlight (t : Nat) (e : Event) : (s.journalAt t e).inFlight = s.inFlight ++ [.entryArrival ⟨t, e⟩] := rfl
@[simp] theorem State.journalAt_pending (t : Nat) (e : Event) : (s.journalAt t e).pending = s.pending := rfl

/-! ### answer -/

@[simp] theorem State.answer_energy (n : OrderId) (code : ResultCode) (d : ResultData) : (s.answer n code d).energy = s.energy := rfl
@[simp] theorem State.answer_calendar (n : OrderId) (code : ResultCode) (d : ResultData) : (s.answer n code d).calendar = s.calendar := rfl
@[simp] theorem State.answer_credit (n : OrderId) (code : ResultCode) (d : ResultData) : (s.answer n code d).credit = s.credit := rfl
@[simp] theorem State.answer_code (n : OrderId) (code : ResultCode) (d : ResultData) : (s.answer n code d).code = s.code := rfl
@[simp] theorem State.answer_switch (n : OrderId) (code : ResultCode) (d : ResultData) : (s.answer n code d).switch = s.switch := rfl
@[simp] theorem State.answer_tamper (n : OrderId) (code : ResultCode) (d : ResultData) : (s.answer n code d).tamper = s.tamper := rfl
@[simp] theorem State.answer_supply (n : OrderId) (code : ResultCode) (d : ResultData) : (s.answer n code d).supply = s.supply := rfl
@[simp] theorem State.answer_settings (n : OrderId) (code : ResultCode) (d : ResultData) : (s.answer n code d).settings = s.settings := rfl
@[simp] theorem State.answer_exchange (n : OrderId) (code : ResultCode) (d : ResultData) : (s.answer n code d).exchange = s.exchange := rfl
@[simp] theorem State.answer_engine (n : OrderId) (code : ResultCode) (d : ResultData) : (s.answer n code d).engine = s.engine := rfl
@[simp] theorem State.answer_report (n : OrderId) (code : ResultCode) (d : ResultData) : (s.answer n code d).report = s.report := rfl
@[simp] theorem State.answer_pins (n : OrderId) (code : ResultCode) (d : ResultData) : (s.answer n code d).pins = s.pins := rfl
@[simp] theorem State.answer_inFlight (n : OrderId) (code : ResultCode) (d : ResultData) : (s.answer n code d).inFlight = s.inFlight ++ [.ownerAnswer n code d] := rfl
@[simp] theorem State.answer_pending (n : OrderId) (code : ResultCode) (d : ResultData) : (s.answer n code d).pending = s.pending := rfl

/-! ### store -/

@[simp] theorem State.store_energy (a : Nat) (b : List Byte) : (s.store a b).energy = s.energy := rfl
@[simp] theorem State.store_calendar (a : Nat) (b : List Byte) : (s.store a b).calendar = s.calendar := rfl
@[simp] theorem State.store_credit (a : Nat) (b : List Byte) : (s.store a b).credit = s.credit := rfl
@[simp] theorem State.store_code (a : Nat) (b : List Byte) : (s.store a b).code = s.code := rfl
@[simp] theorem State.store_switch (a : Nat) (b : List Byte) : (s.store a b).switch = s.switch := rfl
@[simp] theorem State.store_tamper (a : Nat) (b : List Byte) : (s.store a b).tamper = s.tamper := rfl
@[simp] theorem State.store_supply (a : Nat) (b : List Byte) : (s.store a b).supply = s.supply := rfl
@[simp] theorem State.store_settings (a : Nat) (b : List Byte) : (s.store a b).settings = s.settings := rfl
@[simp] theorem State.store_exchange (a : Nat) (b : List Byte) : (s.store a b).exchange = { s.exchange with mem := Memory.writeFrom s.exchange.mem a b } := rfl
@[simp] theorem State.store_engine (a : Nat) (b : List Byte) : (s.store a b).engine = s.engine := rfl
@[simp] theorem State.store_report (a : Nat) (b : List Byte) : (s.store a b).report = s.report := rfl
@[simp] theorem State.store_pins (a : Nat) (b : List Byte) : (s.store a b).pins = s.pins := rfl
@[simp] theorem State.store_inFlight (a : Nat) (b : List Byte) : (s.store a b).inFlight = s.inFlight := rfl
@[simp] theorem State.store_pending (a : Nat) (b : List Byte) : (s.store a b).pending = s.pending := rfl

/-! ### Orders taken in RUN alone, and what a HOLD entry drops -/

theorem State.takesRunOrders_iff : s.takesRunOrders = true ↔ s.supply.power = .run ∧ Instr.engineHoldEntry ∉ s.inFlight := by
  simp [State.takesRunOrders]

/-- Taking its own arrival does not change whether a unit takes an order. -/
theorem State.took_takesRunOrders (c : Instr) (h : c.sentForm ≠ .engineHoldEntry) :
    (s.took c).takesRunOrders = s.takesRunOrders := by
  simp only [State.takesRunOrders, State.took]
  exact congrArg _ (decide_eq_decide.2 (not_congr (List.mem_erase_of_ne h.symm)))

/-- What a HOLD entry leaves in flight: of what stands before it, all but what it drops; what stands after it, whole. -/
theorem discardBefore_append (stop : Instr) (drop : Instr → Bool) (before after : List Instr) (h : stop ∉ before) :
    discardBefore stop drop (before ++ stop :: after) = before.filter (fun c => !drop c) ++ stop :: after := by
  induction before with
  | nil => simp [discardBefore]
  | cons c cs ih =>
    have hc : c ≠ stop := fun e => h (by simp [e])
    have := ih fun m => h (by simp [m])
    cases hd : drop c <;> simp [discardBefore, hc, hd, this]

end Sys2Proof.Machine
end

