-- ==== Sys2Proof/Laws/Codes.lean ====
section
/-! SUPPORT. What each operation of Machine/Codes.lean leaves as it stands, once for each operation. -/

namespace Sys2Proof.Machine

variable (s : State)

/-! ### The history of codes -/

/-- A serial that is inserted stands among the others. -/
theorem mem_insertSerial (n k : Nat) (l : List Nat) : k ∈ insertSerial n l ↔ k = n ∨ k ∈ l := by
  induction l with
  | nil => simp [insertSerial]
  | cons m l ih =>
    simp only [insertSerial]
    split
    · simp
    · simp [ih, or_left_comm]

theorem length_insertSerial (n : Nat) (l : List Nat) : (insertSerial n l).length = l.length + 1 := by
  induction l with
  | nil => rfl
  | cons m l ih =>
    simp only [insertSerial]
    split <;> simp_all

/-- A new serial keeps the order. -/
theorem pairwise_insertSerial (n : Nat) (l : List Nat) (hl : l.Pairwise (· < ·)) (hn : n ∉ l) :
    (insertSerial n l).Pairwise (· < ·) := by
  induction l with
  | nil => simp [insertSerial]
  | cons m l ih =>
    obtain ⟨hm, hl⟩ := List.pairwise_cons.1 hl
    simp only [List.mem_cons, not_or] at hn
    simp only [insertSerial]
    split
    · rename_i h
      refine List.pairwise_cons.2 ⟨fun k hk => ?_, List.pairwise_cons.2 ⟨hm, hl⟩⟩
      rcases List.mem_cons.1 hk with rfl | hk
      · exact h
      · exact Nat.lt_trans h (hm k hk)
    · refine List.pairwise_cons.2 ⟨fun k hk => ?_, ih hl hn.2⟩
      rcases (mem_insertSerial n k l).1 hk with rfl | hk
      · omega
      · exact hm k hk

/-! ### The frames -/

@[simp] theorem State.countFailure_frame (o : CodeOutcome) :
    (s.countFailure o).energy = s.energy ∧
      (s.countFailure o).calendar = s.calendar ∧
      (s.countFailure o).credit = s.credit ∧
      (s.countFailure o).switch = s.switch ∧
      (s.countFailure o).tamper = s.tamper ∧
      (s.countFailure o).supply = s.supply ∧
      (s.countFailure o).settings = s.settings ∧
      (s.countFailure o).engine = s.engine ∧
      (s.countFailure o).report = s.report ∧
      (s.countFailure o).pins = s.pins ∧
      (s.countFailure o).pending = s.pending ∧
      (s.countFailure o).exchange = s.exchange := by
  refine ⟨?_, ?_, ?_, ?_, ?_, ?_, ?_, ?_, ?_, ?_, ?_, ?_⟩ <;>
    (simp only [State.countFailure]; repeat' split) <;> simp

@[simp] theorem State.codeAnswer_frame (order : OrderId) (o : CodeOutcome) (cls serial amount : Nat) (balance : Int) :
    (s.codeAnswer order o cls serial amount balance).energy = s.energy ∧
      (s.codeAnswer order o cls serial amount balance).calendar = s.calendar ∧
      (s.codeAnswer order o cls serial amount balance).credit = s.credit ∧
      (s.codeAnswer order o cls serial amount balance).code = s.code ∧
      (s.codeAnswer order o cls serial amount balance).switch = s.switch ∧
      (s.codeAnswer order o cls serial amount balance).tamper = s.tamper ∧
      (s.codeAnswer order o cls serial amount balance).supply = s.supply ∧
      (s.codeAnswer order o cls serial amount balance).settings = s.settings ∧
      (s.codeAnswer order o cls serial amount balance).engine = s.engine ∧
      (s.codeAnswer order o cls serial amount balance).report = s.report ∧
      (s.codeAnswer order o cls serial amount balance).pins = s.pins ∧
      (s.codeAnswer order o cls serial amount balance).pending = s.pending ∧
      (s.codeAnswer order o cls serial amount balance).exchange = s.exchange := by
  refine ⟨?_, ?_, ?_, ?_, ?_, ?_, ?_, ?_, ?_, ?_, ?_, ?_, ?_⟩ <;>
    (simp only [State.codeAnswer]; simp)

@[simp] theorem State.codeAccepted_frame (balance : Int) :
    (s.codeAccepted balance).energy = s.energy ∧
      (s.codeAccepted balance).calendar = s.calendar ∧
      (s.codeAccepted balance).credit = s.credit ∧
      (s.codeAccepted balance).switch = s.switch ∧
      (s.codeAccepted balance).tamper = s.tamper ∧
      (s.codeAccepted balance).supply = s.supply ∧
      (s.codeAccepted balance).settings = s.settings ∧
      (s.codeAccepted balance).engine = s.engine ∧
      (s.codeAccepted balance).report = s.report ∧
      (s.codeAccepted balance).pins = s.pins ∧
      (s.codeAccepted balance).pending = s.pending ∧
      (s.codeAccepted balance).exchange = s.exchange := by
  refine ⟨?_, ?_, ?_, ?_, ?_, ?_, ?_, ?_, ?_, ?_, ?_, ?_⟩ <;>
    (simp only [State.codeAccepted]; repeat' split) <;> simp

@[simp] theorem State.codeOverCap_frame (balance : Int) :
    (s.codeOverCap balance).energy = s.energy ∧
      (s.codeOverCap balance).calendar = s.calendar ∧
      (s.codeOverCap balance).credit = s.credit ∧
      (s.codeOverCap balance).switch = s.switch ∧
      (s.codeOverCap balance).tamper = s.tamper ∧
      (s.codeOverCap balance).supply = s.supply ∧
      (s.codeOverCap balance).settings = s.settings ∧
      (s.codeOverCap balance).engine = s.engine ∧
      (s.codeOverCap balance).report = s.report ∧
      (s.codeOverCap balance).pins = s.pins ∧
      (s.codeOverCap balance).pending = s.pending ∧
      (s.codeOverCap balance).exchange = s.exchange := by
  refine ⟨?_, ?_, ?_, ?_, ?_, ?_, ?_, ?_, ?_, ?_, ?_, ?_⟩ <;>
    (simp only [State.codeOverCap]; repeat' split) <;> simp

@[simp] theorem State.judgeCode_frame (order : OrderId) (n : Nat) :
    (s.judgeCode order n).energy = s.energy ∧
      (s.judgeCode order n).calendar = s.calendar ∧
      (s.judgeCode order n).credit = s.credit ∧
      (s.judgeCode order n).switch = s.switch ∧
      (s.judgeCode order n).tamper = s.tamper ∧
      (s.judgeCode order n).supply = s.supply ∧
      (s.judgeCode order n).settings = s.settings ∧
      (s.judgeCode order n).engine = s.engine ∧
      (s.judgeCode order n).report = s.report ∧
      (s.judgeCode order n).pins = s.pins ∧
      (s.judgeCode order n).pending = s.pending ∧
      (s.judgeCode order n).exchange = s.exchange := by
  refine ⟨?_, ?_, ?_, ?_, ?_, ?_, ?_, ?_, ?_, ?_, ?_, ?_⟩ <;>
    (simp only [State.judgeCode]; repeat' split) <;> simp

@[simp] theorem State.evaluateCode_frame (order : OrderId) (digits : List Byte) :
    (s.evaluateCode order digits).energy = s.energy ∧
      (s.evaluateCode order digits).calendar = s.calendar ∧
      (s.evaluateCode order digits).credit = s.credit ∧
      (s.evaluateCode order digits).switch = s.switch ∧
      (s.evaluateCode order digits).tamper = s.tamper ∧
      (s.evaluateCode order digits).supply = s.supply ∧
      (s.evaluateCode order digits).settings = s.settings ∧
      (s.evaluateCode order digits).engine = s.engine ∧
      (s.evaluateCode order digits).report = s.report ∧
      (s.evaluateCode order digits).pins = s.pins ∧
      (s.evaluateCode order digits).pending = s.pending ∧
      (s.evaluateCode order digits).exchange = s.exchange := by
  refine ⟨?_, ?_, ?_, ?_, ?_, ?_, ?_, ?_, ?_, ?_, ?_, ?_⟩ <;>
    (simp only [State.evaluateCode]; repeat' split) <;> simp

end Sys2Proof.Machine
end

