-- ==== Sys2Proof/Laws/Settings.lean ====
section
/-! SUPPORT. What each operation of Machine/Settings.lean leaves as it stands, once for each operation. -/

namespace Sys2Proof.Machine

variable (s : State)

@[simp] theorem State.sweep_frame (k : SweepKind) :
    (s.sweep k).energy = s.energy ∧
      (s.sweep k).calendar = s.calendar ∧
      (s.sweep k).credit = s.credit ∧
      (s.sweep k).code = s.code ∧
      (s.sweep k).switch = s.switch ∧
      (s.sweep k).tamper = s.tamper ∧
      (s.sweep k).supply = s.supply ∧
      (s.sweep k).engine = s.engine ∧
      (s.sweep k).report = s.report ∧
      (s.sweep k).pins = s.pins ∧
      (s.sweep k).pending = s.pending ∧
      (s.sweep k).exchange.mem = s.exchange.mem ∧
      (s.sweep k).exchange.link = s.exchange.link ∧
      (s.sweep k).exchange.frame = s.exchange.frame ∧
      (s.sweep k).exchange.ignoring = s.exchange.ignoring ∧
      (s.sweep k).exchange.enable = s.exchange.enable ∧
      (s.sweep k).exchange.mirrorHolder = s.exchange.mirrorHolder ∧
      (s.sweep k).exchange.stageHolder = s.exchange.stageHolder ∧
      (s.sweep k).exchange.linkRequest = s.exchange.linkRequest ∧
      (s.sweep k).exchange.hold = s.exchange.hold ∧
      (s.sweep k).exchange.answersTold = s.exchange.answersTold ∧
      (s.sweep k).exchange.resetPending = s.exchange.resetPending ∧
      (s.sweep k).exchange.miso = s.exchange.miso := by
  refine ⟨?_, ?_, ?_, ?_, ?_, ?_, ?_, ?_, ?_, ?_, ?_, ?_, ?_, ?_, ?_, ?_, ?_, ?_, ?_, ?_, ?_, ?_, ?_⟩ <;>
    (simp only [State.sweep]; repeat' split) <;> simp

@[simp] theorem State.testSweep_frame  :
    (s.testSweep).energy = s.energy ∧
      (s.testSweep).calendar = s.calendar ∧
      (s.testSweep).credit = s.credit ∧
      (s.testSweep).code = s.code ∧
      (s.testSweep).switch = s.switch ∧
      (s.testSweep).supply = s.supply ∧
      (s.testSweep).engine = s.engine ∧
      (s.testSweep).report = s.report ∧
      (s.testSweep).pins = s.pins ∧
      (s.testSweep).pending = s.pending ∧
      (s.testSweep).exchange.mem = s.exchange.mem ∧
      (s.testSweep).exchange.link = s.exchange.link ∧
      (s.testSweep).exchange.frame = s.exchange.frame ∧
      (s.testSweep).exchange.ignoring = s.exchange.ignoring ∧
      (s.testSweep).exchange.enable = s.exchange.enable ∧
      (s.testSweep).exchange.mirrorHolder = s.exchange.mirrorHolder ∧
      (s.testSweep).exchange.stageHolder = s.exchange.stageHolder ∧
      (s.testSweep).exchange.linkRequest = s.exchange.linkRequest ∧
      (s.testSweep).exchange.hold = s.exchange.hold ∧
      (s.testSweep).exchange.answersTold = s.exchange.answersTold ∧
      (s.testSweep).exchange.resetPending = s.exchange.resetPending ∧
      (s.testSweep).exchange.miso = s.exchange.miso := by
  refine ⟨?_, ?_, ?_, ?_, ?_, ?_, ?_, ?_, ?_, ?_, ?_, ?_, ?_, ?_, ?_, ?_, ?_, ?_, ?_, ?_, ?_, ?_⟩ <;>
    (simp only [State.testSweep]; repeat' split) <;> simp

@[simp] theorem State.finishWrite_frame (order : OrderId) (x : SettingId) (clamped : Bool) (applied : Nat) :
    (s.finishWrite order x clamped applied).energy = s.energy ∧
      (s.finishWrite order x clamped applied).calendar = s.calendar ∧
      (s.finishWrite order x clamped applied).credit = s.credit ∧
      (s.finishWrite order x clamped applied).code = s.code ∧
      (s.finishWrite order x clamped applied).switch = s.switch ∧
      (s.finishWrite order x clamped applied).tamper = s.tamper ∧
      (s.finishWrite order x clamped applied).supply = s.supply ∧
      (s.finishWrite order x clamped applied).engine = s.engine ∧
      (s.finishWrite order x clamped applied).report = s.report ∧
      (s.finishWrite order x clamped applied).pins = s.pins ∧
      (s.finishWrite order x clamped applied).pending = s.pending ∧
      (s.finishWrite order x clamped applied).exchange.mem = s.exchange.mem ∧
      (s.finishWrite order x clamped applied).exchange.link = s.exchange.link ∧
      (s.finishWrite order x clamped applied).exchange.frame = s.exchange.frame ∧
      (s.finishWrite order x clamped applied).exchange.ignoring = s.exchange.ignoring ∧
      (s.finishWrite order x clamped applied).exchange.enable = s.exchange.enable ∧
      (s.finishWrite order x clamped applied).exchange.mirrorHolder = s.exchange.mirrorHolder ∧
      (s.finishWrite order x clamped applied).exchange.stageHolder = s.exchange.stageHolder ∧
      (s.finishWrite order x clamped applied).exchange.linkRequest = s.exchange.linkRequest ∧
      (s.finishWrite order x clamped applied).exchange.hold = s.exchange.hold ∧
      (s.finishWrite order x clamped applied).exchange.answersTold = s.exchange.answersTold ∧
      (s.finishWrite order x clamped applied).exchange.resetPending = s.exchange.resetPending ∧
      (s.finishWrite order x clamped applied).exchange.miso = s.exchange.miso := by
  refine ⟨?_, ?_, ?_, ?_, ?_, ?_, ?_, ?_, ?_, ?_, ?_, ?_, ?_, ?_, ?_, ?_, ?_, ?_, ?_, ?_, ?_, ?_, ?_⟩ <;>
    (simp only [State.finishWrite]; simp)

@[simp] theorem State.writeNewsTaken_frame (n : Neighbour) :
    (s.writeNewsTaken n).energy = s.energy ∧
      (s.writeNewsTaken n).calendar = s.calendar ∧
      (s.writeNewsTaken n).credit = s.credit ∧
      (s.writeNewsTaken n).code = s.code ∧
      (s.writeNewsTaken n).switch = s.switch ∧
      (s.writeNewsTaken n).tamper = s.tamper ∧
      (s.writeNewsTaken n).supply = s.supply ∧
      (s.writeNewsTaken n).engine = s.engine ∧
      (s.writeNewsTaken n).report = s.report ∧
      (s.writeNewsTaken n).pins = s.pins ∧
      (s.writeNewsTaken n).pending = s.pending ∧
      (s.writeNewsTaken n).exchange.mem = s.exchange.mem ∧
      (s.writeNewsTaken n).exchange.link = s.exchange.link ∧
      (s.writeNewsTaken n).exchange.frame = s.exchange.frame ∧
      (s.writeNewsTaken n).exchange.ignoring = s.exchange.ignoring ∧
      (s.writeNewsTaken n).exchange.enable = s.exchange.enable ∧
      (s.writeNewsTaken n).exchange.mirrorHolder = s.exchange.mirrorHolder ∧
      (s.writeNewsTaken n).exchange.stageHolder = s.exchange.stageHolder ∧
      (s.writeNewsTaken n).exchange.linkRequest = s.exchange.linkRequest ∧
      (s.writeNewsTaken n).exchange.hold = s.exchange.hold ∧
      (s.writeNewsTaken n).exchange.answersTold = s.exchange.answersTold ∧
      (s.writeNewsTaken n).exchange.resetPending = s.exchange.resetPending ∧
      (s.writeNewsTaken n).exchange.miso = s.exchange.miso := by
  refine ⟨?_, ?_, ?_, ?_, ?_, ?_, ?_, ?_, ?_, ?_, ?_, ?_, ?_, ?_, ?_, ?_, ?_, ?_, ?_, ?_, ?_, ?_, ?_⟩ <;>
    (simp only [State.writeNewsTaken]; repeat' split) <;> simp

@[simp] theorem State.finishService_frame (order : Option OrderId) :
    (s.finishService order).energy = s.energy ∧
      (s.finishService order).calendar = s.calendar ∧
      (s.finishService order).credit = s.credit ∧
      (s.finishService order).switch = s.switch ∧
      (s.finishService order).tamper = s.tamper ∧
      (s.finishService order).supply = s.supply ∧
      (s.finishService order).engine = s.engine ∧
      (s.finishService order).report = s.report ∧
      (s.finishService order).pins = s.pins ∧
      (s.finishService order).pending = s.pending ∧
      (s.finishService order).exchange = s.exchange := by
  refine ⟨?_, ?_, ?_, ?_, ?_, ?_, ?_, ?_, ?_, ?_, ?_⟩ <;>
    (simp only [State.finishService]; repeat' split) <;> simp

@[simp] theorem State.serviceNewsTaken_frame (credit : Bool) :
    (s.serviceNewsTaken credit).energy = s.energy ∧
      (s.serviceNewsTaken credit).calendar = s.calendar ∧
      (s.serviceNewsTaken credit).credit = s.credit ∧
      (s.serviceNewsTaken credit).switch = s.switch ∧
      (s.serviceNewsTaken credit).tamper = s.tamper ∧
      (s.serviceNewsTaken credit).supply = s.supply ∧
      (s.serviceNewsTaken credit).engine = s.engine ∧
      (s.serviceNewsTaken credit).report = s.report ∧
      (s.serviceNewsTaken credit).pins = s.pins ∧
      (s.serviceNewsTaken credit).pending = s.pending ∧
      (s.serviceNewsTaken credit).exchange = s.exchange := by
  refine ⟨?_, ?_, ?_, ?_, ?_, ?_, ?_, ?_, ?_, ?_, ?_⟩ <;>
    (simp only [State.serviceNewsTaken]; repeat' split) <;> simp

@[simp] theorem State.writeTo_frame (order : OrderId) (x : SettingId) (v : Nat) :
    (s.writeTo order x v).energy = s.energy ∧
      (s.writeTo order x v).calendar = s.calendar ∧
      (s.writeTo order x v).credit = s.credit ∧
      (s.writeTo order x v).code = s.code ∧
      (s.writeTo order x v).switch = s.switch ∧
      (s.writeTo order x v).tamper = s.tamper ∧
      (s.writeTo order x v).supply = s.supply ∧
      (s.writeTo order x v).engine = s.engine ∧
      (s.writeTo order x v).report = s.report ∧
      (s.writeTo order x v).pins = s.pins ∧
      (s.writeTo order x v).pending = s.pending ∧
      (s.writeTo order x v).exchange.mem = s.exchange.mem ∧
      (s.writeTo order x v).exchange.link = s.exchange.link ∧
      (s.writeTo order x v).exchange.frame = s.exchange.frame ∧
      (s.writeTo order x v).exchange.ignoring = s.exchange.ignoring ∧
      (s.writeTo order x v).exchange.enable = s.exchange.enable ∧
      (s.writeTo order x v).exchange.mirrorHolder = s.exchange.mirrorHolder ∧
      (s.writeTo order x v).exchange.stageHolder = s.exchange.stageHolder ∧
      (s.writeTo order x v).exchange.linkRequest = s.exchange.linkRequest ∧
      (s.writeTo order x v).exchange.hold = s.exchange.hold ∧
      (s.writeTo order x v).exchange.answersTold = s.exchange.answersTold ∧
      (s.writeTo order x v).exchange.resetPending = s.exchange.resetPending ∧
      (s.writeTo order x v).exchange.miso = s.exchange.miso := by
  refine ⟨?_, ?_, ?_, ?_, ?_, ?_, ?_, ?_, ?_, ?_, ?_, ?_, ?_, ?_, ?_, ?_, ?_, ?_, ?_, ?_, ?_, ?_, ?_⟩ <;>
    (simp only [State.writeTo]; repeat' split) <;> simp

@[simp] theorem State.writeSetting_frame (order : OrderId) (id : Byte) (value : BitVec 64) :
    (s.writeSetting order id value).energy = s.energy ∧
      (s.writeSetting order id value).calendar = s.calendar ∧
      (s.writeSetting order id value).credit = s.credit ∧
      (s.writeSetting order id value).code = s.code ∧
      (s.writeSetting order id value).switch = s.switch ∧
      (s.writeSetting order id value).tamper = s.tamper ∧
      (s.writeSetting order id value).supply = s.supply ∧
      (s.writeSetting order id value).engine = s.engine ∧
      (s.writeSetting order id value).report = s.report ∧
      (s.writeSetting order id value).pins = s.pins ∧
      (s.writeSetting order id value).pending = s.pending ∧
      (s.writeSetting order id value).exchange.mem = s.exchange.mem ∧
      (s.writeSetting order id value).exchange.link = s.exchange.link ∧
      (s.writeSetting order id value).exchange.frame = s.exchange.frame ∧
      (s.writeSetting order id value).exchange.ignoring = s.exchange.ignoring ∧
      (s.writeSetting order id value).exchange.enable = s.exchange.enable ∧
      (s.writeSetting order id value).exchange.mirrorHolder = s.exchange.mirrorHolder ∧
      (s.writeSetting order id value).exchange.stageHolder = s.exchange.stageHolder ∧
      (s.writeSetting order id value).exchange.linkRequest = s.exchange.linkRequest ∧
      (s.writeSetting order id value).exchange.hold = s.exchange.hold ∧
      (s.writeSetting order id value).exchange.answersTold = s.exchange.answersTold ∧
      (s.writeSetting order id value).exchange.resetPending = s.exchange.resetPending ∧
      (s.writeSetting order id value).exchange.miso = s.exchange.miso := by
  refine ⟨?_, ?_, ?_, ?_, ?_, ?_, ?_, ?_, ?_, ?_, ?_, ?_, ?_, ?_, ?_, ?_, ?_, ?_, ?_, ?_, ?_, ?_, ?_⟩ <;>
    (simp only [State.writeSetting]; repeat' split) <;> simp

@[simp] theorem State.changeService_frame (new : ServiceState) (order : Option OrderId) :
    (s.changeService new order).energy = s.energy ∧
      (s.changeService new order).calendar = s.calendar ∧
      (s.changeService new order).credit = s.credit ∧
      (s.changeService new order).code = s.code ∧
      (s.changeService new order).switch = s.switch ∧
      (s.changeService new order).tamper = s.tamper ∧
      (s.changeService new order).supply = s.supply ∧
      (s.changeService new order).engine = s.engine ∧
      (s.changeService new order).report = s.report ∧
      (s.changeService new order).pins = s.pins ∧
      (s.changeService new order).pending = s.pending ∧
      (s.changeService new order).exchange = s.exchange := by
  refine ⟨?_, ?_, ?_, ?_, ?_, ?_, ?_, ?_, ?_, ?_, ?_, ?_⟩ <;>
    (simp only [State.changeService]; simp)

@[simp] theorem State.enterService_frame (order : OrderId) :
    (s.enterService order).energy = s.energy ∧
      (s.enterService order).calendar = s.calendar ∧
      (s.enterService order).credit = s.credit ∧
      (s.enterService order).code = s.code ∧
      (s.enterService order).switch = s.switch ∧
      (s.enterService order).tamper = s.tamper ∧
      (s.enterService order).supply = s.supply ∧
      (s.enterService order).engine = s.engine ∧
      (s.enterService order).report = s.report ∧
      (s.enterService order).pins = s.pins ∧
      (s.enterService order).pending = s.pending ∧
      (s.enterService order).exchange = s.exchange := by
  refine ⟨?_, ?_, ?_, ?_, ?_, ?_, ?_, ?_, ?_, ?_, ?_, ?_⟩ <;>
    (simp only [State.enterService]; repeat' split) <;> simp

@[simp] theorem State.settingsSecond_frame  :
    (s.settingsSecond).energy = s.energy ∧
      (s.settingsSecond).calendar = s.calendar ∧
      (s.settingsSecond).credit = s.credit ∧
      (s.settingsSecond).code = s.code ∧
      (s.settingsSecond).switch = s.switch ∧
      (s.settingsSecond).tamper = s.tamper ∧
      (s.settingsSecond).supply = s.supply ∧
      (s.settingsSecond).engine = s.engine ∧
      (s.settingsSecond).report = s.report ∧
      (s.settingsSecond).pins = s.pins ∧
      (s.settingsSecond).pending = s.pending ∧
      (s.settingsSecond).exchange.mem = s.exchange.mem ∧
      (s.settingsSecond).exchange.link = s.exchange.link ∧
      (s.settingsSecond).exchange.frame = s.exchange.frame ∧
      (s.settingsSecond).exchange.ignoring = s.exchange.ignoring ∧
      (s.settingsSecond).exchange.enable = s.exchange.enable ∧
      (s.settingsSecond).exchange.mirrorHolder = s.exchange.mirrorHolder ∧
      (s.settingsSecond).exchange.stageHolder = s.exchange.stageHolder ∧
      (s.settingsSecond).exchange.linkRequest = s.exchange.linkRequest ∧
      (s.settingsSecond).exchange.hold = s.exchange.hold ∧
      (s.settingsSecond).exchange.answersTold = s.exchange.answersTold ∧
      (s.settingsSecond).exchange.resetPending = s.exchange.resetPending ∧
      (s.settingsSecond).exchange.miso = s.exchange.miso := by
  refine ⟨?_, ?_, ?_, ?_, ?_, ?_, ?_, ?_, ?_, ?_, ?_, ?_, ?_, ?_, ?_, ?_, ?_, ?_, ?_, ?_, ?_, ?_, ?_⟩ <;>
    (simp only [State.settingsSecond]; repeat' split) <;> simp

end Sys2Proof.Machine
end

