-- ==== Sys2Proof/Laws/Calendars.lean ====
section
/-! SUPPORT. What each operation of Machine/Calendars.lean leaves as it stands, once for each operation. -/

namespace Sys2Proof.Machine

variable (s : State)

@[simp] theorem State.reevaluate_frame  :
    (s.reevaluate).energy = s.energy ∧
      (s.reevaluate).credit = s.credit ∧
      (s.reevaluate).code = s.code ∧
      (s.reevaluate).switch = s.switch ∧
      (s.reevaluate).tamper = s.tamper ∧
      (s.reevaluate).supply = s.supply ∧
      (s.reevaluate).settings = s.settings ∧
      (s.reevaluate).engine = s.engine ∧
      (s.reevaluate).report = s.report ∧
      (s.reevaluate).pins = s.pins ∧
      (s.reevaluate).pending = s.pending ∧
      (s.reevaluate).exchange = s.exchange := by
  refine ⟨?_, ?_, ?_, ?_, ?_, ?_, ?_, ?_, ?_, ?_, ?_, ?_⟩ <;>
    (simp only [State.reevaluate]; repeat' split) <;> simp

@[simp] theorem State.deliverSecond_frame  :
    (s.deliverSecond).energy = s.energy ∧
      (s.deliverSecond).calendar = s.calendar ∧
      (s.deliverSecond).credit = s.credit ∧
      (s.deliverSecond).code = s.code ∧
      (s.deliverSecond).switch = s.switch ∧
      (s.deliverSecond).tamper = s.tamper ∧
      (s.deliverSecond).supply = s.supply ∧
      (s.deliverSecond).settings = s.settings ∧
      (s.deliverSecond).engine = s.engine ∧
      (s.deliverSecond).report = s.report ∧
      (s.deliverSecond).pins = s.pins ∧
      (s.deliverSecond).pending = s.pending ∧
      (s.deliverSecond).exchange = s.exchange := by
  refine ⟨?_, ?_, ?_, ?_, ?_, ?_, ?_, ?_, ?_, ?_, ?_, ?_, ?_⟩ <;>
    (simp only [State.deliverSecond]; simp)

@[simp] theorem State.tick_frame  :
    (s.tick).energy = s.energy ∧
      (s.tick).credit = s.credit ∧
      (s.tick).code = s.code ∧
      (s.tick).switch = s.switch ∧
      (s.tick).tamper = s.tamper ∧
      (s.tick).settings = s.settings ∧
      (s.tick).engine = s.engine ∧
      (s.tick).report = s.report ∧
      (s.tick).pins = s.pins ∧
      (s.tick).pending = s.pending ∧
      (s.tick).exchange = s.exchange := by
  refine ⟨?_, ?_, ?_, ?_, ?_, ?_, ?_, ?_, ?_, ?_, ?_⟩ <;>
    (simp only [State.tick]; repeat' split) <;> simp

@[simp] theorem State.applySet_frame (delta : Int) :
    (s.applySet delta).energy = s.energy ∧
      (s.applySet delta).credit = s.credit ∧
      (s.applySet delta).code = s.code ∧
      (s.applySet delta).switch = s.switch ∧
      (s.applySet delta).tamper = s.tamper ∧
      (s.applySet delta).supply = s.supply ∧
      (s.applySet delta).settings = s.settings ∧
      (s.applySet delta).engine = s.engine ∧
      (s.applySet delta).report = s.report ∧
      (s.applySet delta).pins = s.pins ∧
      (s.applySet delta).pending = s.pending ∧
      (s.applySet delta).exchange = s.exchange := by
  refine ⟨?_, ?_, ?_, ?_, ?_, ?_, ?_, ?_, ?_, ?_, ?_, ?_⟩ <;>
    (simp only [State.applySet]; repeat' split) <;> simp

@[simp] theorem State.setTime_frame (order : OrderId) (target : BitVec 32) :
    (s.setTime order target).energy = s.energy ∧
      (s.setTime order target).credit = s.credit ∧
      (s.setTime order target).code = s.code ∧
      (s.setTime order target).switch = s.switch ∧
      (s.setTime order target).tamper = s.tamper ∧
      (s.setTime order target).supply = s.supply ∧
      (s.setTime order target).settings = s.settings ∧
      (s.setTime order target).engine = s.engine ∧
      (s.setTime order target).report = s.report ∧
      (s.setTime order target).pins = s.pins ∧
      (s.setTime order target).pending = s.pending ∧
      (s.setTime order target).exchange = s.exchange := by
  refine ⟨?_, ?_, ?_, ?_, ?_, ?_, ?_, ?_, ?_, ?_, ?_, ?_⟩ <;>
    (simp only [State.setTime]; repeat' split) <;> simp

@[simp] theorem State.takeImage_frame (order : OrderId) (image : List Byte) :
    (s.takeImage order image).energy = s.energy ∧
      (s.takeImage order image).credit = s.credit ∧
      (s.takeImage order image).code = s.code ∧
      (s.takeImage order image).switch = s.switch ∧
      (s.takeImage order image).tamper = s.tamper ∧
      (s.takeImage order image).supply = s.supply ∧
      (s.takeImage order image).settings = s.settings ∧
      (s.takeImage order image).engine = s.engine ∧
      (s.takeImage order image).report = s.report ∧
      (s.takeImage order image).pins = s.pins ∧
      (s.takeImage order image).pending = s.pending ∧
      (s.takeImage order image).exchange = s.exchange := by
  refine ⟨?_, ?_, ?_, ?_, ?_, ?_, ?_, ?_, ?_, ?_, ?_, ?_⟩ <;>
    (simp only [State.takeImage]; repeat' split) <;> simp

/-- All that a re-evaluation of the band and the friendly flag does. -/
theorem State.reevaluate_eq : s.reevaluate =
    { s with
      calendar := s.calendar.evaluated,
      inFlight := s.inFlight ++ if s.calendar.evaluated.friendly = s.calendar.friendly then [] else
        [.friendlyFlagNews s.calendar.evaluated.friendly] } := by
  simp only [State.reevaluate, State.onCalendar]
  split <;> simp_all [State.send]

end Sys2Proof.Machine
end

