-- ==== Sys2Proof/Laws/Credits.lean ====
section
/-! SUPPORT. What each operation of Machine/Credits.lean leaves as it stands, once for each operation. -/

namespace Sys2Proof.Machine

variable (s : State)

@[simp] theorem State.reevaluateCredit_frame (resend : Bool) :
    (s.reevaluateCredit resend).energy = s.energy ∧
      (s.reevaluateCredit resend).calendar = s.calendar ∧
      (s.reevaluateCredit resend).code = s.code ∧
      (s.reevaluateCredit resend).switch = s.switch ∧
      (s.reevaluateCredit resend).tamper = s.tamper ∧
      (s.reevaluateCredit resend).supply = s.supply ∧
      (s.reevaluateCredit resend).settings = s.settings ∧
      (s.reevaluateCredit resend).engine = s.engine ∧
      (s.reevaluateCredit resend).report = s.report ∧
      (s.reevaluateCredit resend).pins = s.pins ∧
      (s.reevaluateCredit resend).pending = s.pending ∧
      (s.reevaluateCredit resend).exchange = s.exchange := by
  refine ⟨?_, ?_, ?_, ?_, ?_, ?_, ?_, ?_, ?_, ?_, ?_, ?_⟩ <;>
    (simp only [State.reevaluateCredit]; repeat' split) <;> simp

@[simp] theorem State.recordCreditState_frame (cause : CreditCause) :
    (s.recordCreditState cause).energy = s.energy ∧
      (s.recordCreditState cause).calendar = s.calendar ∧
      (s.recordCreditState cause).code = s.code ∧
      (s.recordCreditState cause).switch = s.switch ∧
      (s.recordCreditState cause).tamper = s.tamper ∧
      (s.recordCreditState cause).supply = s.supply ∧
      (s.recordCreditState cause).settings = s.settings ∧
      (s.recordCreditState cause).engine = s.engine ∧
      (s.recordCreditState cause).report = s.report ∧
      (s.recordCreditState cause).pins = s.pins ∧
      (s.recordCreditState cause).pending = s.pending ∧
      (s.recordCreditState cause).exchange.mem = s.exchange.mem ∧
      (s.recordCreditState cause).exchange.link = s.exchange.link ∧
      (s.recordCreditState cause).exchange.frame = s.exchange.frame ∧
      (s.recordCreditState cause).exchange.ignoring = s.exchange.ignoring ∧
      (s.recordCreditState cause).exchange.enable = s.exchange.enable ∧
      (s.recordCreditState cause).exchange.mirrorHolder = s.exchange.mirrorHolder ∧
      (s.recordCreditState cause).exchange.stageHolder = s.exchange.stageHolder ∧
      (s.recordCreditState cause).exchange.linkRequest = s.exchange.linkRequest ∧
      (s.recordCreditState cause).exchange.hold = s.exchange.hold ∧
      (s.recordCreditState cause).exchange.answersTold = s.exchange.answersTold ∧
      (s.recordCreditState cause).exchange.resetPending = s.exchange.resetPending ∧
      (s.recordCreditState cause).exchange.miso = s.exchange.miso := by
  refine ⟨?_, ?_, ?_, ?_, ?_, ?_, ?_, ?_, ?_, ?_, ?_, ?_, ?_, ?_, ?_, ?_, ?_, ?_, ?_, ?_, ?_, ?_, ?_⟩ <;>
    (simp only [State.recordCreditState]; repeat' split) <;> simp

@[simp] theorem State.evaluateCredit_frame (cause : CreditCause) :
    (s.evaluateCredit cause).energy = s.energy ∧
      (s.evaluateCredit cause).calendar = s.calendar ∧
      (s.evaluateCredit cause).code = s.code ∧
      (s.evaluateCredit cause).switch = s.switch ∧
      (s.evaluateCredit cause).tamper = s.tamper ∧
      (s.evaluateCredit cause).supply = s.supply ∧
      (s.evaluateCredit cause).settings = s.settings ∧
      (s.evaluateCredit cause).engine = s.engine ∧
      (s.evaluateCredit cause).report = s.report ∧
      (s.evaluateCredit cause).pins = s.pins ∧
      (s.evaluateCredit cause).pending = s.pending ∧
      (s.evaluateCredit cause).exchange.mem = s.exchange.mem ∧
      (s.evaluateCredit cause).exchange.link = s.exchange.link ∧
      (s.evaluateCredit cause).exchange.frame = s.exchange.frame ∧
      (s.evaluateCredit cause).exchange.ignoring = s.exchange.ignoring ∧
      (s.evaluateCredit cause).exchange.enable = s.exchange.enable ∧
      (s.evaluateCredit cause).exchange.mirrorHolder = s.exchange.mirrorHolder ∧
      (s.evaluateCredit cause).exchange.stageHolder = s.exchange.stageHolder ∧
      (s.evaluateCredit cause).exchange.linkRequest = s.exchange.linkRequest ∧
      (s.evaluateCredit cause).exchange.hold = s.exchange.hold ∧
      (s.evaluateCredit cause).exchange.answersTold = s.exchange.answersTold ∧
      (s.evaluateCredit cause).exchange.resetPending = s.exchange.resetPending ∧
      (s.evaluateCredit cause).exchange.miso = s.exchange.miso := by
  refine ⟨?_, ?_, ?_, ?_, ?_, ?_, ?_, ?_, ?_, ?_, ?_, ?_, ?_, ?_, ?_, ?_, ?_, ?_, ?_, ?_, ?_, ?_, ?_⟩ <;>
    (simp only [State.evaluateCredit]; repeat' split) <;> simp

@[simp] theorem State.chargeBlock_frame (billed : Nat) :
    (s.chargeBlock billed).energy = s.energy ∧
      (s.chargeBlock billed).calendar = s.calendar ∧
      (s.chargeBlock billed).code = s.code ∧
      (s.chargeBlock billed).switch = s.switch ∧
      (s.chargeBlock billed).tamper = s.tamper ∧
      (s.chargeBlock billed).supply = s.supply ∧
      (s.chargeBlock billed).settings = s.settings ∧
      (s.chargeBlock billed).engine = s.engine ∧
      (s.chargeBlock billed).report = s.report ∧
      (s.chargeBlock billed).pins = s.pins ∧
      (s.chargeBlock billed).pending = s.pending ∧
      (s.chargeBlock billed).exchange.mem = s.exchange.mem ∧
      (s.chargeBlock billed).exchange.link = s.exchange.link ∧
      (s.chargeBlock billed).exchange.frame = s.exchange.frame ∧
      (s.chargeBlock billed).exchange.ignoring = s.exchange.ignoring ∧
      (s.chargeBlock billed).exchange.enable = s.exchange.enable ∧
      (s.chargeBlock billed).exchange.mirrorHolder = s.exchange.mirrorHolder ∧
      (s.chargeBlock billed).exchange.stageHolder = s.exchange.stageHolder ∧
      (s.chargeBlock billed).exchange.linkRequest = s.exchange.linkRequest ∧
      (s.chargeBlock billed).exchange.hold = s.exchange.hold ∧
      (s.chargeBlock billed).exchange.answersTold = s.exchange.answersTold ∧
      (s.chargeBlock billed).exchange.resetPending = s.exchange.resetPending ∧
      (s.chargeBlock billed).exchange.miso = s.exchange.miso := by
  refine ⟨?_, ?_, ?_, ?_, ?_, ?_, ?_, ?_, ?_, ?_, ?_, ?_, ?_, ?_, ?_, ?_, ?_, ?_, ?_, ?_, ?_, ?_, ?_⟩ <;>
    (simp only [State.chargeBlock]; repeat' split) <;> simp

@[simp] theorem State.hourRule_frame  :
    (s.hourRule).energy = s.energy ∧
      (s.hourRule).calendar = s.calendar ∧
      (s.hourRule).code = s.code ∧
      (s.hourRule).switch = s.switch ∧
      (s.hourRule).tamper = s.tamper ∧
      (s.hourRule).supply = s.supply ∧
      (s.hourRule).settings = s.settings ∧
      (s.hourRule).engine = s.engine ∧
      (s.hourRule).report = s.report ∧
      (s.hourRule).pins = s.pins ∧
      (s.hourRule).pending = s.pending ∧
      (s.hourRule).exchange.mem = s.exchange.mem ∧
      (s.hourRule).exchange.link = s.exchange.link ∧
      (s.hourRule).exchange.frame = s.exchange.frame ∧
      (s.hourRule).exchange.ignoring = s.exchange.ignoring ∧
      (s.hourRule).exchange.enable = s.exchange.enable ∧
      (s.hourRule).exchange.mirrorHolder = s.exchange.mirrorHolder ∧
      (s.hourRule).exchange.stageHolder = s.exchange.stageHolder ∧
      (s.hourRule).exchange.linkRequest = s.exchange.linkRequest ∧
      (s.hourRule).exchange.hold = s.exchange.hold ∧
      (s.hourRule).exchange.answersTold = s.exchange.answersTold ∧
      (s.hourRule).exchange.resetPending = s.exchange.resetPending ∧
      (s.hourRule).exchange.miso = s.exchange.miso := by
  refine ⟨?_, ?_, ?_, ?_, ?_, ?_, ?_, ?_, ?_, ?_, ?_, ?_, ?_, ?_, ?_, ?_, ?_, ?_, ?_, ?_, ?_, ?_, ?_⟩ <;>
    (simp only [State.hourRule]; repeat' split) <;> simp

@[simp] theorem State.drawEmergency_frame (order : OrderId) :
    (s.drawEmergency order).energy = s.energy ∧
      (s.drawEmergency order).calendar = s.calendar ∧
      (s.drawEmergency order).code = s.code ∧
      (s.drawEmergency order).switch = s.switch ∧
      (s.drawEmergency order).tamper = s.tamper ∧
      (s.drawEmergency order).supply = s.supply ∧
      (s.drawEmergency order).settings = s.settings ∧
      (s.drawEmergency order).engine = s.engine ∧
      (s.drawEmergency order).report = s.report ∧
      (s.drawEmergency order).pins = s.pins ∧
      (s.drawEmergency order).pending = s.pending ∧
      (s.drawEmergency order).exchange.mem = s.exchange.mem ∧
      (s.drawEmergency order).exchange.link = s.exchange.link ∧
      (s.drawEmergency order).exchange.frame = s.exchange.frame ∧
      (s.drawEmergency order).exchange.ignoring = s.exchange.ignoring ∧
      (s.drawEmergency order).exchange.enable = s.exchange.enable ∧
      (s.drawEmergency order).exchange.mirrorHolder = s.exchange.mirrorHolder ∧
      (s.drawEmergency order).exchange.stageHolder = s.exchange.stageHolder ∧
      (s.drawEmergency order).exchange.linkRequest = s.exchange.linkRequest ∧
      (s.drawEmergency order).exchange.hold = s.exchange.hold ∧
      (s.drawEmergency order).exchange.answersTold = s.exchange.answersTold ∧
      (s.drawEmergency order).exchange.resetPending = s.exchange.resetPending ∧
      (s.drawEmergency order).exchange.miso = s.exchange.miso := by
  refine ⟨?_, ?_, ?_, ?_, ?_, ?_, ?_, ?_, ?_, ?_, ?_, ?_, ?_, ?_, ?_, ?_, ?_, ?_, ?_, ?_, ?_, ?_, ?_⟩ <;>
    (simp only [State.drawEmergency]; repeat' split) <;> simp

@[simp] theorem State.takeTopUp_frame (amount : Nat) :
    (s.takeTopUp amount).energy = s.energy ∧
      (s.takeTopUp amount).calendar = s.calendar ∧
      (s.takeTopUp amount).switch = s.switch ∧
      (s.takeTopUp amount).tamper = s.tamper ∧
      (s.takeTopUp amount).supply = s.supply ∧
      (s.takeTopUp amount).settings = s.settings ∧
      (s.takeTopUp amount).engine = s.engine ∧
      (s.takeTopUp amount).report = s.report ∧
      (s.takeTopUp amount).pins = s.pins ∧
      (s.takeTopUp amount).pending = s.pending ∧
      (s.takeTopUp amount).exchange.mem = s.exchange.mem ∧
      (s.takeTopUp amount).exchange.link = s.exchange.link ∧
      (s.takeTopUp amount).exchange.frame = s.exchange.frame ∧
      (s.takeTopUp amount).exchange.ignoring = s.exchange.ignoring ∧
      (s.takeTopUp amount).exchange.enable = s.exchange.enable ∧
      (s.takeTopUp amount).exchange.mirrorHolder = s.exchange.mirrorHolder ∧
      (s.takeTopUp amount).exchange.stageHolder = s.exchange.stageHolder ∧
      (s.takeTopUp amount).exchange.linkRequest = s.exchange.linkRequest ∧
      (s.takeTopUp amount).exchange.hold = s.exchange.hold ∧
      (s.takeTopUp amount).exchange.answersTold = s.exchange.answersTold ∧
      (s.takeTopUp amount).exchange.resetPending = s.exchange.resetPending ∧
      (s.takeTopUp amount).exchange.miso = s.exchange.miso := by
  refine ⟨?_, ?_, ?_, ?_, ?_, ?_, ?_, ?_, ?_, ?_, ?_, ?_, ?_, ?_, ?_, ?_, ?_, ?_, ?_, ?_, ?_, ?_⟩ <;>
    (simp only [State.takeTopUp]; repeat' split) <;> simp

@[simp] theorem State.takeTable_frame (friendly : Option Bool) :
    (s.takeTable friendly).energy = s.energy ∧
      (s.takeTable friendly).calendar = s.calendar ∧
      (s.takeTable friendly).code = s.code ∧
      (s.takeTable friendly).switch = s.switch ∧
      (s.takeTable friendly).tamper = s.tamper ∧
      (s.takeTable friendly).supply = s.supply ∧
      (s.takeTable friendly).settings = s.settings ∧
      (s.takeTable friendly).engine = s.engine ∧
      (s.takeTable friendly).report = s.report ∧
      (s.takeTable friendly).pins = s.pins ∧
      (s.takeTable friendly).pending = s.pending ∧
      (s.takeTable friendly).exchange.mem = s.exchange.mem ∧
      (s.takeTable friendly).exchange.link = s.exchange.link ∧
      (s.takeTable friendly).exchange.frame = s.exchange.frame ∧
      (s.takeTable friendly).exchange.ignoring = s.exchange.ignoring ∧
      (s.takeTable friendly).exchange.enable = s.exchange.enable ∧
      (s.takeTable friendly).exchange.mirrorHolder = s.exchange.mirrorHolder ∧
      (s.takeTable friendly).exchange.stageHolder = s.exchange.stageHolder ∧
      (s.takeTable friendly).exchange.linkRequest = s.exchange.linkRequest ∧
      (s.takeTable friendly).exchange.hold = s.exchange.hold ∧
      (s.takeTable friendly).exchange.answersTold = s.exchange.answersTold ∧
      (s.takeTable friendly).exchange.resetPending = s.exchange.resetPending ∧
      (s.takeTable friendly).exchange.miso = s.exchange.miso := by
  refine ⟨?_, ?_, ?_, ?_, ?_, ?_, ?_, ?_, ?_, ?_, ?_, ?_, ?_, ?_, ?_, ?_, ?_, ?_, ?_, ?_, ?_, ?_, ?_⟩ <;>
    (simp only [State.takeTable]; simp)

/-! ### What a re-evaluation and an evaluation make -/

/-- All that a re-evaluation of the CREDIT reason does. -/
theorem State.reevaluateCredit_eq (resend : Bool) : s.reevaluateCredit resend =
    { s with
      credit := { s.credit with requested := creditCondition s.credit, deferral := deferralCondition s.credit },
      inFlight := s.inFlight ++ if resend = false ∧ creditCondition s.credit = s.credit.requested then [] else
        [.reasonRequest (creditCondition s.credit) .credit] } := by
  simp only [State.reevaluateCredit, State.onCredit, State.send]
  generalize creditCondition s.credit = w
  by_cases h : w = s.credit.requested
  · cases resend <;> simp [h]
  · cases resend <;> simp [h]

/-- All that the record of a credit state does. -/
theorem State.recordCreditState_eq (cause : CreditCause) (st : CreditState)
    (h : creditStateOf s.credit.c s.credit.em s.calendar.table.lowT s.calendar.table.ec = st) :
    s.recordCreditState cause =
      if st = s.credit.state then s
      else
        { s with
          credit := { s.credit with state := st },
          exchange := { s.exchange with notices := s.exchange.notices ||| 0x20#8 },
          inFlight := s.inFlight ++ [.entryArrival ⟨s.calendar.t, .credit s.credit.state st cause s.credit.c s.credit.b⟩] } := by
  subst h
  simp only [State.recordCreditState]
  split
  · rfl
  · simp [State.onCredit, State.journal, State.send, State.raise, State.onExchange, Notice.bit]

end Sys2Proof.Machine
end

