-- ==== Sys2Proof/Laws/Reports.lean ====
section
/-! SUPPORT. What each operation of Machine/Reports.lean leaves as it stands, once for each operation. -/

namespace Sys2Proof.Machine

variable (s : State)

@[simp] theorem State.handleEntry_frame (wr : Writer) (e : Entry) :
    (s.handleEntry wr e).energy = s.energy ∧
      (s.handleEntry wr e).calendar = s.calendar ∧
      (s.handleEntry wr e).credit = s.credit ∧
      (s.handleEntry wr e).code = s.code ∧
      (s.handleEntry wr e).switch = s.switch ∧
      (s.handleEntry wr e).tamper = s.tamper ∧
      (s.handleEntry wr e).supply = s.supply ∧
      (s.handleEntry wr e).settings = s.settings ∧
      (s.handleEntry wr e).engine = s.engine ∧
      (s.handleEntry wr e).pins = s.pins ∧
      (s.handleEntry wr e).pending = s.pending ∧
      (s.handleEntry wr e).exchange.mem = s.exchange.mem ∧
      (s.handleEntry wr e).exchange.link = s.exchange.link ∧
      (s.handleEntry wr e).exchange.frame = s.exchange.frame ∧
      (s.handleEntry wr e).exchange.ignoring = s.exchange.ignoring ∧
      (s.handleEntry wr e).exchange.enable = s.exchange.enable ∧
      (s.handleEntry wr e).exchange.mirrorHolder = s.exchange.mirrorHolder ∧
      (s.handleEntry wr e).exchange.stageHolder = s.exchange.stageHolder ∧
      (s.handleEntry wr e).exchange.linkRequest = s.exchange.linkRequest ∧
      (s.handleEntry wr e).exchange.hold = s.exchange.hold ∧
      (s.handleEntry wr e).exchange.answersTold = s.exchange.answersTold ∧
      (s.handleEntry wr e).exchange.resetPending = s.exchange.resetPending ∧
      (s.handleEntry wr e).exchange.miso = s.exchange.miso ∧
      (s.handleEntry wr e).inFlight = s.inFlight := by
  refine ⟨?_, ?_, ?_, ?_, ?_, ?_, ?_, ?_, ?_, ?_, ?_, ?_, ?_, ?_, ?_, ?_, ?_, ?_, ?_, ?_, ?_, ?_, ?_, ?_⟩ <;>
    (simp only [State.handleEntry]; repeat' split) <;> simp

@[simp] theorem State.finishEntry_frame  :
    (s.finishEntry).energy = s.energy ∧
      (s.finishEntry).calendar = s.calendar ∧
      (s.finishEntry).credit = s.credit ∧
      (s.finishEntry).code = s.code ∧
      (s.finishEntry).switch = s.switch ∧
      (s.finishEntry).tamper = s.tamper ∧
      (s.finishEntry).supply = s.supply ∧
      (s.finishEntry).settings = s.settings ∧
      (s.finishEntry).engine = s.engine ∧
      (s.finishEntry).pins = s.pins ∧
      (s.finishEntry).pending = s.pending ∧
      (s.finishEntry).exchange.link = s.exchange.link ∧
      (s.finishEntry).exchange.frame = s.exchange.frame ∧
      (s.finishEntry).exchange.ignoring = s.exchange.ignoring ∧
      (s.finishEntry).exchange.enable = s.exchange.enable ∧
      (s.finishEntry).exchange.mirrorHolder = s.exchange.mirrorHolder ∧
      (s.finishEntry).exchange.stageHolder = s.exchange.stageHolder ∧
      (s.finishEntry).exchange.linkRequest = s.exchange.linkRequest ∧
      (s.finishEntry).exchange.hold = s.exchange.hold ∧
      (s.finishEntry).exchange.answersTold = s.exchange.answersTold ∧
      (s.finishEntry).exchange.resetPending = s.exchange.resetPending ∧
      (s.finishEntry).exchange.miso = s.exchange.miso ∧
      (s.finishEntry).inFlight = s.inFlight := by
  refine ⟨?_, ?_, ?_, ?_, ?_, ?_, ?_, ?_, ?_, ?_, ?_, ?_, ?_, ?_, ?_, ?_, ?_, ?_, ?_, ?_, ?_, ?_, ?_⟩ <;>
    (simp only [State.finishEntry]; simp)

@[simp] theorem State.writeEntryAccess_frame (wr : Writer) (bytes : List Byte) (granted : Nat) :
    (s.writeEntryAccess wr bytes granted).energy = s.energy ∧
      (s.writeEntryAccess wr bytes granted).calendar = s.calendar ∧
      (s.writeEntryAccess wr bytes granted).credit = s.credit ∧
      (s.writeEntryAccess wr bytes granted).code = s.code ∧
      (s.writeEntryAccess wr bytes granted).switch = s.switch ∧
      (s.writeEntryAccess wr bytes granted).tamper = s.tamper ∧
      (s.writeEntryAccess wr bytes granted).supply = s.supply ∧
      (s.writeEntryAccess wr bytes granted).settings = s.settings ∧
      (s.writeEntryAccess wr bytes granted).engine = s.engine ∧
      (s.writeEntryAccess wr bytes granted).pins = s.pins ∧
      (s.writeEntryAccess wr bytes granted).pending = s.pending ∧
      (s.writeEntryAccess wr bytes granted).exchange.link = s.exchange.link ∧
      (s.writeEntryAccess wr bytes granted).exchange.frame = s.exchange.frame ∧
      (s.writeEntryAccess wr bytes granted).exchange.ignoring = s.exchange.ignoring ∧
      (s.writeEntryAccess wr bytes granted).exchange.enable = s.exchange.enable ∧
      (s.writeEntryAccess wr bytes granted).exchange.mirrorHolder = s.exchange.mirrorHolder ∧
      (s.writeEntryAccess wr bytes granted).exchange.stageHolder = s.exchange.stageHolder ∧
      (s.writeEntryAccess wr bytes granted).exchange.linkRequest = s.exchange.linkRequest ∧
      (s.writeEntryAccess wr bytes granted).exchange.hold = s.exchange.hold ∧
      (s.writeEntryAccess wr bytes granted).exchange.answersTold = s.exchange.answersTold ∧
      (s.writeEntryAccess wr bytes granted).exchange.resetPending = s.exchange.resetPending ∧
      (s.writeEntryAccess wr bytes granted).exchange.miso = s.exchange.miso ∧
      (s.writeEntryAccess wr bytes granted).inFlight = s.inFlight := by
  refine ⟨?_, ?_, ?_, ?_, ?_, ?_, ?_, ?_, ?_, ?_, ?_, ?_, ?_, ?_, ?_, ?_, ?_, ?_, ?_, ?_, ?_, ?_, ?_⟩ <;>
    (simp only [State.writeEntryAccess]; repeat' split) <;> simp

@[simp] theorem State.journalAccess_frame  :
    (s.journalAccess).energy = s.energy ∧
      (s.journalAccess).calendar = s.calendar ∧
      (s.journalAccess).credit = s.credit ∧
      (s.journalAccess).code = s.code ∧
      (s.journalAccess).switch = s.switch ∧
      (s.journalAccess).tamper = s.tamper ∧
      (s.journalAccess).supply = s.supply ∧
      (s.journalAccess).settings = s.settings ∧
      (s.journalAccess).engine = s.engine ∧
      (s.journalAccess).pins = s.pins ∧
      (s.journalAccess).pending = s.pending ∧
      (s.journalAccess).exchange.link = s.exchange.link ∧
      (s.journalAccess).exchange.frame = s.exchange.frame ∧
      (s.journalAccess).exchange.ignoring = s.exchange.ignoring ∧
      (s.journalAccess).exchange.enable = s.exchange.enable ∧
      (s.journalAccess).exchange.mirrorHolder = s.exchange.mirrorHolder ∧
      (s.journalAccess).exchange.stageHolder = s.exchange.stageHolder ∧
      (s.journalAccess).exchange.linkRequest = s.exchange.linkRequest ∧
      (s.journalAccess).exchange.hold = s.exchange.hold ∧
      (s.journalAccess).exchange.answersTold = s.exchange.answersTold ∧
      (s.journalAccess).exchange.resetPending = s.exchange.resetPending ∧
      (s.journalAccess).exchange.miso = s.exchange.miso ∧
      (s.journalAccess).inFlight = s.inFlight := by
  refine ⟨?_, ?_, ?_, ?_, ?_, ?_, ?_, ?_, ?_, ?_, ?_, ?_, ?_, ?_, ?_, ?_, ?_, ?_, ?_, ?_, ?_, ?_, ?_⟩ <;>
    (simp only [State.journalAccess]; repeat' split) <;> simp

@[simp] theorem State.beginPublication_frame  :
    (s.beginPublication).energy = s.energy ∧
      (s.beginPublication).calendar = s.calendar ∧
      (s.beginPublication).credit = s.credit ∧
      (s.beginPublication).switch = s.switch ∧
      (s.beginPublication).tamper = s.tamper ∧
      (s.beginPublication).supply = s.supply ∧
      (s.beginPublication).settings = s.settings ∧
      (s.beginPublication).engine = s.engine ∧
      (s.beginPublication).pins = s.pins ∧
      (s.beginPublication).pending = s.pending ∧
      (s.beginPublication).exchange.mem = s.exchange.mem ∧
      (s.beginPublication).exchange.link = s.exchange.link ∧
      (s.beginPublication).exchange.frame = s.exchange.frame ∧
      (s.beginPublication).exchange.ignoring = s.exchange.ignoring ∧
      (s.beginPublication).exchange.notices = s.exchange.notices ∧
      (s.beginPublication).exchange.enable = s.exchange.enable ∧
      (s.beginPublication).exchange.stageHolder = s.exchange.stageHolder ∧
      (s.beginPublication).exchange.linkRequest = s.exchange.linkRequest ∧
      (s.beginPublication).exchange.hold = s.exchange.hold ∧
      (s.beginPublication).exchange.answersTold = s.exchange.answersTold ∧
      (s.beginPublication).exchange.resetPending = s.exchange.resetPending ∧
      (s.beginPublication).exchange.miso = s.exchange.miso ∧
      (s.beginPublication).inFlight = s.inFlight := by
  refine ⟨?_, ?_, ?_, ?_, ?_, ?_, ?_, ?_, ?_, ?_, ?_, ?_, ?_, ?_, ?_, ?_, ?_, ?_, ?_, ?_, ?_, ?_, ?_⟩ <;>
    (simp only [State.beginPublication]; simp)

@[simp] theorem State.tryPublish_frame  :
    (s.tryPublish).energy = s.energy ∧
      (s.tryPublish).calendar = s.calendar ∧
      (s.tryPublish).credit = s.credit ∧
      (s.tryPublish).switch = s.switch ∧
      (s.tryPublish).tamper = s.tamper ∧
      (s.tryPublish).supply = s.supply ∧
      (s.tryPublish).settings = s.settings ∧
      (s.tryPublish).engine = s.engine ∧
      (s.tryPublish).pins = s.pins ∧
      (s.tryPublish).pending = s.pending ∧
      (s.tryPublish).exchange.mem = s.exchange.mem ∧
      (s.tryPublish).exchange.link = s.exchange.link ∧
      (s.tryPublish).exchange.frame = s.exchange.frame ∧
      (s.tryPublish).exchange.ignoring = s.exchange.ignoring ∧
      (s.tryPublish).exchange.notices = s.exchange.notices ∧
      (s.tryPublish).exchange.enable = s.exchange.enable ∧
      (s.tryPublish).exchange.stageHolder = s.exchange.stageHolder ∧
      (s.tryPublish).exchange.linkRequest = s.exchange.linkRequest ∧
      (s.tryPublish).exchange.hold = s.exchange.hold ∧
      (s.tryPublish).exchange.answersTold = s.exchange.answersTold ∧
      (s.tryPublish).exchange.resetPending = s.exchange.resetPending ∧
      (s.tryPublish).exchange.miso = s.exchange.miso ∧
      (s.tryPublish).inFlight = s.inFlight := by
  refine ⟨?_, ?_, ?_, ?_, ?_, ?_, ?_, ?_, ?_, ?_, ?_, ?_, ?_, ?_, ?_, ?_, ?_, ?_, ?_, ?_, ?_, ?_, ?_⟩ <;>
    (simp only [State.tryPublish]; repeat' split) <;> simp

@[simp] theorem State.publicationDue_frame  :
    (s.publicationDue).energy = s.energy ∧
      (s.publicationDue).calendar = s.calendar ∧
      (s.publicationDue).credit = s.credit ∧
      (s.publicationDue).switch = s.switch ∧
      (s.publicationDue).tamper = s.tamper ∧
      (s.publicationDue).supply = s.supply ∧
      (s.publicationDue).settings = s.settings ∧
      (s.publicationDue).engine = s.engine ∧
      (s.publicationDue).pins = s.pins ∧
      (s.publicationDue).pending = s.pending ∧
      (s.publicationDue).exchange.mem = s.exchange.mem ∧
      (s.publicationDue).exchange.link = s.exchange.link ∧
      (s.publicationDue).exchange.frame = s.exchange.frame ∧
      (s.publicationDue).exchange.ignoring = s.exchange.ignoring ∧
      (s.publicationDue).exchange.notices = s.exchange.notices ∧
      (s.publicationDue).exchange.enable = s.exchange.enable ∧
      (s.publicationDue).exchange.stageHolder = s.exchange.stageHolder ∧
      (s.publicationDue).exchange.linkRequest = s.exchange.linkRequest ∧
      (s.publicationDue).exchange.hold = s.exchange.hold ∧
      (s.publicationDue).exchange.answersTold = s.exchange.answersTold ∧
      (s.publicationDue).exchange.resetPending = s.exchange.resetPending ∧
      (s.publicationDue).exchange.miso = s.exchange.miso ∧
      (s.publicationDue).inFlight = s.inFlight := by
  refine ⟨?_, ?_, ?_, ?_, ?_, ?_, ?_, ?_, ?_, ?_, ?_, ?_, ?_, ?_, ?_, ?_, ?_, ?_, ?_, ?_, ?_, ?_, ?_⟩ <;>
    (simp only [State.publicationDue]; repeat' split) <;> simp

@[simp] theorem State.countBlock_frame  :
    (s.countBlock).energy = s.energy ∧
      (s.countBlock).calendar = s.calendar ∧
      (s.countBlock).credit = s.credit ∧
      (s.countBlock).switch = s.switch ∧
      (s.countBlock).tamper = s.tamper ∧
      (s.countBlock).supply = s.supply ∧
      (s.countBlock).settings = s.settings ∧
      (s.countBlock).engine = s.engine ∧
      (s.countBlock).pins = s.pins ∧
      (s.countBlock).pending = s.pending ∧
      (s.countBlock).exchange.mem = s.exchange.mem ∧
      (s.countBlock).exchange.link = s.exchange.link ∧
      (s.countBlock).exchange.frame = s.exchange.frame ∧
      (s.countBlock).exchange.ignoring = s.exchange.ignoring ∧
      (s.countBlock).exchange.notices = s.exchange.notices ∧
      (s.countBlock).exchange.enable = s.exchange.enable ∧
      (s.countBlock).exchange.stageHolder = s.exchange.stageHolder ∧
      (s.countBlock).exchange.linkRequest = s.exchange.linkRequest ∧
      (s.countBlock).exchange.hold = s.exchange.hold ∧
      (s.countBlock).exchange.answersTold = s.exchange.answersTold ∧
      (s.countBlock).exchange.resetPending = s.exchange.resetPending ∧
      (s.countBlock).exchange.miso = s.exchange.miso ∧
      (s.countBlock).inFlight = s.inFlight := by
  refine ⟨?_, ?_, ?_, ?_, ?_, ?_, ?_, ?_, ?_, ?_, ?_, ?_, ?_, ?_, ?_, ?_, ?_, ?_, ?_, ?_, ?_, ?_, ?_⟩ <;>
    (simp only [State.countBlock]; repeat' split) <;> simp

@[simp] theorem State.mirrorFreed_frame  :
    (s.mirrorFreed).energy = s.energy ∧
      (s.mirrorFreed).calendar = s.calendar ∧
      (s.mirrorFreed).credit = s.credit ∧
      (s.mirrorFreed).switch = s.switch ∧
      (s.mirrorFreed).tamper = s.tamper ∧
      (s.mirrorFreed).supply = s.supply ∧
      (s.mirrorFreed).settings = s.settings ∧
      (s.mirrorFreed).engine = s.engine ∧
      (s.mirrorFreed).pins = s.pins ∧
      (s.mirrorFreed).pending = s.pending ∧
      (s.mirrorFreed).exchange.mem = s.exchange.mem ∧
      (s.mirrorFreed).exchange.link = s.exchange.link ∧
      (s.mirrorFreed).exchange.frame = s.exchange.frame ∧
      (s.mirrorFreed).exchange.ignoring = s.exchange.ignoring ∧
      (s.mirrorFreed).exchange.notices = s.exchange.notices ∧
      (s.mirrorFreed).exchange.enable = s.exchange.enable ∧
      (s.mirrorFreed).exchange.stageHolder = s.exchange.stageHolder ∧
      (s.mirrorFreed).exchange.linkRequest = s.exchange.linkRequest ∧
      (s.mirrorFreed).exchange.hold = s.exchange.hold ∧
      (s.mirrorFreed).exchange.answersTold = s.exchange.answersTold ∧
      (s.mirrorFreed).exchange.resetPending = s.exchange.resetPending ∧
      (s.mirrorFreed).exchange.miso = s.exchange.miso ∧
      (s.mirrorFreed).inFlight = s.inFlight := by
  refine ⟨?_, ?_, ?_, ?_, ?_, ?_, ?_, ?_, ?_, ?_, ?_, ?_, ?_, ?_, ?_, ?_, ?_, ?_, ?_, ?_, ?_, ?_, ?_⟩ <;>
    (simp only [State.mirrorFreed]; repeat' split) <;> simp

@[simp] theorem State.endPublication_frame  :
    (s.endPublication).energy = s.energy ∧
      (s.endPublication).calendar = s.calendar ∧
      (s.endPublication).credit = s.credit ∧
      (s.endPublication).switch = s.switch ∧
      (s.endPublication).tamper = s.tamper ∧
      (s.endPublication).supply = s.supply ∧
      (s.endPublication).settings = s.settings ∧
      (s.endPublication).engine = s.engine ∧
      (s.endPublication).pins = s.pins ∧
      (s.endPublication).pending = s.pending ∧
      (s.endPublication).exchange.mem = s.exchange.mem ∧
      (s.endPublication).exchange.link = s.exchange.link ∧
      (s.endPublication).exchange.frame = s.exchange.frame ∧
      (s.endPublication).exchange.ignoring = s.exchange.ignoring ∧
      (s.endPublication).exchange.enable = s.exchange.enable ∧
      (s.endPublication).exchange.stageHolder = s.exchange.stageHolder ∧
      (s.endPublication).exchange.linkRequest = s.exchange.linkRequest ∧
      (s.endPublication).exchange.hold = s.exchange.hold ∧
      (s.endPublication).exchange.answersTold = s.exchange.answersTold ∧
      (s.endPublication).exchange.resetPending = s.exchange.resetPending ∧
      (s.endPublication).exchange.miso = s.exchange.miso ∧
      (s.endPublication).inFlight = s.inFlight := by
  refine ⟨?_, ?_, ?_, ?_, ?_, ?_, ?_, ?_, ?_, ?_, ?_, ?_, ?_, ?_, ?_, ?_, ?_, ?_, ?_, ?_, ?_, ?_⟩ <;>
    (simp only [State.endPublication]; repeat' split) <;> simp

@[simp] theorem State.publisherAccess_frame  :
    (s.publisherAccess).energy = s.energy ∧
      (s.publisherAccess).calendar = s.calendar ∧
      (s.publisherAccess).credit = s.credit ∧
      (s.publisherAccess).switch = s.switch ∧
      (s.publisherAccess).tamper = s.tamper ∧
      (s.publisherAccess).supply = s.supply ∧
      (s.publisherAccess).settings = s.settings ∧
      (s.publisherAccess).engine = s.engine ∧
      (s.publisherAccess).pins = s.pins ∧
      (s.publisherAccess).pending = s.pending ∧
      (s.publisherAccess).exchange.link = s.exchange.link ∧
      (s.publisherAccess).exchange.frame = s.exchange.frame ∧
      (s.publisherAccess).exchange.ignoring = s.exchange.ignoring ∧
      (s.publisherAccess).exchange.enable = s.exchange.enable ∧
      (s.publisherAccess).exchange.stageHolder = s.exchange.stageHolder ∧
      (s.publisherAccess).exchange.linkRequest = s.exchange.linkRequest ∧
      (s.publisherAccess).exchange.hold = s.exchange.hold ∧
      (s.publisherAccess).exchange.answersTold = s.exchange.answersTold ∧
      (s.publisherAccess).exchange.resetPending = s.exchange.resetPending ∧
      (s.publisherAccess).exchange.miso = s.exchange.miso ∧
      (s.publisherAccess).inFlight = s.inFlight := by
  refine ⟨?_, ?_, ?_, ?_, ?_, ?_, ?_, ?_, ?_, ?_, ?_, ?_, ?_, ?_, ?_, ?_, ?_, ?_, ?_, ?_, ?_⟩ <;>
    (simp only [State.publisherAccess]; repeat' split) <;> simp

end Sys2Proof.Machine
end

