-- ==== Sys2Proof/Laws/Orders.lean ====
section
/-! SUPPORT. What each operation of Machine/Orders.lean leaves as it stands, once for each operation. -/

namespace Sys2Proof.Machine

variable (s : State)

@[simp] theorem State.postSlot_frame (n : Fin 8) :
    (s.postSlot n).energy = s.energy ∧
      (s.postSlot n).calendar = s.calendar ∧
      (s.postSlot n).credit = s.credit ∧
      (s.postSlot n).code = s.code ∧
      (s.postSlot n).switch = s.switch ∧
      (s.postSlot n).tamper = s.tamper ∧
      (s.postSlot n).supply = s.supply ∧
      (s.postSlot n).settings = s.settings ∧
      (s.postSlot n).report = s.report ∧
      (s.postSlot n).pins = s.pins ∧
      (s.postSlot n).pending = s.pending ∧
      (s.postSlot n).exchange.mem = s.exchange.mem ∧
      (s.postSlot n).exchange.link = s.exchange.link ∧
      (s.postSlot n).exchange.frame = s.exchange.frame ∧
      (s.postSlot n).exchange.ignoring = s.exchange.ignoring ∧
      (s.postSlot n).exchange.enable = s.exchange.enable ∧
      (s.postSlot n).exchange.mirrorHolder = s.exchange.mirrorHolder ∧
      (s.postSlot n).exchange.stageHolder = s.exchange.stageHolder ∧
      (s.postSlot n).exchange.linkRequest = s.exchange.linkRequest ∧
      (s.postSlot n).exchange.hold = s.exchange.hold ∧
      (s.postSlot n).exchange.answersTold = s.exchange.answersTold ∧
      (s.postSlot n).exchange.resetPending = s.exchange.resetPending ∧
      (s.postSlot n).exchange.miso = s.exchange.miso ∧
      (s.postSlot n).inFlight = s.inFlight := by
  refine ⟨?_, ?_, ?_, ?_, ?_, ?_, ?_, ?_, ?_, ?_, ?_, ?_, ?_, ?_, ?_, ?_, ?_, ?_, ?_, ?_, ?_, ?_, ?_, ?_⟩ <;>
    (simp only [State.postSlot]; repeat' split) <;> simp

@[simp] theorem State.withdrawSlot_frame (n : Fin 8) :
    (s.withdrawSlot n).energy = s.energy ∧
      (s.withdrawSlot n).calendar = s.calendar ∧
      (s.withdrawSlot n).credit = s.credit ∧
      (s.withdrawSlot n).code = s.code ∧
      (s.withdrawSlot n).switch = s.switch ∧
      (s.withdrawSlot n).tamper = s.tamper ∧
      (s.withdrawSlot n).supply = s.supply ∧
      (s.withdrawSlot n).settings = s.settings ∧
      (s.withdrawSlot n).report = s.report ∧
      (s.withdrawSlot n).pins = s.pins ∧
      (s.withdrawSlot n).pending = s.pending ∧
      (s.withdrawSlot n).exchange = s.exchange ∧
      (s.withdrawSlot n).inFlight = s.inFlight := by
  refine ⟨?_, ?_, ?_, ?_, ?_, ?_, ?_, ?_, ?_, ?_, ?_, ?_, ?_⟩ <;>
    (simp only [State.withdrawSlot]; repeat' split) <;> simp

@[simp] theorem State.releaseSlot_frame (n : Fin 8) :
    (s.releaseSlot n).energy = s.energy ∧
      (s.releaseSlot n).calendar = s.calendar ∧
      (s.releaseSlot n).credit = s.credit ∧
      (s.releaseSlot n).code = s.code ∧
      (s.releaseSlot n).switch = s.switch ∧
      (s.releaseSlot n).tamper = s.tamper ∧
      (s.releaseSlot n).supply = s.supply ∧
      (s.releaseSlot n).settings = s.settings ∧
      (s.releaseSlot n).report = s.report ∧
      (s.releaseSlot n).pins = s.pins ∧
      (s.releaseSlot n).pending = s.pending ∧
      (s.releaseSlot n).exchange.mem = s.exchange.mem ∧
      (s.releaseSlot n).exchange.link = s.exchange.link ∧
      (s.releaseSlot n).exchange.frame = s.exchange.frame ∧
      (s.releaseSlot n).exchange.ignoring = s.exchange.ignoring ∧
      (s.releaseSlot n).exchange.enable = s.exchange.enable ∧
      (s.releaseSlot n).exchange.mirrorHolder = s.exchange.mirrorHolder ∧
      (s.releaseSlot n).exchange.stageHolder = s.exchange.stageHolder ∧
      (s.releaseSlot n).exchange.linkRequest = s.exchange.linkRequest ∧
      (s.releaseSlot n).exchange.hold = s.exchange.hold ∧
      (s.releaseSlot n).exchange.answersTold = s.exchange.answersTold ∧
      (s.releaseSlot n).exchange.resetPending = s.exchange.resetPending ∧
      (s.releaseSlot n).exchange.miso = s.exchange.miso ∧
      (s.releaseSlot n).inFlight = s.inFlight := by
  refine ⟨?_, ?_, ?_, ?_, ?_, ?_, ?_, ?_, ?_, ?_, ?_, ?_, ?_, ?_, ?_, ?_, ?_, ?_, ?_, ?_, ?_, ?_, ?_, ?_⟩ <;>
    (simp only [State.releaseSlot]; repeat' split) <;> simp

@[simp] theorem State.completeItself_frame (o : CurrentOrder) (code : ResultCode) :
    (s.completeItself o code).energy = s.energy ∧
      (s.completeItself o code).calendar = s.calendar ∧
      (s.completeItself o code).credit = s.credit ∧
      (s.completeItself o code).code = s.code ∧
      (s.completeItself o code).switch = s.switch ∧
      (s.completeItself o code).tamper = s.tamper ∧
      (s.completeItself o code).supply = s.supply ∧
      (s.completeItself o code).settings = s.settings ∧
      (s.completeItself o code).report = s.report ∧
      (s.completeItself o code).pins = s.pins ∧
      (s.completeItself o code).pending = s.pending ∧
      (s.completeItself o code).exchange = s.exchange ∧
      (s.completeItself o code).inFlight = s.inFlight := by
  refine ⟨?_, ?_, ?_, ?_, ?_, ?_, ?_, ?_, ?_, ?_, ?_, ?_, ?_⟩ <;>
    (simp only [State.completeItself]; simp)

@[simp] theorem State.handOver_frame (o : CurrentOrder) (c : Instr) :
    (s.handOver o c).energy = s.energy ∧
      (s.handOver o c).calendar = s.calendar ∧
      (s.handOver o c).credit = s.credit ∧
      (s.handOver o c).code = s.code ∧
      (s.handOver o c).switch = s.switch ∧
      (s.handOver o c).tamper = s.tamper ∧
      (s.handOver o c).supply = s.supply ∧
      (s.handOver o c).settings = s.settings ∧
      (s.handOver o c).report = s.report ∧
      (s.handOver o c).pins = s.pins ∧
      (s.handOver o c).pending = s.pending ∧
      (s.handOver o c).exchange = s.exchange := by
  refine ⟨?_, ?_, ?_, ?_, ?_, ?_, ?_, ?_, ?_, ?_, ?_, ?_⟩ <;>
    (simp only [State.handOver]; simp)

@[simp] theorem State.takeStage_frame (o : CurrentOrder) :
    (s.takeStage o).energy = s.energy ∧
      (s.takeStage o).calendar = s.calendar ∧
      (s.takeStage o).credit = s.credit ∧
      (s.takeStage o).code = s.code ∧
      (s.takeStage o).switch = s.switch ∧
      (s.takeStage o).tamper = s.tamper ∧
      (s.takeStage o).supply = s.supply ∧
      (s.takeStage o).settings = s.settings ∧
      (s.takeStage o).report = s.report ∧
      (s.takeStage o).pins = s.pins ∧
      (s.takeStage o).pending = s.pending ∧
      (s.takeStage o).exchange.mem = s.exchange.mem ∧
      (s.takeStage o).exchange.link = s.exchange.link ∧
      (s.takeStage o).exchange.frame = s.exchange.frame ∧
      (s.takeStage o).exchange.ignoring = s.exchange.ignoring ∧
      (s.takeStage o).exchange.notices = s.exchange.notices ∧
      (s.takeStage o).exchange.enable = s.exchange.enable ∧
      (s.takeStage o).exchange.mirrorHolder = s.exchange.mirrorHolder ∧
      (s.takeStage o).exchange.linkRequest = s.exchange.linkRequest ∧
      (s.takeStage o).exchange.hold = s.exchange.hold ∧
      (s.takeStage o).exchange.answersTold = s.exchange.answersTold ∧
      (s.takeStage o).exchange.resetPending = s.exchange.resetPending ∧
      (s.takeStage o).exchange.miso = s.exchange.miso ∧
      (s.takeStage o).inFlight = s.inFlight := by
  refine ⟨?_, ?_, ?_, ?_, ?_, ?_, ?_, ?_, ?_, ?_, ?_, ?_, ?_, ?_, ?_, ?_, ?_, ?_, ?_, ?_, ?_, ?_, ?_, ?_⟩ <;>
    (simp only [State.takeStage]; repeat' split) <;> simp

@[simp] theorem State.dispatch_frame (o : CurrentOrder) :
    (s.dispatch o).energy = s.energy ∧
      (s.dispatch o).calendar = s.calendar ∧
      (s.dispatch o).credit = s.credit ∧
      (s.dispatch o).code = s.code ∧
      (s.dispatch o).switch = s.switch ∧
      (s.dispatch o).tamper = s.tamper ∧
      (s.dispatch o).supply = s.supply ∧
      (s.dispatch o).settings = s.settings ∧
      (s.dispatch o).report = s.report ∧
      (s.dispatch o).pins = s.pins ∧
      (s.dispatch o).pending = s.pending ∧
      (s.dispatch o).exchange.mem = s.exchange.mem ∧
      (s.dispatch o).exchange.link = s.exchange.link ∧
      (s.dispatch o).exchange.frame = s.exchange.frame ∧
      (s.dispatch o).exchange.ignoring = s.exchange.ignoring ∧
      (s.dispatch o).exchange.notices = s.exchange.notices ∧
      (s.dispatch o).exchange.enable = s.exchange.enable ∧
      (s.dispatch o).exchange.mirrorHolder = s.exchange.mirrorHolder ∧
      (s.dispatch o).exchange.linkRequest = s.exchange.linkRequest ∧
      (s.dispatch o).exchange.hold = s.exchange.hold ∧
      (s.dispatch o).exchange.answersTold = s.exchange.answersTold ∧
      (s.dispatch o).exchange.resetPending = s.exchange.resetPending ∧
      (s.dispatch o).exchange.miso = s.exchange.miso := by
  refine ⟨?_, ?_, ?_, ?_, ?_, ?_, ?_, ?_, ?_, ?_, ?_, ?_, ?_, ?_, ?_, ?_, ?_, ?_, ?_, ?_, ?_, ?_, ?_⟩ <;>
    (simp only [State.dispatch]; repeat' split) <;> simp

/-- The engine's give of STAGE changes its holder alone. -/
@[simp] theorem Exchange.giveStage_frame (x : Exchange) :
    x.giveStage.mem = x.mem ∧
      x.giveStage.link = x.link ∧
      x.giveStage.frame = x.frame ∧
      x.giveStage.ignoring = x.ignoring ∧
      x.giveStage.notices = x.notices ∧
      x.giveStage.enable = x.enable ∧
      x.giveStage.mirrorHolder = x.mirrorHolder ∧
      x.giveStage.linkRequest = x.linkRequest ∧
      x.giveStage.hold = x.hold ∧
      x.giveStage.answersTold = x.answersTold ∧
      x.giveStage.resetPending = x.resetPending ∧
      x.giveStage.miso = x.miso :=
  ⟨rfl, rfl, rfl, rfl, rfl, rfl, rfl, rfl, rfl, rfl, rfl, rfl⟩

@[simp] theorem State.stagingDone_frame (image : List Byte) :
    (s.stagingDone image).energy = s.energy ∧
      (s.stagingDone image).calendar = s.calendar ∧
      (s.stagingDone image).credit = s.credit ∧
      (s.stagingDone image).code = s.code ∧
      (s.stagingDone image).switch = s.switch ∧
      (s.stagingDone image).tamper = s.tamper ∧
      (s.stagingDone image).supply = s.supply ∧
      (s.stagingDone image).settings = s.settings ∧
      (s.stagingDone image).report = s.report ∧
      (s.stagingDone image).pins = s.pins ∧
      (s.stagingDone image).pending = s.pending ∧
      (s.stagingDone image).exchange.mem = s.exchange.mem ∧
      (s.stagingDone image).exchange.link = s.exchange.link ∧
      (s.stagingDone image).exchange.frame = s.exchange.frame ∧
      (s.stagingDone image).exchange.ignoring = s.exchange.ignoring ∧
      (s.stagingDone image).exchange.notices = s.exchange.notices ∧
      (s.stagingDone image).exchange.enable = s.exchange.enable ∧
      (s.stagingDone image).exchange.mirrorHolder = s.exchange.mirrorHolder ∧
      (s.stagingDone image).exchange.linkRequest = s.exchange.linkRequest ∧
      (s.stagingDone image).exchange.hold = s.exchange.hold ∧
      (s.stagingDone image).exchange.answersTold = s.exchange.answersTold ∧
      (s.stagingDone image).exchange.resetPending = s.exchange.resetPending ∧
      (s.stagingDone image).exchange.miso = s.exchange.miso := by
  refine ⟨?_, ?_, ?_, ?_, ?_, ?_, ?_, ?_, ?_, ?_, ?_, ?_, ?_, ?_, ?_, ?_, ?_, ?_, ?_, ?_, ?_, ?_, ?_⟩ <;>
    (simp only [State.stagingDone]; repeat' split) <;> simp

@[simp] theorem State.drained_frame  :
    (s.drained).energy = s.energy ∧
      (s.drained).calendar = s.calendar ∧
      (s.drained).credit = s.credit ∧
      (s.drained).code = s.code ∧
      (s.drained).switch = s.switch ∧
      (s.drained).tamper = s.tamper ∧
      (s.drained).supply = s.supply ∧
      (s.drained).settings = s.settings ∧
      (s.drained).report = s.report ∧
      (s.drained).pins = s.pins ∧
      (s.drained).pending = s.pending ∧
      (s.drained).exchange.mem = s.exchange.mem ∧
      (s.drained).exchange.link = s.exchange.link ∧
      (s.drained).exchange.frame = s.exchange.frame ∧
      (s.drained).exchange.ignoring = s.exchange.ignoring ∧
      (s.drained).exchange.notices = s.exchange.notices ∧
      (s.drained).exchange.enable = s.exchange.enable ∧
      (s.drained).exchange.mirrorHolder = s.exchange.mirrorHolder ∧
      (s.drained).exchange.stageHolder = s.exchange.stageHolder ∧
      (s.drained).exchange.linkRequest = s.exchange.linkRequest ∧
      (s.drained).exchange.hold = s.exchange.hold ∧
      (s.drained).exchange.answersTold = s.exchange.answersTold ∧
      (s.drained).exchange.miso = s.exchange.miso := by
  refine ⟨?_, ?_, ?_, ?_, ?_, ?_, ?_, ?_, ?_, ?_, ?_, ?_, ?_, ?_, ?_, ?_, ?_, ?_, ?_, ?_, ?_, ?_, ?_⟩ <;>
    (simp only [State.drained]; repeat' split) <;> simp

/-- The frames stay unserved while the work list holds an item, or another link reset is on its way to the engine (R183, R203). -/
theorem State.drained_resetPending :
    s.drained.exchange.resetPending = (s.exchange.resetPending &&
      !(s.engine.resetWriting && decide (s.engine.work = [] ∧ Instr.engineLinkReset ∉ s.inFlight))) := by
  simp only [State.drained]
  repeat' split
  all_goals simp_all

@[simp] theorem State.copyAccess_frame (n : Fin 8) :
    (s.copyAccess n).energy = s.energy ∧
      (s.copyAccess n).calendar = s.calendar ∧
      (s.copyAccess n).credit = s.credit ∧
      (s.copyAccess n).code = s.code ∧
      (s.copyAccess n).switch = s.switch ∧
      (s.copyAccess n).tamper = s.tamper ∧
      (s.copyAccess n).supply = s.supply ∧
      (s.copyAccess n).settings = s.settings ∧
      (s.copyAccess n).report = s.report ∧
      (s.copyAccess n).pins = s.pins ∧
      (s.copyAccess n).pending = s.pending ∧
      (s.copyAccess n).exchange.mem = s.exchange.mem ∧
      (s.copyAccess n).exchange.link = s.exchange.link ∧
      (s.copyAccess n).exchange.frame = s.exchange.frame ∧
      (s.copyAccess n).exchange.ignoring = s.exchange.ignoring ∧
      (s.copyAccess n).exchange.notices = s.exchange.notices ∧
      (s.copyAccess n).exchange.enable = s.exchange.enable ∧
      (s.copyAccess n).exchange.mirrorHolder = s.exchange.mirrorHolder ∧
      (s.copyAccess n).exchange.linkRequest = s.exchange.linkRequest ∧
      (s.copyAccess n).exchange.hold = s.exchange.hold ∧
      (s.copyAccess n).exchange.answersTold = s.exchange.answersTold ∧
      (s.copyAccess n).exchange.resetPending = s.exchange.resetPending ∧
      (s.copyAccess n).exchange.miso = s.exchange.miso := by
  refine ⟨?_, ?_, ?_, ?_, ?_, ?_, ?_, ?_, ?_, ?_, ?_, ?_, ?_, ?_, ?_, ?_, ?_, ?_, ?_, ?_, ?_, ?_, ?_⟩ <;>
    (simp only [State.copyAccess]; repeat' split) <;> simp

@[simp] theorem State.stagingAccess_frame  :
    (s.stagingAccess).energy = s.energy ∧
      (s.stagingAccess).calendar = s.calendar ∧
      (s.stagingAccess).credit = s.credit ∧
      (s.stagingAccess).code = s.code ∧
      (s.stagingAccess).switch = s.switch ∧
      (s.stagingAccess).tamper = s.tamper ∧
      (s.stagingAccess).supply = s.supply ∧
      (s.stagingAccess).settings = s.settings ∧
      (s.stagingAccess).report = s.report ∧
      (s.stagingAccess).pins = s.pins ∧
      (s.stagingAccess).pending = s.pending ∧
      (s.stagingAccess).exchange.mem = s.exchange.mem ∧
      (s.stagingAccess).exchange.link = s.exchange.link ∧
      (s.stagingAccess).exchange.frame = s.exchange.frame ∧
      (s.stagingAccess).exchange.ignoring = s.exchange.ignoring ∧
      (s.stagingAccess).exchange.notices = s.exchange.notices ∧
      (s.stagingAccess).exchange.enable = s.exchange.enable ∧
      (s.stagingAccess).exchange.mirrorHolder = s.exchange.mirrorHolder ∧
      (s.stagingAccess).exchange.linkRequest = s.exchange.linkRequest ∧
      (s.stagingAccess).exchange.hold = s.exchange.hold ∧
      (s.stagingAccess).exchange.answersTold = s.exchange.answersTold ∧
      (s.stagingAccess).exchange.resetPending = s.exchange.resetPending ∧
      (s.stagingAccess).exchange.miso = s.exchange.miso := by
  refine ⟨?_, ?_, ?_, ?_, ?_, ?_, ?_, ?_, ?_, ?_, ?_, ?_, ?_, ?_, ?_, ?_, ?_, ?_, ?_, ?_, ?_, ?_, ?_⟩ <;>
    (simp only [State.stagingAccess]; repeat' split) <;> simp

@[simp] theorem State.completeAnswer_frame (n : Fin 8) :
    (s.completeAnswer n).energy = s.energy ∧
      (s.completeAnswer n).calendar = s.calendar ∧
      (s.completeAnswer n).credit = s.credit ∧
      (s.completeAnswer n).code = s.code ∧
      (s.completeAnswer n).switch = s.switch ∧
      (s.completeAnswer n).tamper = s.tamper ∧
      (s.completeAnswer n).supply = s.supply ∧
      (s.completeAnswer n).settings = s.settings ∧
      (s.completeAnswer n).report = s.report ∧
      (s.completeAnswer n).pins = s.pins ∧
      (s.completeAnswer n).pending = s.pending ∧
      (s.completeAnswer n).exchange.mem = s.exchange.mem ∧
      (s.completeAnswer n).exchange.link = s.exchange.link ∧
      (s.completeAnswer n).exchange.frame = s.exchange.frame ∧
      (s.completeAnswer n).exchange.ignoring = s.exchange.ignoring ∧
      (s.completeAnswer n).exchange.enable = s.exchange.enable ∧
      (s.completeAnswer n).exchange.mirrorHolder = s.exchange.mirrorHolder ∧
      (s.completeAnswer n).exchange.stageHolder = s.exchange.stageHolder ∧
      (s.completeAnswer n).exchange.linkRequest = s.exchange.linkRequest ∧
      (s.completeAnswer n).exchange.hold = s.exchange.hold ∧
      (s.completeAnswer n).exchange.answersTold = s.exchange.answersTold ∧
      (s.completeAnswer n).exchange.resetPending = s.exchange.resetPending ∧
      (s.completeAnswer n).exchange.miso = s.exchange.miso ∧
      (s.completeAnswer n).inFlight = s.inFlight := by
  refine ⟨?_, ?_, ?_, ?_, ?_, ?_, ?_, ?_, ?_, ?_, ?_, ?_, ?_, ?_, ?_, ?_, ?_, ?_, ?_, ?_, ?_, ?_, ?_, ?_⟩ <;>
    (simp only [State.completeAnswer]; simp)

@[simp] theorem State.answerAccess_frame (n : Fin 8) (code : ResultCode) (data : ResultData) :
    (s.answerAccess n code data).energy = s.energy ∧
      (s.answerAccess n code data).calendar = s.calendar ∧
      (s.answerAccess n code data).credit = s.credit ∧
      (s.answerAccess n code data).code = s.code ∧
      (s.answerAccess n code data).switch = s.switch ∧
      (s.answerAccess n code data).tamper = s.tamper ∧
      (s.answerAccess n code data).supply = s.supply ∧
      (s.answerAccess n code data).settings = s.settings ∧
      (s.answerAccess n code data).report = s.report ∧
      (s.answerAccess n code data).pins = s.pins ∧
      (s.answerAccess n code data).pending = s.pending ∧
      (s.answerAccess n code data).exchange.link = s.exchange.link ∧
      (s.answerAccess n code data).exchange.frame = s.exchange.frame ∧
      (s.answerAccess n code data).exchange.ignoring = s.exchange.ignoring ∧
      (s.answerAccess n code data).exchange.enable = s.exchange.enable ∧
      (s.answerAccess n code data).exchange.mirrorHolder = s.exchange.mirrorHolder ∧
      (s.answerAccess n code data).exchange.stageHolder = s.exchange.stageHolder ∧
      (s.answerAccess n code data).exchange.linkRequest = s.exchange.linkRequest ∧
      (s.answerAccess n code data).exchange.hold = s.exchange.hold ∧
      (s.answerAccess n code data).exchange.answersTold = s.exchange.answersTold ∧
      (s.answerAccess n code data).exchange.resetPending = s.exchange.resetPending ∧
      (s.answerAccess n code data).exchange.miso = s.exchange.miso ∧
      (s.answerAccess n code data).inFlight = s.inFlight := by
  refine ⟨?_, ?_, ?_, ?_, ?_, ?_, ?_, ?_, ?_, ?_, ?_, ?_, ?_, ?_, ?_, ?_, ?_, ?_, ?_, ?_, ?_, ?_, ?_⟩ <;>
    (simp only [State.answerAccess]; repeat' split) <;> simp

@[simp] theorem State.stateAccess_frame (n : Fin 8) :
    (s.stateAccess n).energy = s.energy ∧
      (s.stateAccess n).calendar = s.calendar ∧
      (s.stateAccess n).credit = s.credit ∧
      (s.stateAccess n).code = s.code ∧
      (s.stateAccess n).switch = s.switch ∧
      (s.stateAccess n).tamper = s.tamper ∧
      (s.stateAccess n).supply = s.supply ∧
      (s.stateAccess n).settings = s.settings ∧
      (s.stateAccess n).report = s.report ∧
      (s.stateAccess n).pins = s.pins ∧
      (s.stateAccess n).pending = s.pending ∧
      (s.stateAccess n).exchange.link = s.exchange.link ∧
      (s.stateAccess n).exchange.frame = s.exchange.frame ∧
      (s.stateAccess n).exchange.ignoring = s.exchange.ignoring ∧
      (s.stateAccess n).exchange.notices = s.exchange.notices ∧
      (s.stateAccess n).exchange.enable = s.exchange.enable ∧
      (s.stateAccess n).exchange.mirrorHolder = s.exchange.mirrorHolder ∧
      (s.stateAccess n).exchange.stageHolder = s.exchange.stageHolder ∧
      (s.stateAccess n).exchange.linkRequest = s.exchange.linkRequest ∧
      (s.stateAccess n).exchange.hold = s.exchange.hold ∧
      (s.stateAccess n).exchange.answersTold = s.exchange.answersTold ∧
      (s.stateAccess n).exchange.resetPending = s.exchange.resetPending ∧
      (s.stateAccess n).exchange.miso = s.exchange.miso ∧
      (s.stateAccess n).inFlight = s.inFlight := by
  refine ⟨?_, ?_, ?_, ?_, ?_, ?_, ?_, ?_, ?_, ?_, ?_, ?_, ?_, ?_, ?_, ?_, ?_, ?_, ?_, ?_, ?_, ?_, ?_, ?_⟩ <;>
    (simp only [State.stateAccess]; simp)

@[simp] theorem State.engineAccess_frame  :
    (s.engineAccess).energy = s.energy ∧
      (s.engineAccess).calendar = s.calendar ∧
      (s.engineAccess).credit = s.credit ∧
      (s.engineAccess).code = s.code ∧
      (s.engineAccess).switch = s.switch ∧
      (s.engineAccess).tamper = s.tamper ∧
      (s.engineAccess).supply = s.supply ∧
      (s.engineAccess).settings = s.settings ∧
      (s.engineAccess).report = s.report ∧
      (s.engineAccess).pins = s.pins ∧
      (s.engineAccess).pending = s.pending ∧
      (s.engineAccess).exchange.link = s.exchange.link ∧
      (s.engineAccess).exchange.frame = s.exchange.frame ∧
      (s.engineAccess).exchange.ignoring = s.exchange.ignoring ∧
      (s.engineAccess).exchange.enable = s.exchange.enable ∧
      (s.engineAccess).exchange.mirrorHolder = s.exchange.mirrorHolder ∧
      (s.engineAccess).exchange.linkRequest = s.exchange.linkRequest ∧
      (s.engineAccess).exchange.hold = s.exchange.hold ∧
      (s.engineAccess).exchange.answersTold = s.exchange.answersTold ∧
      (s.engineAccess).exchange.miso = s.exchange.miso := by
  refine ⟨?_, ?_, ?_, ?_, ?_, ?_, ?_, ?_, ?_, ?_, ?_, ?_, ?_, ?_, ?_, ?_, ?_, ?_, ?_, ?_⟩ <;>
    (simp only [State.engineAccess]; repeat' split) <;> simp

/-! ### Replies matched and discarded (R198, R202) -/

/-- An order that the current order or a parked entry names: no reply for any other changes the engine (R198). -/
def Engine.Knows (x : Engine) (n : OrderId) : Prop := (∃ o, x.current = some o ∧ o.id = n) ∨ ∃ p ∈ x.parked, p.id = n

theorem Engine.takeAnswer_unknown (x : Engine) (n : OrderId) (code : ResultCode) (data : ResultData) (h : ¬x.Knows n) :
    x.takeAnswer n code data = x := by
  simp only [Engine.Knows, not_or, not_exists, not_and] at h
  have hw : x.withOwner n = none := by
    cases hc : x.current with
    | none => simp [Engine.withOwner, hc]
    | some o => simp [Engine.withOwner, hc, h.1 o hc]
  have hp : (x.parked.any fun p => decide (p.id = n)) = false := by simpa using h.2
  simp [Engine.takeAnswer, hw, hp]

theorem Engine.takePark_unknown (x : Engine) (n : OrderId) (h : ¬x.Knows n) : x.takePark n = x := by
  simp only [Engine.Knows, not_or, not_exists, not_and] at h
  have hw : x.withOwner n = none := by
    cases hc : x.current with
    | none => simp [Engine.withOwner, hc]
    | some o => simp [Engine.withOwner, hc, h.1 o hc]
  simp [Engine.takePark, hw]

/-- The warm start leaves no order of before it to be answered (R202). -/
theorem Engine.warmStart_unknown (x : Engine) (n : OrderId) : ¬x.warmStart.Knows n := by
  simp [Engine.Knows, Engine.warmStart]

/-- A take names its order by the count of takes, which no earlier take has had (R193). -/
theorem Engine.take_named (x : Engine) (o : CurrentOrder) (hn : x.current = none) (h : x.take.current = some o) :
    o.id.number = x.takes ∧ x.take.takes = x.takes + 1 := by
  unfold Engine.take at h ⊢
  split at h
  · rename_i hr
    cases hl : x.lowestPosted with
    | none => simp [hl, hn] at h
    | some n =>
      simp only [hl, Engine.addItem, Option.some.injEq] at h
      subst h
      simp [hr, Engine.addItem]
  · simp [hn] at h

end Sys2Proof.Machine
end

