-- ==== Sys2Proof/Laws/Exchanges.lean ====
section
/-! SUPPORT. What each operation of Machine/Exchanges.lean leaves as it stands, once for each operation. -/

namespace Sys2Proof.Machine

variable (s : State)

@[simp] theorem State.grant_frame  :
    (s.grant).energy = s.energy ∧
      (s.grant).calendar = s.calendar ∧
      (s.grant).credit = s.credit ∧
      (s.grant).switch = s.switch ∧
      (s.grant).tamper = s.tamper ∧
      (s.grant).supply = s.supply ∧
      (s.grant).settings = s.settings ∧
      (s.grant).pins = s.pins ∧
      (s.grant).pending = s.pending := by
  refine ⟨?_, ?_, ?_, ?_, ?_, ?_, ?_, ?_, ?_⟩ <;>
    (simp only [State.grant]; repeat' split) <;> simp

@[simp] theorem State.requestLink_frame (a : LinkAccess) :
    (s.requestLink a).energy = s.energy ∧
      (s.requestLink a).calendar = s.calendar ∧
      (s.requestLink a).credit = s.credit ∧
      (s.requestLink a).switch = s.switch ∧
      (s.requestLink a).tamper = s.tamper ∧
      (s.requestLink a).supply = s.supply ∧
      (s.requestLink a).settings = s.settings ∧
      (s.requestLink a).pins = s.pins ∧
      (s.requestLink a).pending = s.pending := by
  refine ⟨?_, ?_, ?_, ?_, ?_, ?_, ?_, ?_, ?_⟩ <;>
    (simp only [State.requestLink]; simp)

@[simp] theorem State.linkGive_frame (m : Semaphore) :
    (s.linkGive m).energy = s.energy ∧
      (s.linkGive m).calendar = s.calendar ∧
      (s.linkGive m).credit = s.credit ∧
      (s.linkGive m).code = s.code ∧
      (s.linkGive m).switch = s.switch ∧
      (s.linkGive m).tamper = s.tamper ∧
      (s.linkGive m).supply = s.supply ∧
      (s.linkGive m).settings = s.settings ∧
      (s.linkGive m).engine = s.engine ∧
      (s.linkGive m).report = s.report ∧
      (s.linkGive m).pins = s.pins ∧
      (s.linkGive m).pending = s.pending := by
  refine ⟨?_, ?_, ?_, ?_, ?_, ?_, ?_, ?_, ?_, ?_, ?_, ?_⟩ <;>
    (simp only [State.linkGive]; repeat' split) <;> simp

@[simp] theorem State.writeSemaphore_frame (m : Semaphore) (v : Byte) :
    (s.writeSemaphore m v).energy = s.energy ∧
      (s.writeSemaphore m v).calendar = s.calendar ∧
      (s.writeSemaphore m v).credit = s.credit ∧
      (s.writeSemaphore m v).code = s.code ∧
      (s.writeSemaphore m v).switch = s.switch ∧
      (s.writeSemaphore m v).tamper = s.tamper ∧
      (s.writeSemaphore m v).supply = s.supply ∧
      (s.writeSemaphore m v).settings = s.settings ∧
      (s.writeSemaphore m v).engine = s.engine ∧
      (s.writeSemaphore m v).report = s.report ∧
      (s.writeSemaphore m v).pins = s.pins ∧
      (s.writeSemaphore m v).pending = s.pending := by
  refine ⟨?_, ?_, ?_, ?_, ?_, ?_, ?_, ?_, ?_, ?_, ?_, ?_⟩ <;>
    (simp only [State.writeSemaphore]; repeat' split) <;> simp

theorem State.sendActions_eq (v : Byte) (action : Fin 8 → Instr) :
    ∃ l, s.sendActions v action = { s with inFlight := s.inFlight ++ l } := by
  suffices h : ∀ (ns : List (Fin 8)) (t : State), ∃ l,
      ns.foldl (fun t n => if v.getLsbD n.val then t.send (action n) else t) t = { t with inFlight := t.inFlight ++ l } from
    h _ s
  intro ns
  induction ns with
  | nil => intro t; exact ⟨[], by simp⟩
  | cons n ns ih =>
    intro t
    simp only [List.foldl_cons]
    split
    · obtain ⟨l, hl⟩ := ih (t.send (action n))
      exact ⟨action n :: l, by rw [hl]; simp [State.send]⟩
    · exact ih t

@[simp] theorem State.sendActions_frame (v : Byte) (action : Fin 8 → Instr) :
    (s.sendActions v action).energy = s.energy ∧
      (s.sendActions v action).calendar = s.calendar ∧
      (s.sendActions v action).credit = s.credit ∧
      (s.sendActions v action).code = s.code ∧
      (s.sendActions v action).switch = s.switch ∧
      (s.sendActions v action).tamper = s.tamper ∧
      (s.sendActions v action).supply = s.supply ∧
      (s.sendActions v action).settings = s.settings ∧
      (s.sendActions v action).engine = s.engine ∧
      (s.sendActions v action).report = s.report ∧
      (s.sendActions v action).pins = s.pins ∧
      (s.sendActions v action).pending = s.pending ∧
      (s.sendActions v action).exchange = s.exchange := by
  obtain ⟨l, hl⟩ := s.sendActions_eq v action
  simp [hl]

@[simp] theorem State.writeRegister_frame (a : Nat) (v : Byte) :
    (s.writeRegister a v).energy = s.energy ∧
      (s.writeRegister a v).calendar = s.calendar ∧
      (s.writeRegister a v).credit = s.credit ∧
      (s.writeRegister a v).code = s.code ∧
      (s.writeRegister a v).switch = s.switch ∧
      (s.writeRegister a v).tamper = s.tamper ∧
      (s.writeRegister a v).supply = s.supply ∧
      (s.writeRegister a v).settings = s.settings ∧
      (s.writeRegister a v).engine = s.engine ∧
      (s.writeRegister a v).report = s.report ∧
      (s.writeRegister a v).pins = s.pins ∧
      (s.writeRegister a v).pending = s.pending := by
  refine ⟨?_, ?_, ?_, ?_, ?_, ?_, ?_, ?_, ?_, ?_, ?_, ?_⟩ <;>
    (simp only [State.writeRegister]; repeat' split) <;> simp

@[simp] theorem State.readMemoryByte_frame (f : Frame) :
    (s.readMemoryByte f).energy = s.energy ∧
      (s.readMemoryByte f).calendar = s.calendar ∧
      (s.readMemoryByte f).credit = s.credit ∧
      (s.readMemoryByte f).switch = s.switch ∧
      (s.readMemoryByte f).tamper = s.tamper ∧
      (s.readMemoryByte f).supply = s.supply ∧
      (s.readMemoryByte f).settings = s.settings ∧
      (s.readMemoryByte f).pins = s.pins ∧
      (s.readMemoryByte f).pending = s.pending := by
  refine ⟨?_, ?_, ?_, ?_, ?_, ?_, ?_, ?_, ?_⟩ <;>
    (simp only [State.readMemoryByte]; repeat' split) <;> simp

@[simp] theorem State.readByte_frame (f : Frame) :
    (s.readByte f).energy = s.energy ∧
      (s.readByte f).calendar = s.calendar ∧
      (s.readByte f).credit = s.credit ∧
      (s.readByte f).switch = s.switch ∧
      (s.readByte f).tamper = s.tamper ∧
      (s.readByte f).supply = s.supply ∧
      (s.readByte f).settings = s.settings ∧
      (s.readByte f).pins = s.pins ∧
      (s.readByte f).pending = s.pending := by
  refine ⟨?_, ?_, ?_, ?_, ?_, ?_, ?_, ?_, ?_⟩ <;>
    (simp only [State.readByte]; repeat' split) <;> simp

@[simp] theorem State.applyBytes_frame (cells : List Host.Cell) :
    (s.applyBytes cells).energy = s.energy ∧
      (s.applyBytes cells).calendar = s.calendar ∧
      (s.applyBytes cells).credit = s.credit ∧
      (s.applyBytes cells).switch = s.switch ∧
      (s.applyBytes cells).tamper = s.tamper ∧
      (s.applyBytes cells).supply = s.supply ∧
      (s.applyBytes cells).settings = s.settings ∧
      (s.applyBytes cells).pins = s.pins ∧
      (s.applyBytes cells).pending = s.pending := by
  refine ⟨?_, ?_, ?_, ?_, ?_, ?_, ?_, ?_, ?_⟩ <;>
    (simp only [State.applyBytes]; repeat' split) <;> simp

@[simp] theorem State.applyGathered_frame  :
    (s.applyGathered).energy = s.energy ∧
      (s.applyGathered).calendar = s.calendar ∧
      (s.applyGathered).credit = s.credit ∧
      (s.applyGathered).switch = s.switch ∧
      (s.applyGathered).tamper = s.tamper ∧
      (s.applyGathered).supply = s.supply ∧
      (s.applyGathered).settings = s.settings ∧
      (s.applyGathered).pins = s.pins ∧
      (s.applyGathered).pending = s.pending := by
  refine ⟨?_, ?_, ?_, ?_, ?_, ?_, ?_, ?_, ?_⟩ <;>
    (simp only [State.applyGathered]; repeat' split) <;> simp

@[simp] theorem State.writeByte_frame (f : Frame) (v : Byte) :
    (s.writeByte f v).energy = s.energy ∧
      (s.writeByte f v).calendar = s.calendar ∧
      (s.writeByte f v).credit = s.credit ∧
      (s.writeByte f v).switch = s.switch ∧
      (s.writeByte f v).tamper = s.tamper ∧
      (s.writeByte f v).supply = s.supply ∧
      (s.writeByte f v).settings = s.settings ∧
      (s.writeByte f v).pins = s.pins ∧
      (s.writeByte f v).pending = s.pending := by
  refine ⟨?_, ?_, ?_, ?_, ?_, ?_, ?_, ?_, ?_⟩ <;>
    (simp only [State.writeByte]; repeat' split) <;> simp

@[simp] theorem State.readBytes_frame (n : Nat) : ∀ (s : State),
    (State.readBytes n s).energy = s.energy ∧
      (State.readBytes n s).calendar = s.calendar ∧
      (State.readBytes n s).credit = s.credit ∧
      (State.readBytes n s).switch = s.switch ∧
      (State.readBytes n s).supply = s.supply ∧
      (State.readBytes n s).settings = s.settings ∧
      (State.readBytes n s).pins = s.pins ∧
      (State.readBytes n s).pending = s.pending ∧
      (State.readBytes n s).tamper = s.tamper := by
  induction n with
  | zero => intro s; simp [State.readBytes]
  | succ n ih =>
    intro s
    simp only [State.readBytes]
    split <;> simp [ih]

@[simp] theorem State.writeBytes_frame (bs : List Byte) : ∀ (s : State),
    (State.writeBytes bs s).energy = s.energy ∧
      (State.writeBytes bs s).calendar = s.calendar ∧
      (State.writeBytes bs s).credit = s.credit ∧
      (State.writeBytes bs s).switch = s.switch ∧
      (State.writeBytes bs s).supply = s.supply ∧
      (State.writeBytes bs s).settings = s.settings ∧
      (State.writeBytes bs s).pins = s.pins ∧
      (State.writeBytes bs s).pending = s.pending ∧
      (State.writeBytes bs s).tamper = s.tamper := by
  induction bs with
  | nil => intro s; simp [State.writeBytes]
  | cons b bs ih =>
    intro s
    simp only [State.writeBytes]
    split <;> simp [ih]

@[simp] theorem State.endFrame_frame  :
    (s.endFrame).energy = s.energy ∧
      (s.endFrame).calendar = s.calendar ∧
      (s.endFrame).credit = s.credit ∧
      (s.endFrame).switch = s.switch ∧
      (s.endFrame).tamper = s.tamper ∧
      (s.endFrame).supply = s.supply ∧
      (s.endFrame).settings = s.settings ∧
      (s.endFrame).pins = s.pins ∧
      (s.endFrame).pending = s.pending := by
  refine ⟨?_, ?_, ?_, ?_, ?_, ?_, ?_, ?_, ?_⟩ <;>
    (simp only [State.endFrame]; simp)

@[simp] theorem State.endSegment_frame (last : Bool) :
    (s.endSegment last).energy = s.energy ∧
      (s.endSegment last).calendar = s.calendar ∧
      (s.endSegment last).credit = s.credit ∧
      (s.endSegment last).switch = s.switch ∧
      (s.endSegment last).tamper = s.tamper ∧
      (s.endSegment last).supply = s.supply ∧
      (s.endSegment last).settings = s.settings ∧
      (s.endSegment last).pins = s.pins ∧
      (s.endSegment last).pending = s.pending := by
  refine ⟨?_, ?_, ?_, ?_, ?_, ?_, ?_, ?_, ?_⟩ <;>
    (simp only [State.endSegment]; repeat' split) <;> simp

@[simp] theorem State.readFrame_frame (walk : Walk) (g : ReadSegment) :
    (s.readFrame walk g).energy = s.energy ∧
      (s.readFrame walk g).calendar = s.calendar ∧
      (s.readFrame walk g).credit = s.credit ∧
      (s.readFrame walk g).switch = s.switch ∧
      (s.readFrame walk g).tamper = s.tamper ∧
      (s.readFrame walk g).supply = s.supply ∧
      (s.readFrame walk g).settings = s.settings ∧
      (s.readFrame walk g).pins = s.pins ∧
      (s.readFrame walk g).pending = s.pending := by
  refine ⟨?_, ?_, ?_, ?_, ?_, ?_, ?_, ?_, ?_⟩ <;>
    (simp only [State.readFrame]; repeat' split) <;> simp

@[simp] theorem State.writeFrame_frame (walk : Walk) (g : WriteSegment) :
    (s.writeFrame walk g).energy = s.energy ∧
      (s.writeFrame walk g).calendar = s.calendar ∧
      (s.writeFrame walk g).credit = s.credit ∧
      (s.writeFrame walk g).switch = s.switch ∧
      (s.writeFrame walk g).tamper = s.tamper ∧
      (s.writeFrame walk g).supply = s.supply ∧
      (s.writeFrame walk g).settings = s.settings ∧
      (s.writeFrame walk g).pins = s.pins ∧
      (s.writeFrame walk g).pending = s.pending := by
  refine ⟨?_, ?_, ?_, ?_, ?_, ?_, ?_, ?_, ?_⟩ <;>
    (simp only [State.writeFrame]; repeat' split) <;> simp

@[simp] theorem State.resetLink_frame  :
    (s.resetLink).energy = s.energy ∧
      (s.resetLink).calendar = s.calendar ∧
      (s.resetLink).credit = s.credit ∧
      (s.resetLink).code = s.code ∧
      (s.resetLink).switch = s.switch ∧
      (s.resetLink).tamper = s.tamper ∧
      (s.resetLink).supply = s.supply ∧
      (s.resetLink).settings = s.settings ∧
      (s.resetLink).engine = s.engine ∧
      (s.resetLink).report = s.report ∧
      (s.resetLink).pins = s.pins ∧
      (s.resetLink).pending = s.pending := by
  refine ⟨?_, ?_, ?_, ?_, ?_, ?_, ?_, ?_, ?_, ?_, ?_, ?_⟩ <;>
    (simp only [State.resetLink]; repeat' split) <;> simp

@[simp] theorem State.openLink_frame  :
    (s.openLink).energy = s.energy ∧
      (s.openLink).calendar = s.calendar ∧
      (s.openLink).credit = s.credit ∧
      (s.openLink).code = s.code ∧
      (s.openLink).switch = s.switch ∧
      (s.openLink).tamper = s.tamper ∧
      (s.openLink).supply = s.supply ∧
      (s.openLink).settings = s.settings ∧
      (s.openLink).engine = s.engine ∧
      (s.openLink).report = s.report ∧
      (s.openLink).pins = s.pins ∧
      (s.openLink).pending = s.pending := by
  refine ⟨?_, ?_, ?_, ?_, ?_, ?_, ?_, ?_, ?_, ?_, ?_, ?_⟩ <;>
    (simp only [State.openLink]; repeat' split) <;> simp

@[simp] theorem State.tryOpen_frame  :
    (s.tryOpen).energy = s.energy ∧
      (s.tryOpen).calendar = s.calendar ∧
      (s.tryOpen).credit = s.credit ∧
      (s.tryOpen).code = s.code ∧
      (s.tryOpen).switch = s.switch ∧
      (s.tryOpen).tamper = s.tamper ∧
      (s.tryOpen).supply = s.supply ∧
      (s.tryOpen).settings = s.settings ∧
      (s.tryOpen).engine = s.engine ∧
      (s.tryOpen).report = s.report ∧
      (s.tryOpen).pins = s.pins ∧
      (s.tryOpen).pending = s.pending := by
  refine ⟨?_, ?_, ?_, ?_, ?_, ?_, ?_, ?_, ?_, ?_, ?_, ?_⟩ <;>
    (simp only [State.tryOpen]; repeat' split) <;> simp

end Sys2Proof.Machine
end

