-- ==== Sys2Proof/Laws/Layouts.lean ====
section
/-! SUPPORT. Numbers as bytes: what `numberAt` reads of bytes that are written most significant first (09_exchange_memory_and_the_link.md,
Layouts). -/

namespace Sys2Proof.Machine

/-- The bytes of `v` stand from an offset: the number read there is `v`, within the field's size. -/
theorem numberAt_of_bytes (bytes : List Byte) (offset n v : Nat)
    (h : ∀ k, k < n → bytes.getD (offset + k) 0 = BitVec.ofNat 8 (v / 256 ^ (n - 1 - k))) :
    numberAt bytes offset n = v % 256 ^ n := by
  suffices hm : ∀ m, m ≤ n → numberAt bytes offset m = v / 256 ^ (n - m) % 256 ^ m by simpa using hm n le_rfl
  intro m
  induction m with
  | zero => simp [numberAt, Nat.mod_one]
  | succ m ih =>
    intro hm
    rw [numberAt, ih (by omega), h m (by omega), BitVec.toNat_ofNat, show n - 1 - m = n - (m + 1) from by omega,
      show n - m = n - (m + 1) + 1 from by omega, pow_succ 256 (n - (m + 1)), ← Nat.div_div_eq_div_mul, pow_succ' 256 m]
    generalize v / 256 ^ (n - (m + 1)) = w
    rw [Nat.mod_mul (a := 256)]
    norm_num
    omega

/-- `beBytes` writes most significant byte first. -/
theorem beBytes_getD (n v k : Nat) (hk : k < n) : (beBytes n v).getD k 0 = BitVec.ofNat 8 (v / 256 ^ (n - 1 - k)) := by
  induction n generalizing k with
  | zero => omega
  | succ n ih =>
    cases k with
    | zero => simp [beBytes]
    | succ k =>
      rw [beBytes, List.getD_cons_succ, ih k (by omega)]
      congr 3
      omega

@[simp] theorem beBytes_length (n v : Nat) : (beBytes n v).length = n := by
  induction n with
  | zero => rfl
  | succ n ih => simp [beBytes, ih]

/-- Consecutive numbers as bytes, each with its size. -/
def chunkBytes (cs : List (Nat × Nat)) : List Byte := cs.flatMap fun c => beBytes c.1 c.2

/-- The same numbers with the offsets at which they stand. -/
def placed : Nat → List (Nat × Nat) → List (Nat × Nat × Nat)
  | _, [] => []
  | base, c :: cs => (base, c.1, c.2) :: placed (base + c.1) cs

theorem placed_ge (cs : List (Nat × Nat)) (base : Nat) : ∀ f ∈ placed base cs, base ≤ f.1 := by
  induction cs generalizing base with
  | nil => simp [placed]
  | cons c cs ih =>
    intro f hf
    rcases List.mem_cons.1 hf with rfl | hf
    · exact le_rfl
    · exact le_trans (Nat.le_add_right _ _) (ih _ f hf)

theorem chunkBytes_getD (cs : List (Nat × Nat)) (base : Nat) (f : Nat × Nat × Nat) (hf : f ∈ placed base cs) (k : Nat) (hk : k < f.2.1) :
    (chunkBytes cs).getD (f.1 - base + k) 0 = BitVec.ofNat 8 (f.2.2 / 256 ^ (f.2.1 - 1 - k)) := by
  induction cs generalizing base with
  | nil => simp [placed] at hf
  | cons c cs ih =>
    rcases List.mem_cons.1 hf with rfl | hf
    · show (beBytes c.1 c.2 ++ chunkBytes cs).getD _ 0 = _
      rw [List.getD_append _ _ _ _ (by simpa using hk)]
      simpa using beBytes_getD c.1 c.2 k hk
    · have hb := placed_ge cs _ f hf
      show (beBytes c.1 c.2 ++ chunkBytes cs).getD _ 0 = _
      rw [List.getD_append_right _ _ _ _ (by simp; omega), beBytes_length,
        show f.1 - base + k - c.1 = f.1 - (base + c.1) + k from by omega]
      exact ih _ hf

theorem chunkBytes_covered (cs : List (Nat × Nat)) (base i : Nat) (hi : i < (chunkBytes cs).length) :
    ∃ f ∈ placed base cs, f.1 ≤ base + i ∧ base + i < f.1 + f.2.1 := by
  induction cs generalizing base i with
  | nil => simp [chunkBytes] at hi
  | cons c cs ih =>
    have hl : (chunkBytes (c :: cs)).length = c.1 + (chunkBytes cs).length := by simp [chunkBytes]
    by_cases h : i < c.1
    · exact ⟨_, List.mem_cons_self, le_add_right le_rfl, by simpa using h⟩
    · obtain ⟨f, hf, h1, h2⟩ := ih (base + c.1) (i - c.1) (by omega)
      exact ⟨f, List.mem_cons_of_mem _ hf, by omega, by omega⟩

/-- Bytes that are consecutive numbers are laid out by fields that give every one of them that is not 0. -/
theorem LaidOut.of_chunks (base size : Nat) (fields : List (Nat × Nat × Int)) (cs : List (Nat × Nat)) (hs : (chunkBytes cs).length = size)
    (hf : ∀ f ∈ fields, ∃ v, (f.1, f.2.1, v) ∈ placed base cs ∧ f.2.2 % (256 ^ f.2.1 : Nat) = (v : Int) % (256 ^ f.2.1 : Nat))
    (hc : ∀ g ∈ placed base cs, g.2.2 = 0 ∨ ∃ x, (g.1, g.2.1, x) ∈ fields) : LaidOut base size fields (chunkBytes cs) where
  length := hs
  held o n x hm := by
    obtain ⟨v, hv, hx⟩ := hf _ hm
    rw [numberAt_of_bytes _ _ n v fun k hk => chunkBytes_getD cs base _ hv k hk, hx]
    push_cast; rfl
  clear i hi h := by
    obtain ⟨g, hg, h1, h2⟩ := chunkBytes_covered cs base i (by omega)
    rcases hc g hg with h0 | ⟨x, hx⟩
    · have hb := placed_ge cs base g hg
      have := chunkBytes_getD cs base g hg (base + i - g.1) (by omega)
      rw [h0] at this
      simpa [show g.1 - base + (base + i - g.1) = i from by omega] using this
    · rcases h _ _ _ hx with h | h <;> omega

end Sys2Proof.Machine
end

