-- ==== Sys2Proof/Laws/Memory.lean ====
section
/-! SUPPORT. The exchange memory: reading after a write, and the canonical form that every operation keeps. -/

namespace Sys2Proof.Machine

theorem Memory.read_of_below (m : Memory) : ∀ (low a : Nat), Memory.wfFrom low m = true → a < low →
    Memory.read m a = Memory.unlisted a := by
  induction m with
  | nil => intro low a _ _; rfl
  | cons c m ih =>
    obtain ⟨x, v⟩ := c
    intro low a h ha
    simp only [Memory.wfFrom, Bool.and_eq_true, decide_eq_true_eq] at h
    have hne : a ≠ x := by omega
    simp only [Memory.read, if_neg hne]
    exact ih (x + 1) a h.2 (by omega)

theorem Memory.wfFrom_mono (m : Memory) {low low' : Nat} (hl : low' ≤ low) (h : Memory.wfFrom low m = true) :
    Memory.wfFrom low' m = true := by
  cases m with
  | nil => rfl
  | cons c m =>
    obtain ⟨x, v⟩ := c
    simp only [Memory.wfFrom, Bool.and_eq_true, decide_eq_true_eq] at h ⊢
    exact ⟨⟨by omega, h.1.2⟩, h.2⟩

theorem Memory.wfFrom_put (m : Memory) (low a : Nat) (b : Byte) (hl : low ≤ a) (h : Memory.wfFrom (a + 1) m = true) :
    Memory.wfFrom low (Memory.put m a b) = true := by
  unfold Memory.put
  split
  · exact Memory.wfFrom_mono m (by omega) h
  · rename_i hb
    simp only [Memory.wfFrom, Bool.and_eq_true, decide_eq_true_eq, bne_iff_ne]
    exact ⟨⟨hl, hb⟩, h⟩

theorem Memory.wfFrom_write (m : Memory) (a : Nat) (b : Byte) : ∀ (low : Nat), low ≤ a → Memory.wfFrom low m = true →
    Memory.wfFrom low (Memory.write m a b) = true := by
  induction m with
  | nil => intro low hl _; exact Memory.wfFrom_put [] low a b hl rfl
  | cons c m ih =>
    obtain ⟨x, v⟩ := c
    intro low hl h
    have hk := h
    simp only [Memory.wfFrom, Bool.and_eq_true, decide_eq_true_eq] at h
    simp only [Memory.write]
    split
    · rename_i hlt
      refine Memory.wfFrom_put _ low a b hl ?_
      simp only [Memory.wfFrom, Bool.and_eq_true, decide_eq_true_eq]
      exact ⟨⟨by omega, h.1.2⟩, h.2⟩
    · split
      · rename_i heq
        exact Memory.wfFrom_put m low a b hl (by rw [heq]; exact h.2)
      · simp only [Memory.wfFrom, Bool.and_eq_true, decide_eq_true_eq]
        exact ⟨⟨h.1.1, h.1.2⟩, ih (x + 1) (by omega) h.2⟩

/-- A write keeps the canonical form. -/
theorem Memory.write_wf (m : Memory) (a : Nat) (b : Byte) (h : Memory.wf m = true) : Memory.wf (Memory.write m a b) = true :=
  Memory.wfFrom_write m a b 0 (Nat.zero_le _) h

/-- Writes of listed bytes keep the canonical form. -/
theorem Memory.writeAll_wf (cs : List Host.Cell) : ∀ (m : Memory), Memory.wf m = true →
    Memory.wf (Memory.writeAll m cs) = true := by
  induction cs with
  | nil => intro m h; exact h
  | cons c cs ih => obtain ⟨a, b⟩ := c; intro m h; exact ih _ (Memory.write_wf m a b h)

/-- Writes of consecutive bytes keep the canonical form. -/
theorem Memory.writeFrom_wf (bs : List Byte) : ∀ (m : Memory) (a : Nat), Memory.wf m = true →
    Memory.wf (Memory.writeFrom m a bs) = true := by
  induction bs with
  | nil => intro m _ h; exact h
  | cons b bs ih => intro m a h; exact ih _ (a + 1) (Memory.write_wf m a b h)

theorem Memory.read_put_same (m : Memory) (low a : Nat) (b : Byte) (h : Memory.wfFrom low m = true) (ha : a < low) :
    Memory.read (Memory.put m a b) a = b := by
  unfold Memory.put
  split
  · rename_i hb; rw [hb]; exact Memory.read_of_below m low a h ha
  · simp only [Memory.read, if_true]

theorem Memory.read_put_other (m : Memory) (a c : Nat) (b : Byte) (hc : c ≠ a) :
    Memory.read (Memory.put m a b) c = Memory.read m c := by
  unfold Memory.put
  split
  · rfl
  · simp only [Memory.read, if_neg hc]

theorem Memory.read_write_same_from (m : Memory) (a : Nat) (b : Byte) : ∀ (low : Nat), low ≤ a → Memory.wfFrom low m = true →
    Memory.read (Memory.write m a b) a = b := by
  induction m with
  | nil => intro low _ _; exact Memory.read_put_same [] (a + 1) a b rfl (by omega)
  | cons c m ih =>
    obtain ⟨x, v⟩ := c
    intro low hl h
    simp only [Memory.wfFrom, Bool.and_eq_true, decide_eq_true_eq] at h
    simp only [Memory.write]
    split
    · refine Memory.read_put_same _ (a + 1) a b ?_ (by omega)
      simp only [Memory.wfFrom, Bool.and_eq_true, decide_eq_true_eq]
      exact ⟨⟨by omega, h.1.2⟩, h.2⟩
    · split
      · rename_i heq
        exact Memory.read_put_same m (x + 1) a b h.2 (by omega)
      · rename_i hne
        simp only [Memory.read, if_neg hne]
        exact ih (x + 1) (by omega) h.2

/-- A read of the byte written gives it. -/
theorem Memory.read_write_same (m : Memory) (a : Nat) (b : Byte) (h : Memory.wf m = true) :
    Memory.read (Memory.write m a b) a = b :=
  Memory.read_write_same_from m a b 0 (Nat.zero_le _) h

/-- A write leaves every other byte alone. -/
theorem Memory.read_write_other (m : Memory) (a c : Nat) (b : Byte) (hc : c ≠ a) :
    Memory.read (Memory.write m a b) c = Memory.read m c := by
  induction m with
  | nil => exact Memory.read_put_other [] a c b hc
  | cons y m ih =>
    obtain ⟨x, v⟩ := y
    simp only [Memory.write]
    split
    · exact Memory.read_put_other _ a c b hc
    · split
      · rename_i heq
        rw [Memory.read_put_other m a c b hc]
        simp only [Memory.read, if_neg (by omega : c ≠ x)]
      · simp only [Memory.read, ih]

/-- Consecutive writes leave every byte outside their range alone. -/
theorem Memory.read_writeFrom_other (bs : List Byte) : ∀ (m : Memory) (a c : Nat), (c < a ∨ a + bs.length ≤ c) →
    Memory.read (Memory.writeFrom m a bs) c = Memory.read m c := by
  induction bs with
  | nil => intro m a c _; rfl
  | cons b bs ih =>
    intro m a c h
    simp only [List.length_cons] at h
    simp only [Memory.writeFrom]
    rw [ih _ (a + 1) c (by omega), Memory.read_write_other m a c b (by omega)]

/-- Writes of listed bytes leave every other byte alone. -/
theorem Memory.read_writeAll_other (cs : List Host.Cell) : ∀ (m : Memory) (a : Nat), (∀ c ∈ cs, c.1 ≠ a) →
    Memory.read (Memory.writeAll m cs) a = Memory.read m a := by
  induction cs with
  | nil => intro m a _; rfl
  | cons c cs ih =>
    obtain ⟨x, v⟩ := c
    intro m a h
    simp only [Memory.writeAll]
    rw [ih _ a (fun d hd => h d (List.mem_cons_of_mem _ hd)),
      Memory.read_write_other m x a v (fun he => h (x, v) (List.mem_cons_self ..) he.symm)]

end Sys2Proof.Machine
end

