-- ==== Sys2Proof/Laws/Metering.lean ====
section
/-! SUPPORT. What each operation of Machine/Metering.lean leaves as it stands, once for each operation; then what a metered block
makes: the integer square root, a channel's count, the energy unit and the block result. -/

namespace Sys2Proof.Machine

variable (s : State)

@[simp] theorem State.deliver_frame (r : BlockResult) :
    (s.deliver r).energy = s.energy ∧
      (s.deliver r).calendar = s.calendar ∧
      (s.deliver r).credit = s.credit ∧
      (s.deliver r).code = s.code ∧
      (s.deliver r).switch = s.switch ∧
      (s.deliver r).tamper = s.tamper ∧
      (s.deliver r).supply = s.supply ∧
      (s.deliver r).settings = s.settings ∧
      (s.deliver r).engine = s.engine ∧
      (s.deliver r).report = s.report ∧
      (s.deliver r).pins = s.pins ∧
      (s.deliver r).pending = s.pending ∧
      (s.deliver r).exchange = s.exchange := by
  refine ⟨?_, ?_, ?_, ?_, ?_, ?_, ?_, ?_, ?_, ?_, ?_, ?_, ?_⟩ <;>
    (simp only [State.deliver]; simp)

@[simp] theorem State.recordBlock_frame (b : Energy × BlockResult) :
    (s.recordBlock b).calendar = s.calendar ∧
      (s.recordBlock b).credit = s.credit ∧
      (s.recordBlock b).code = s.code ∧
      (s.recordBlock b).switch = s.switch ∧
      (s.recordBlock b).tamper = s.tamper ∧
      (s.recordBlock b).supply = s.supply ∧
      (s.recordBlock b).settings = s.settings ∧
      (s.recordBlock b).engine = s.engine ∧
      (s.recordBlock b).report = s.report ∧
      (s.recordBlock b).pins = s.pins ∧
      (s.recordBlock b).pending = s.pending ∧
      (s.recordBlock b).exchange = s.exchange := by
  refine ⟨?_, ?_, ?_, ?_, ?_, ?_, ?_, ?_, ?_, ?_, ?_, ?_⟩ <;>
    (simp only [State.recordBlock]; simp)

@[simp] theorem State.completeBlock_frame (sL sN : Int) (sV : Nat) :
    (s.completeBlock sL sN sV).calendar = s.calendar ∧
      (s.completeBlock sL sN sV).credit = s.credit ∧
      (s.completeBlock sL sN sV).code = s.code ∧
      (s.completeBlock sL sN sV).switch = s.switch ∧
      (s.completeBlock sL sN sV).tamper = s.tamper ∧
      (s.completeBlock sL sN sV).supply = s.supply ∧
      (s.completeBlock sL sN sV).settings = s.settings ∧
      (s.completeBlock sL sN sV).engine = s.engine ∧
      (s.completeBlock sL sN sV).report = s.report ∧
      (s.completeBlock sL sN sV).pins = s.pins ∧
      (s.completeBlock sL sN sV).pending = s.pending ∧
      (s.completeBlock sL sN sV).exchange = s.exchange := by
  refine ⟨?_, ?_, ?_, ?_, ?_, ?_, ?_, ?_, ?_, ?_, ?_, ?_⟩ <;>
    (simp only [State.completeBlock]; repeat' split) <;> simp

/-! ### The metered block -/

theorem isqrtBits_spec : ∀ k n r, r * r ≤ n → n < (r + 2 ^ k) * (r + 2 ^ k) →
    isqrtBits k n r * isqrtBits k n r ≤ n ∧ n < (isqrtBits k n r + 1) * (isqrtBits k n r + 1) := by
  intro k
  induction k with
  | zero => intro n r h1 h2; simpa [isqrtBits] using ⟨h1, h2⟩
  | succ k ih =>
    intro n r h1 h2
    simp only [isqrtBits]
    split
    · apply ih _ _ ‹_›
      have : r + 2 ^ k + 2 ^ k = r + 2 ^ (k + 1) := by omega
      rw [this]; exact h2
    · apply ih _ _ h1; omega

/-- The integer square root is the greatest integer whose square does not exceed its operand. -/
theorem isqrt_spec (n : Nat) : isqrt n * isqrt n ≤ n ∧ n < (isqrt n + 1) * (isqrt n + 1) := by
  apply isqrtBits_spec _ _ _ (by omega)
  simp only [Nat.zero_add]
  have := @Nat.lt_log2_self n
  have h : 2 ^ (n.log2 + 1) ≤ 2 ^ (n.log2 / 2 + 1) * 2 ^ (n.log2 / 2 + 1) := by
    rw [← Nat.pow_add]; apply Nat.pow_le_pow_right <;> omega
  omega

/-- What a channel counts, carries and points to. -/
theorem countChannel_spec (a : Int) (r c : Nat) :
    (a.natAbs < c * 2 ^ 32 → (countChannel a r c).energy = 0 ∧ (countChannel a r c).remainder = r) ∧
      (c * 2 ^ 32 ≤ a.natAbs →
        (countChannel a r c).energy * 2 ^ 32 + (countChannel a r c).remainder = a.natAbs + r ∧
          (countChannel a r c).remainder < 2 ^ 32) ∧
      (countChannel a r c).direction =
        if a.natAbs < c * 2 ^ 32 then .none else if 0 < a then .forward else if a < 0 then .reverse else .none := by
  have e : Config.energyUnit = 2 ^ 32 := rfl
  unfold countChannel
  rw [e]
  generalize hm : (2 : Nat) ^ 32 = k
  have hk : 0 < k := by omega
  clear e hm
  by_cases h : a.natAbs < c * k
  · simp only [if_pos h]; exact ⟨fun _ => ⟨trivial, trivial⟩, fun h' => absurd h (Nat.not_lt.2 h'), trivial⟩
  · simp only [if_neg h]
    refine ⟨fun h' => absurd h' h, fun _ => ⟨?_, Nat.mod_lt _ hk⟩, by simp only [directionOf]⟩
    rw [Nat.mul_comm]; exact Nat.div_add_mod _ _

/-- A block completion in RUN that is no settling block. -/
theorem exec_blockCompletion_metered (sL sN : Int) (sV : Nat) (h1 : s.supply.power = .run) (h2 : s.energy.settling = false) :
    execBlockCompletion sL sN sV s = .next (s.recordBlock (s.meterBlock sL sN sV)) := by
  simp [execBlockCompletion, h1, State.completeBlock, h2]

/-- The arrivals that a metered block sends. -/
theorem State.recordBlock_inFlight (b : Energy × BlockResult) :
    (s.recordBlock b).inFlight = s.inFlight ++ [.creditBlockResult b.2, .tamperBlockResult b.2, .switchBlockResult b.2,
      .supervisorBlockResult b.2, .blockCompletionReport] := by
  simp [State.recordBlock, State.deliver, State.send, State.onEnergy]

/-- The Energy Unit after a metered block. -/
theorem State.recordBlock_energy (b : Energy × BlockResult) : (s.recordBlock b).energy = b.1 := by
  simp [State.recordBlock, State.deliver, State.send, State.onEnergy]

/-- The whole of a metered block, from its products, its channels' counts, its billed energy and its voltage. -/
theorem State.meterBlock_eq (sL sN : Int) (sV : Nat) (aL aN : Int) (l n : ChannelCount) (b : Nat) (d : Direction) (u : Nat)
    (haL : sL * (s.setting .kL : Int) = aL) (haN : sN * (s.setting .kN : Int) = aN)
    (hl : countChannel aL s.energy.rL (s.setting .creep) = l) (hn : countChannel aN s.energy.rN (s.setting .creep) = n)
    (hb : (if billingChannel aL aN = .line then l.energy else n.energy) = b)
    (hd : (if billingChannel aL aN = .line then l.direction else n.direction) = d)
    (hu : blockVoltage sV (s.setting .kV) = u) :
    ∃ qi qr qb : Qualifier,
      qi = s.energy.imbalance.update (rawImbalance aL.natAbs aN.natAbs (s.setting .imbT) (s.setting .imbFloor)) ∧
      qr = s.energy.reverseFlow.update (rawReverse d b (s.setting .revFloor)) ∧
      qb = s.energy.bypass.update (rawBypass s.switch.relay b (s.setting .bypassFloor)) ∧
      s.meterBlock sL sN sV =
        ({ s.energy with
            billed := s.energy.billed + BitVec.ofNat 64 b,
            forward := if d = .forward then s.energy.forward + BitVec.ofNat 64 b else s.energy.forward,
            reverse := if d = .reverse then s.energy.reverse + BitVec.ofNat 64 b else s.energy.reverse,
            rL := l.remainder, rN := n.remainder, imbalance := qi, reverseFlow := qr, bypass := qb,
            power := blockPower b, voltage := u },
          { billed := b, channel := billingChannel aL aN, direction := d,
            lineMagnitude := aL.natAbs / Config.energyUnit, neutralMagnitude := aN.natAbs / Config.energyUnit,
            voltage := u, relay := s.switch.relay,
            imbalance := qi.report (s.setting .imbBlocks), reverse := qr.report Config.reverseBlocks,
            bypass := qb.report Config.bypassBlocks }) := by
  refine ⟨_, _, _, rfl, rfl, rfl, ?_⟩
  subst hb hd hu hl hn haL haN
  simp only [State.meterBlock, Energy.register]

/-- The fields of a metered block. -/
theorem State.meterBlock_fields (sL sN aL aN : Int) (sV : Nat) (l n : ChannelCount)
    (haL : sL * (s.setting .kL : Int) = aL) (haN : sN * (s.setting .kN : Int) = aN)
    (hl : countChannel aL s.energy.rL (s.setting .creep) = l) (hn : countChannel aN s.energy.rN (s.setting .creep) = n)
    (b : Energy × BlockResult) (hb : s.meterBlock sL sN sV = b) :
    b.1.rL = l.remainder ∧ b.1.rN = n.remainder ∧ b.2.channel = billingChannel aL aN ∧
      b.2.billed = (if billingChannel aL aN = .line then l.energy else n.energy) ∧
      b.2.direction = (if billingChannel aL aN = .line then l.direction else n.direction) ∧
      b.2.lineMagnitude = aL.natAbs / Config.energyUnit ∧ b.2.neutralMagnitude = aN.natAbs / Config.energyUnit ∧
      b.2.relay = s.switch.relay ∧ b.1.billed = s.energy.billed + BitVec.ofNat 64 b.2.billed ∧
      b.1.forward =
        (if b.2.direction = .forward then s.energy.forward + BitVec.ofNat 64 b.2.billed else s.energy.forward) ∧
      b.1.reverse =
        (if b.2.direction = .reverse then s.energy.reverse + BitVec.ofNat 64 b.2.billed else s.energy.reverse) ∧
      b.1.settling = s.energy.settling ∧ b.1.power = blockPower b.2.billed ∧ b.1.voltage = b.2.voltage ∧
      b.2.voltage = blockVoltage sV (s.setting .kV) := by
  obtain ⟨_, _, _, -, -, -, h⟩ := s.meterBlock_eq sL sN sV aL aN _ _ _ _ _ haL haN hl hn rfl rfl rfl
  rw [hb] at h
  refine ⟨?_, ?_, ?_, ?_, ?_, ?_, ?_, ?_, ?_, ?_, ?_, ?_, ?_, ?_, ?_⟩ <;> rw [h]

end Sys2Proof.Machine
end

