-- ==== Sys2Proof/Laws/Switching.lean ====
section
/-! SUPPORT. What each operation of Machine/Switching.lean leaves as it stands, once for each operation. -/

namespace Sys2Proof.Machine

variable (s : State)

@[simp] theorem State.startOp_frame (d : OpDirection) (origin : OpOrigin) :
    (s.startOp d origin).energy = s.energy ∧
      (s.startOp d origin).calendar = s.calendar ∧
      (s.startOp d origin).credit = s.credit ∧
      (s.startOp d origin).code = s.code ∧
      (s.startOp d origin).tamper = s.tamper ∧
      (s.startOp d origin).supply = s.supply ∧
      (s.startOp d origin).settings = s.settings ∧
      (s.startOp d origin).engine = s.engine ∧
      (s.startOp d origin).report = s.report ∧
      (s.startOp d origin).pins = s.pins ∧
      (s.startOp d origin).pending = s.pending ∧
      (s.startOp d origin).exchange = s.exchange := by
  refine ⟨?_, ?_, ?_, ?_, ?_, ?_, ?_, ?_, ?_, ?_, ?_, ?_⟩ <;>
    (simp only [State.startOp]; simp)

@[simp] theorem State.arrive_frame (st : RelayState) :
    (s.arrive st).energy = s.energy ∧
      (s.arrive st).calendar = s.calendar ∧
      (s.arrive st).credit = s.credit ∧
      (s.arrive st).code = s.code ∧
      (s.arrive st).tamper = s.tamper ∧
      (s.arrive st).supply = s.supply ∧
      (s.arrive st).settings = s.settings ∧
      (s.arrive st).engine = s.engine ∧
      (s.arrive st).report = s.report ∧
      (s.arrive st).pins = s.pins ∧
      (s.arrive st).pending = s.pending ∧
      (s.arrive st).exchange.mem = s.exchange.mem ∧
      (s.arrive st).exchange.link = s.exchange.link ∧
      (s.arrive st).exchange.frame = s.exchange.frame ∧
      (s.arrive st).exchange.ignoring = s.exchange.ignoring ∧
      (s.arrive st).exchange.enable = s.exchange.enable ∧
      (s.arrive st).exchange.mirrorHolder = s.exchange.mirrorHolder ∧
      (s.arrive st).exchange.stageHolder = s.exchange.stageHolder ∧
      (s.arrive st).exchange.linkRequest = s.exchange.linkRequest ∧
      (s.arrive st).exchange.hold = s.exchange.hold ∧
      (s.arrive st).exchange.answersTold = s.exchange.answersTold ∧
      (s.arrive st).exchange.resetPending = s.exchange.resetPending ∧
      (s.arrive st).exchange.miso = s.exchange.miso := by
  refine ⟨?_, ?_, ?_, ?_, ?_, ?_, ?_, ?_, ?_, ?_, ?_, ?_, ?_, ?_, ?_, ?_, ?_, ?_, ?_, ?_, ?_, ?_, ?_⟩ <;>
    (simp only [State.arrive]; repeat' split) <;> simp

@[simp] theorem State.stuckCheck_frame  :
    (s.stuckCheck).energy = s.energy ∧
      (s.stuckCheck).calendar = s.calendar ∧
      (s.stuckCheck).credit = s.credit ∧
      (s.stuckCheck).code = s.code ∧
      (s.stuckCheck).tamper = s.tamper ∧
      (s.stuckCheck).supply = s.supply ∧
      (s.stuckCheck).settings = s.settings ∧
      (s.stuckCheck).engine = s.engine ∧
      (s.stuckCheck).report = s.report ∧
      (s.stuckCheck).pins = s.pins ∧
      (s.stuckCheck).pending = s.pending ∧
      (s.stuckCheck).exchange.mem = s.exchange.mem ∧
      (s.stuckCheck).exchange.link = s.exchange.link ∧
      (s.stuckCheck).exchange.frame = s.exchange.frame ∧
      (s.stuckCheck).exchange.ignoring = s.exchange.ignoring ∧
      (s.stuckCheck).exchange.enable = s.exchange.enable ∧
      (s.stuckCheck).exchange.mirrorHolder = s.exchange.mirrorHolder ∧
      (s.stuckCheck).exchange.stageHolder = s.exchange.stageHolder ∧
      (s.stuckCheck).exchange.linkRequest = s.exchange.linkRequest ∧
      (s.stuckCheck).exchange.hold = s.exchange.hold ∧
      (s.stuckCheck).exchange.answersTold = s.exchange.answersTold ∧
      (s.stuckCheck).exchange.resetPending = s.exchange.resetPending ∧
      (s.stuckCheck).exchange.miso = s.exchange.miso := by
  refine ⟨?_, ?_, ?_, ?_, ?_, ?_, ?_, ?_, ?_, ?_, ?_, ?_, ?_, ?_, ?_, ?_, ?_, ?_, ?_, ?_, ?_, ?_, ?_⟩ <;>
    (simp only [State.stuckCheck]; repeat' split) <;> simp

@[simp] theorem State.reverseClosing_frame  :
    (s.reverseClosing).energy = s.energy ∧
      (s.reverseClosing).calendar = s.calendar ∧
      (s.reverseClosing).credit = s.credit ∧
      (s.reverseClosing).code = s.code ∧
      (s.reverseClosing).tamper = s.tamper ∧
      (s.reverseClosing).supply = s.supply ∧
      (s.reverseClosing).settings = s.settings ∧
      (s.reverseClosing).engine = s.engine ∧
      (s.reverseClosing).report = s.report ∧
      (s.reverseClosing).pins = s.pins ∧
      (s.reverseClosing).pending = s.pending ∧
      (s.reverseClosing).exchange = s.exchange := by
  refine ⟨?_, ?_, ?_, ?_, ?_, ?_, ?_, ?_, ?_, ?_, ?_, ?_⟩ <;>
    (simp only [State.reverseClosing]; repeat' split) <;> simp

@[simp] theorem State.becameNonEmpty_frame  :
    (s.becameNonEmpty).energy = s.energy ∧
      (s.becameNonEmpty).calendar = s.calendar ∧
      (s.becameNonEmpty).credit = s.credit ∧
      (s.becameNonEmpty).code = s.code ∧
      (s.becameNonEmpty).tamper = s.tamper ∧
      (s.becameNonEmpty).supply = s.supply ∧
      (s.becameNonEmpty).settings = s.settings ∧
      (s.becameNonEmpty).engine = s.engine ∧
      (s.becameNonEmpty).report = s.report ∧
      (s.becameNonEmpty).pins = s.pins ∧
      (s.becameNonEmpty).pending = s.pending ∧
      (s.becameNonEmpty).exchange.mem = s.exchange.mem ∧
      (s.becameNonEmpty).exchange.link = s.exchange.link ∧
      (s.becameNonEmpty).exchange.frame = s.exchange.frame ∧
      (s.becameNonEmpty).exchange.ignoring = s.exchange.ignoring ∧
      (s.becameNonEmpty).exchange.enable = s.exchange.enable ∧
      (s.becameNonEmpty).exchange.mirrorHolder = s.exchange.mirrorHolder ∧
      (s.becameNonEmpty).exchange.stageHolder = s.exchange.stageHolder ∧
      (s.becameNonEmpty).exchange.linkRequest = s.exchange.linkRequest ∧
      (s.becameNonEmpty).exchange.hold = s.exchange.hold ∧
      (s.becameNonEmpty).exchange.answersTold = s.exchange.answersTold ∧
      (s.becameNonEmpty).exchange.resetPending = s.exchange.resetPending ∧
      (s.becameNonEmpty).exchange.miso = s.exchange.miso := by
  refine ⟨?_, ?_, ?_, ?_, ?_, ?_, ?_, ?_, ?_, ?_, ?_, ?_, ?_, ?_, ?_, ?_, ?_, ?_, ?_, ?_, ?_, ?_, ?_⟩ <;>
    (simp only [State.becameNonEmpty]; repeat' split) <;> simp

@[simp] theorem State.openChoice_frame  :
    (s.openChoice).energy = s.energy ∧
      (s.openChoice).calendar = s.calendar ∧
      (s.openChoice).credit = s.credit ∧
      (s.openChoice).code = s.code ∧
      (s.openChoice).tamper = s.tamper ∧
      (s.openChoice).supply = s.supply ∧
      (s.openChoice).settings = s.settings ∧
      (s.openChoice).engine = s.engine ∧
      (s.openChoice).report = s.report ∧
      (s.openChoice).pins = s.pins ∧
      (s.openChoice).pending = s.pending ∧
      (s.openChoice).exchange.mem = s.exchange.mem ∧
      (s.openChoice).exchange.link = s.exchange.link ∧
      (s.openChoice).exchange.frame = s.exchange.frame ∧
      (s.openChoice).exchange.ignoring = s.exchange.ignoring ∧
      (s.openChoice).exchange.enable = s.exchange.enable ∧
      (s.openChoice).exchange.mirrorHolder = s.exchange.mirrorHolder ∧
      (s.openChoice).exchange.stageHolder = s.exchange.stageHolder ∧
      (s.openChoice).exchange.linkRequest = s.exchange.linkRequest ∧
      (s.openChoice).exchange.hold = s.exchange.hold ∧
      (s.openChoice).exchange.answersTold = s.exchange.answersTold ∧
      (s.openChoice).exchange.resetPending = s.exchange.resetPending ∧
      (s.openChoice).exchange.miso = s.exchange.miso := by
  refine ⟨?_, ?_, ?_, ?_, ?_, ?_, ?_, ?_, ?_, ?_, ?_, ?_, ?_, ?_, ?_, ?_, ?_, ?_, ?_, ?_, ?_, ?_, ?_⟩ <;>
    (simp only [State.openChoice]; repeat' split) <;> simp

@[simp] theorem State.becameEmpty_frame  :
    (s.becameEmpty).energy = s.energy ∧
      (s.becameEmpty).calendar = s.calendar ∧
      (s.becameEmpty).credit = s.credit ∧
      (s.becameEmpty).code = s.code ∧
      (s.becameEmpty).tamper = s.tamper ∧
      (s.becameEmpty).supply = s.supply ∧
      (s.becameEmpty).settings = s.settings ∧
      (s.becameEmpty).engine = s.engine ∧
      (s.becameEmpty).report = s.report ∧
      (s.becameEmpty).pins = s.pins ∧
      (s.becameEmpty).pending = s.pending ∧
      (s.becameEmpty).exchange.mem = s.exchange.mem ∧
      (s.becameEmpty).exchange.link = s.exchange.link ∧
      (s.becameEmpty).exchange.frame = s.exchange.frame ∧
      (s.becameEmpty).exchange.ignoring = s.exchange.ignoring ∧
      (s.becameEmpty).exchange.enable = s.exchange.enable ∧
      (s.becameEmpty).exchange.mirrorHolder = s.exchange.mirrorHolder ∧
      (s.becameEmpty).exchange.stageHolder = s.exchange.stageHolder ∧
      (s.becameEmpty).exchange.linkRequest = s.exchange.linkRequest ∧
      (s.becameEmpty).exchange.hold = s.exchange.hold ∧
      (s.becameEmpty).exchange.answersTold = s.exchange.answersTold ∧
      (s.becameEmpty).exchange.resetPending = s.exchange.resetPending ∧
      (s.becameEmpty).exchange.miso = s.exchange.miso := by
  refine ⟨?_, ?_, ?_, ?_, ?_, ?_, ?_, ?_, ?_, ?_, ?_, ?_, ?_, ?_, ?_, ?_, ?_, ?_, ?_, ?_, ?_, ?_, ?_⟩ <;>
    (simp only [State.becameEmpty]; repeat' split) <;> simp

@[simp] theorem State.addReason_frame (r : Reason) :
    (s.addReason r).energy = s.energy ∧
      (s.addReason r).calendar = s.calendar ∧
      (s.addReason r).credit = s.credit ∧
      (s.addReason r).code = s.code ∧
      (s.addReason r).tamper = s.tamper ∧
      (s.addReason r).supply = s.supply ∧
      (s.addReason r).settings = s.settings ∧
      (s.addReason r).engine = s.engine ∧
      (s.addReason r).report = s.report ∧
      (s.addReason r).pins = s.pins ∧
      (s.addReason r).pending = s.pending ∧
      (s.addReason r).exchange.mem = s.exchange.mem ∧
      (s.addReason r).exchange.link = s.exchange.link ∧
      (s.addReason r).exchange.frame = s.exchange.frame ∧
      (s.addReason r).exchange.ignoring = s.exchange.ignoring ∧
      (s.addReason r).exchange.enable = s.exchange.enable ∧
      (s.addReason r).exchange.mirrorHolder = s.exchange.mirrorHolder ∧
      (s.addReason r).exchange.stageHolder = s.exchange.stageHolder ∧
      (s.addReason r).exchange.linkRequest = s.exchange.linkRequest ∧
      (s.addReason r).exchange.hold = s.exchange.hold ∧
      (s.addReason r).exchange.answersTold = s.exchange.answersTold ∧
      (s.addReason r).exchange.resetPending = s.exchange.resetPending ∧
      (s.addReason r).exchange.miso = s.exchange.miso := by
  refine ⟨?_, ?_, ?_, ?_, ?_, ?_, ?_, ?_, ?_, ?_, ?_, ?_, ?_, ?_, ?_, ?_, ?_, ?_, ?_, ?_, ?_, ?_, ?_⟩ <;>
    (simp only [State.addReason]; repeat' split) <;> simp

@[simp] theorem State.removeReason_frame (r : Reason) :
    (s.removeReason r).energy = s.energy ∧
      (s.removeReason r).calendar = s.calendar ∧
      (s.removeReason r).credit = s.credit ∧
      (s.removeReason r).code = s.code ∧
      (s.removeReason r).tamper = s.tamper ∧
      (s.removeReason r).supply = s.supply ∧
      (s.removeReason r).settings = s.settings ∧
      (s.removeReason r).engine = s.engine ∧
      (s.removeReason r).report = s.report ∧
      (s.removeReason r).pins = s.pins ∧
      (s.removeReason r).pending = s.pending ∧
      (s.removeReason r).exchange.mem = s.exchange.mem ∧
      (s.removeReason r).exchange.link = s.exchange.link ∧
      (s.removeReason r).exchange.frame = s.exchange.frame ∧
      (s.removeReason r).exchange.ignoring = s.exchange.ignoring ∧
      (s.removeReason r).exchange.enable = s.exchange.enable ∧
      (s.removeReason r).exchange.mirrorHolder = s.exchange.mirrorHolder ∧
      (s.removeReason r).exchange.stageHolder = s.exchange.stageHolder ∧
      (s.removeReason r).exchange.linkRequest = s.exchange.linkRequest ∧
      (s.removeReason r).exchange.hold = s.exchange.hold ∧
      (s.removeReason r).exchange.answersTold = s.exchange.answersTold ∧
      (s.removeReason r).exchange.resetPending = s.exchange.resetPending ∧
      (s.removeReason r).exchange.miso = s.exchange.miso := by
  refine ⟨?_, ?_, ?_, ?_, ?_, ?_, ?_, ?_, ?_, ?_, ?_, ?_, ?_, ?_, ?_, ?_, ?_, ?_, ?_, ?_, ?_, ?_, ?_⟩ <;>
    (simp only [State.removeReason]; repeat' split) <;> simp

@[simp] theorem State.beginDrive_frame (o : Operation) (cs : Nat) :
    (s.beginDrive o cs).energy = s.energy ∧
      (s.beginDrive o cs).calendar = s.calendar ∧
      (s.beginDrive o cs).credit = s.credit ∧
      (s.beginDrive o cs).code = s.code ∧
      (s.beginDrive o cs).tamper = s.tamper ∧
      (s.beginDrive o cs).supply = s.supply ∧
      (s.beginDrive o cs).settings = s.settings ∧
      (s.beginDrive o cs).engine = s.engine ∧
      (s.beginDrive o cs).report = s.report ∧
      (s.beginDrive o cs).pins = s.pins ∧
      (s.beginDrive o cs).pending = s.pending ∧
      (s.beginDrive o cs).exchange = s.exchange ∧
      (s.beginDrive o cs).inFlight = s.inFlight := by
  refine ⟨?_, ?_, ?_, ?_, ?_, ?_, ?_, ?_, ?_, ?_, ?_, ?_, ?_⟩ <;>
    (simp only [State.beginDrive]; simp)

@[simp] theorem State.takeReading_frame (o : Operation) (cs : Nat) :
    (s.takeReading o cs).energy = s.energy ∧
      (s.takeReading o cs).calendar = s.calendar ∧
      (s.takeReading o cs).credit = s.credit ∧
      (s.takeReading o cs).code = s.code ∧
      (s.takeReading o cs).tamper = s.tamper ∧
      (s.takeReading o cs).supply = s.supply ∧
      (s.takeReading o cs).settings = s.settings ∧
      (s.takeReading o cs).engine = s.engine ∧
      (s.takeReading o cs).report = s.report ∧
      (s.takeReading o cs).pins = s.pins ∧
      (s.takeReading o cs).pending = s.pending ∧
      (s.takeReading o cs).exchange.mem = s.exchange.mem ∧
      (s.takeReading o cs).exchange.link = s.exchange.link ∧
      (s.takeReading o cs).exchange.frame = s.exchange.frame ∧
      (s.takeReading o cs).exchange.ignoring = s.exchange.ignoring ∧
      (s.takeReading o cs).exchange.enable = s.exchange.enable ∧
      (s.takeReading o cs).exchange.mirrorHolder = s.exchange.mirrorHolder ∧
      (s.takeReading o cs).exchange.stageHolder = s.exchange.stageHolder ∧
      (s.takeReading o cs).exchange.linkRequest = s.exchange.linkRequest ∧
      (s.takeReading o cs).exchange.hold = s.exchange.hold ∧
      (s.takeReading o cs).exchange.answersTold = s.exchange.answersTold ∧
      (s.takeReading o cs).exchange.resetPending = s.exchange.resetPending ∧
      (s.takeReading o cs).exchange.miso = s.exchange.miso ∧
      (s.takeReading o cs).inFlight = s.inFlight := by
  refine ⟨?_, ?_, ?_, ?_, ?_, ?_, ?_, ?_, ?_, ?_, ?_, ?_, ?_, ?_, ?_, ?_, ?_, ?_, ?_, ?_, ?_, ?_, ?_, ?_⟩ <;>
    (simp only [State.takeReading]; repeat' split) <;> simp

@[simp] theorem State.coilTaken_frame (cs : Nat) :
    (s.coilTaken cs).energy = s.energy ∧
      (s.coilTaken cs).calendar = s.calendar ∧
      (s.coilTaken cs).credit = s.credit ∧
      (s.coilTaken cs).code = s.code ∧
      (s.coilTaken cs).tamper = s.tamper ∧
      (s.coilTaken cs).supply = s.supply ∧
      (s.coilTaken cs).settings = s.settings ∧
      (s.coilTaken cs).engine = s.engine ∧
      (s.coilTaken cs).report = s.report ∧
      (s.coilTaken cs).pins = s.pins ∧
      (s.coilTaken cs).pending = s.pending ∧
      (s.coilTaken cs).exchange.mem = s.exchange.mem ∧
      (s.coilTaken cs).exchange.link = s.exchange.link ∧
      (s.coilTaken cs).exchange.frame = s.exchange.frame ∧
      (s.coilTaken cs).exchange.ignoring = s.exchange.ignoring ∧
      (s.coilTaken cs).exchange.enable = s.exchange.enable ∧
      (s.coilTaken cs).exchange.mirrorHolder = s.exchange.mirrorHolder ∧
      (s.coilTaken cs).exchange.stageHolder = s.exchange.stageHolder ∧
      (s.coilTaken cs).exchange.linkRequest = s.exchange.linkRequest ∧
      (s.coilTaken cs).exchange.hold = s.exchange.hold ∧
      (s.coilTaken cs).exchange.answersTold = s.exchange.answersTold ∧
      (s.coilTaken cs).exchange.resetPending = s.exchange.resetPending ∧
      (s.coilTaken cs).exchange.miso = s.exchange.miso ∧
      (s.coilTaken cs).inFlight = s.inFlight := by
  refine ⟨?_, ?_, ?_, ?_, ?_, ?_, ?_, ?_, ?_, ?_, ?_, ?_, ?_, ?_, ?_, ?_, ?_, ?_, ?_, ?_, ?_, ?_, ?_, ?_⟩ <;>
    (simp only [State.coilTaken]; repeat' split) <;> simp

@[simp] theorem State.endDrive_frame  :
    (s.endDrive).energy = s.energy ∧
      (s.endDrive).calendar = s.calendar ∧
      (s.endDrive).credit = s.credit ∧
      (s.endDrive).code = s.code ∧
      (s.endDrive).tamper = s.tamper ∧
      (s.endDrive).supply = s.supply ∧
      (s.endDrive).settings = s.settings ∧
      (s.endDrive).engine = s.engine ∧
      (s.endDrive).report = s.report ∧
      (s.endDrive).pins = s.pins ∧
      (s.endDrive).pending = s.pending ∧
      (s.endDrive).exchange = s.exchange := by
  refine ⟨?_, ?_, ?_, ?_, ?_, ?_, ?_, ?_, ?_, ?_, ?_, ?_⟩ <;>
    (simp only [State.endDrive]; repeat' split) <;> simp

@[simp] theorem State.opMatched_frame (d : OpDirection) :
    (s.opMatched d).energy = s.energy ∧
      (s.opMatched d).calendar = s.calendar ∧
      (s.opMatched d).credit = s.credit ∧
      (s.opMatched d).code = s.code ∧
      (s.opMatched d).tamper = s.tamper ∧
      (s.opMatched d).supply = s.supply ∧
      (s.opMatched d).settings = s.settings ∧
      (s.opMatched d).engine = s.engine ∧
      (s.opMatched d).report = s.report ∧
      (s.opMatched d).pins = s.pins ∧
      (s.opMatched d).pending = s.pending ∧
      (s.opMatched d).exchange.mem = s.exchange.mem ∧
      (s.opMatched d).exchange.link = s.exchange.link ∧
      (s.opMatched d).exchange.frame = s.exchange.frame ∧
      (s.opMatched d).exchange.ignoring = s.exchange.ignoring ∧
      (s.opMatched d).exchange.enable = s.exchange.enable ∧
      (s.opMatched d).exchange.mirrorHolder = s.exchange.mirrorHolder ∧
      (s.opMatched d).exchange.stageHolder = s.exchange.stageHolder ∧
      (s.opMatched d).exchange.linkRequest = s.exchange.linkRequest ∧
      (s.opMatched d).exchange.hold = s.exchange.hold ∧
      (s.opMatched d).exchange.answersTold = s.exchange.answersTold ∧
      (s.opMatched d).exchange.resetPending = s.exchange.resetPending ∧
      (s.opMatched d).exchange.miso = s.exchange.miso := by
  refine ⟨?_, ?_, ?_, ?_, ?_, ?_, ?_, ?_, ?_, ?_, ?_, ?_, ?_, ?_, ?_, ?_, ?_, ?_, ?_, ?_, ?_, ?_, ?_⟩ <;>
    (simp only [State.opMatched]; repeat' split) <;> simp

@[simp] theorem State.opFailed_frame (o : Operation) :
    (s.opFailed o).energy = s.energy ∧
      (s.opFailed o).calendar = s.calendar ∧
      (s.opFailed o).credit = s.credit ∧
      (s.opFailed o).code = s.code ∧
      (s.opFailed o).tamper = s.tamper ∧
      (s.opFailed o).supply = s.supply ∧
      (s.opFailed o).settings = s.settings ∧
      (s.opFailed o).engine = s.engine ∧
      (s.opFailed o).report = s.report ∧
      (s.opFailed o).pins = s.pins ∧
      (s.opFailed o).pending = s.pending ∧
      (s.opFailed o).exchange.mem = s.exchange.mem ∧
      (s.opFailed o).exchange.link = s.exchange.link ∧
      (s.opFailed o).exchange.frame = s.exchange.frame ∧
      (s.opFailed o).exchange.ignoring = s.exchange.ignoring ∧
      (s.opFailed o).exchange.enable = s.exchange.enable ∧
      (s.opFailed o).exchange.mirrorHolder = s.exchange.mirrorHolder ∧
      (s.opFailed o).exchange.stageHolder = s.exchange.stageHolder ∧
      (s.opFailed o).exchange.linkRequest = s.exchange.linkRequest ∧
      (s.opFailed o).exchange.hold = s.exchange.hold ∧
      (s.opFailed o).exchange.answersTold = s.exchange.answersTold ∧
      (s.opFailed o).exchange.resetPending = s.exchange.resetPending ∧
      (s.opFailed o).exchange.miso = s.exchange.miso := by
  refine ⟨?_, ?_, ?_, ?_, ?_, ?_, ?_, ?_, ?_, ?_, ?_, ?_, ?_, ?_, ?_, ?_, ?_, ?_, ?_, ?_, ?_, ?_, ?_⟩ <;>
    (simp only [State.opFailed]; repeat' split) <;> simp

@[simp] theorem State.retryOp_frame (o : Operation) :
    (s.retryOp o).energy = s.energy ∧
      (s.retryOp o).calendar = s.calendar ∧
      (s.retryOp o).credit = s.credit ∧
      (s.retryOp o).code = s.code ∧
      (s.retryOp o).tamper = s.tamper ∧
      (s.retryOp o).supply = s.supply ∧
      (s.retryOp o).settings = s.settings ∧
      (s.retryOp o).engine = s.engine ∧
      (s.retryOp o).report = s.report ∧
      (s.retryOp o).pins = s.pins ∧
      (s.retryOp o).pending = s.pending ∧
      (s.retryOp o).exchange = s.exchange := by
  refine ⟨?_, ?_, ?_, ?_, ?_, ?_, ?_, ?_, ?_, ?_, ?_, ?_⟩ <;>
    (simp only [State.retryOp]; simp)

@[simp] theorem State.compareSettled_frame (o : Operation) :
    (s.compareSettled o).energy = s.energy ∧
      (s.compareSettled o).calendar = s.calendar ∧
      (s.compareSettled o).credit = s.credit ∧
      (s.compareSettled o).code = s.code ∧
      (s.compareSettled o).tamper = s.tamper ∧
      (s.compareSettled o).supply = s.supply ∧
      (s.compareSettled o).settings = s.settings ∧
      (s.compareSettled o).engine = s.engine ∧
      (s.compareSettled o).report = s.report ∧
      (s.compareSettled o).pins = s.pins ∧
      (s.compareSettled o).pending = s.pending ∧
      (s.compareSettled o).exchange.mem = s.exchange.mem ∧
      (s.compareSettled o).exchange.link = s.exchange.link ∧
      (s.compareSettled o).exchange.frame = s.exchange.frame ∧
      (s.compareSettled o).exchange.ignoring = s.exchange.ignoring ∧
      (s.compareSettled o).exchange.enable = s.exchange.enable ∧
      (s.compareSettled o).exchange.mirrorHolder = s.exchange.mirrorHolder ∧
      (s.compareSettled o).exchange.stageHolder = s.exchange.stageHolder ∧
      (s.compareSettled o).exchange.linkRequest = s.exchange.linkRequest ∧
      (s.compareSettled o).exchange.hold = s.exchange.hold ∧
      (s.compareSettled o).exchange.answersTold = s.exchange.answersTold ∧
      (s.compareSettled o).exchange.resetPending = s.exchange.resetPending ∧
      (s.compareSettled o).exchange.miso = s.exchange.miso := by
  refine ⟨?_, ?_, ?_, ?_, ?_, ?_, ?_, ?_, ?_, ?_, ?_, ?_, ?_, ?_, ?_, ?_, ?_, ?_, ?_, ?_, ?_, ?_, ?_⟩ <;>
    (simp only [State.compareSettled]; repeat' split) <;> simp

@[simp] theorem State.endSettle_frame  :
    (s.endSettle).energy = s.energy ∧
      (s.endSettle).calendar = s.calendar ∧
      (s.endSettle).credit = s.credit ∧
      (s.endSettle).code = s.code ∧
      (s.endSettle).tamper = s.tamper ∧
      (s.endSettle).supply = s.supply ∧
      (s.endSettle).settings = s.settings ∧
      (s.endSettle).engine = s.engine ∧
      (s.endSettle).report = s.report ∧
      (s.endSettle).pins = s.pins ∧
      (s.endSettle).pending = s.pending ∧
      (s.endSettle).exchange.mem = s.exchange.mem ∧
      (s.endSettle).exchange.link = s.exchange.link ∧
      (s.endSettle).exchange.frame = s.exchange.frame ∧
      (s.endSettle).exchange.ignoring = s.exchange.ignoring ∧
      (s.endSettle).exchange.enable = s.exchange.enable ∧
      (s.endSettle).exchange.mirrorHolder = s.exchange.mirrorHolder ∧
      (s.endSettle).exchange.stageHolder = s.exchange.stageHolder ∧
      (s.endSettle).exchange.linkRequest = s.exchange.linkRequest ∧
      (s.endSettle).exchange.hold = s.exchange.hold ∧
      (s.endSettle).exchange.answersTold = s.exchange.answersTold ∧
      (s.endSettle).exchange.resetPending = s.exchange.resetPending ∧
      (s.endSettle).exchange.miso = s.exchange.miso := by
  refine ⟨?_, ?_, ?_, ?_, ?_, ?_, ?_, ?_, ?_, ?_, ?_, ?_, ?_, ?_, ?_, ?_, ?_, ?_, ?_, ?_, ?_, ?_, ?_⟩ <;>
    (simp only [State.endSettle]; repeat' split) <;> simp

@[simp] theorem State.trip_frame (billed : Nat) :
    (s.trip billed).energy = s.energy ∧
      (s.trip billed).calendar = s.calendar ∧
      (s.trip billed).credit = s.credit ∧
      (s.trip billed).code = s.code ∧
      (s.trip billed).tamper = s.tamper ∧
      (s.trip billed).supply = s.supply ∧
      (s.trip billed).settings = s.settings ∧
      (s.trip billed).engine = s.engine ∧
      (s.trip billed).report = s.report ∧
      (s.trip billed).pins = s.pins ∧
      (s.trip billed).pending = s.pending ∧
      (s.trip billed).exchange.mem = s.exchange.mem ∧
      (s.trip billed).exchange.link = s.exchange.link ∧
      (s.trip billed).exchange.frame = s.exchange.frame ∧
      (s.trip billed).exchange.ignoring = s.exchange.ignoring ∧
      (s.trip billed).exchange.enable = s.exchange.enable ∧
      (s.trip billed).exchange.mirrorHolder = s.exchange.mirrorHolder ∧
      (s.trip billed).exchange.stageHolder = s.exchange.stageHolder ∧
      (s.trip billed).exchange.linkRequest = s.exchange.linkRequest ∧
      (s.trip billed).exchange.hold = s.exchange.hold ∧
      (s.trip billed).exchange.answersTold = s.exchange.answersTold ∧
      (s.trip billed).exchange.resetPending = s.exchange.resetPending ∧
      (s.trip billed).exchange.miso = s.exchange.miso := by
  refine ⟨?_, ?_, ?_, ?_, ?_, ?_, ?_, ?_, ?_, ?_, ?_, ?_, ?_, ?_, ?_, ?_, ?_, ?_, ?_, ?_, ?_, ?_, ?_⟩ <;>
    (simp only [State.trip]; repeat' split) <;> simp

@[simp] theorem State.testLimit_frame (billed : Nat) :
    (s.testLimit billed).energy = s.energy ∧
      (s.testLimit billed).calendar = s.calendar ∧
      (s.testLimit billed).credit = s.credit ∧
      (s.testLimit billed).code = s.code ∧
      (s.testLimit billed).tamper = s.tamper ∧
      (s.testLimit billed).supply = s.supply ∧
      (s.testLimit billed).settings = s.settings ∧
      (s.testLimit billed).engine = s.engine ∧
      (s.testLimit billed).report = s.report ∧
      (s.testLimit billed).pins = s.pins ∧
      (s.testLimit billed).pending = s.pending ∧
      (s.testLimit billed).exchange.mem = s.exchange.mem ∧
      (s.testLimit billed).exchange.link = s.exchange.link ∧
      (s.testLimit billed).exchange.frame = s.exchange.frame ∧
      (s.testLimit billed).exchange.ignoring = s.exchange.ignoring ∧
      (s.testLimit billed).exchange.enable = s.exchange.enable ∧
      (s.testLimit billed).exchange.mirrorHolder = s.exchange.mirrorHolder ∧
      (s.testLimit billed).exchange.stageHolder = s.exchange.stageHolder ∧
      (s.testLimit billed).exchange.linkRequest = s.exchange.linkRequest ∧
      (s.testLimit billed).exchange.hold = s.exchange.hold ∧
      (s.testLimit billed).exchange.answersTold = s.exchange.answersTold ∧
      (s.testLimit billed).exchange.resetPending = s.exchange.resetPending ∧
      (s.testLimit billed).exchange.miso = s.exchange.miso := by
  refine ⟨?_, ?_, ?_, ?_, ?_, ?_, ?_, ?_, ?_, ?_, ?_, ?_, ?_, ?_, ?_, ?_, ?_, ?_, ?_, ?_, ?_, ?_, ?_⟩ <;>
    (simp only [State.testLimit]; repeat' split) <;> simp

@[simp] theorem State.backoffSecond_frame  :
    (s.backoffSecond).energy = s.energy ∧
      (s.backoffSecond).calendar = s.calendar ∧
      (s.backoffSecond).credit = s.credit ∧
      (s.backoffSecond).code = s.code ∧
      (s.backoffSecond).tamper = s.tamper ∧
      (s.backoffSecond).supply = s.supply ∧
      (s.backoffSecond).settings = s.settings ∧
      (s.backoffSecond).engine = s.engine ∧
      (s.backoffSecond).report = s.report ∧
      (s.backoffSecond).pins = s.pins ∧
      (s.backoffSecond).pending = s.pending ∧
      (s.backoffSecond).exchange.mem = s.exchange.mem ∧
      (s.backoffSecond).exchange.link = s.exchange.link ∧
      (s.backoffSecond).exchange.frame = s.exchange.frame ∧
      (s.backoffSecond).exchange.ignoring = s.exchange.ignoring ∧
      (s.backoffSecond).exchange.enable = s.exchange.enable ∧
      (s.backoffSecond).exchange.mirrorHolder = s.exchange.mirrorHolder ∧
      (s.backoffSecond).exchange.stageHolder = s.exchange.stageHolder ∧
      (s.backoffSecond).exchange.linkRequest = s.exchange.linkRequest ∧
      (s.backoffSecond).exchange.hold = s.exchange.hold ∧
      (s.backoffSecond).exchange.answersTold = s.exchange.answersTold ∧
      (s.backoffSecond).exchange.resetPending = s.exchange.resetPending ∧
      (s.backoffSecond).exchange.miso = s.exchange.miso := by
  refine ⟨?_, ?_, ?_, ?_, ?_, ?_, ?_, ?_, ?_, ?_, ?_, ?_, ?_, ?_, ?_, ?_, ?_, ?_, ?_, ?_, ?_, ?_, ?_⟩ <;>
    (simp only [State.backoffSecond]; repeat' split) <;> simp

@[simp] theorem State.stuckRetryTime_frame  :
    (s.stuckRetryTime).energy = s.energy ∧
      (s.stuckRetryTime).calendar = s.calendar ∧
      (s.stuckRetryTime).credit = s.credit ∧
      (s.stuckRetryTime).code = s.code ∧
      (s.stuckRetryTime).tamper = s.tamper ∧
      (s.stuckRetryTime).supply = s.supply ∧
      (s.stuckRetryTime).settings = s.settings ∧
      (s.stuckRetryTime).engine = s.engine ∧
      (s.stuckRetryTime).report = s.report ∧
      (s.stuckRetryTime).pins = s.pins ∧
      (s.stuckRetryTime).pending = s.pending ∧
      (s.stuckRetryTime).exchange = s.exchange := by
  refine ⟨?_, ?_, ?_, ?_, ?_, ?_, ?_, ?_, ?_, ?_, ?_, ?_⟩ <;>
    (simp only [State.stuckRetryTime]; repeat' split) <;> simp

@[simp] theorem State.stuckSecond_frame  :
    (s.stuckSecond).energy = s.energy ∧
      (s.stuckSecond).calendar = s.calendar ∧
      (s.stuckSecond).credit = s.credit ∧
      (s.stuckSecond).code = s.code ∧
      (s.stuckSecond).tamper = s.tamper ∧
      (s.stuckSecond).supply = s.supply ∧
      (s.stuckSecond).settings = s.settings ∧
      (s.stuckSecond).engine = s.engine ∧
      (s.stuckSecond).report = s.report ∧
      (s.stuckSecond).pins = s.pins ∧
      (s.stuckSecond).pending = s.pending ∧
      (s.stuckSecond).exchange = s.exchange := by
  refine ⟨?_, ?_, ?_, ?_, ?_, ?_, ?_, ?_, ?_, ?_, ?_, ?_⟩ <;>
    (simp only [State.stuckSecond]; repeat' split) <;> simp

@[simp] theorem State.switchTick_frame  :
    (s.switchTick).energy = s.energy ∧
      (s.switchTick).calendar = s.calendar ∧
      (s.switchTick).credit = s.credit ∧
      (s.switchTick).code = s.code ∧
      (s.switchTick).tamper = s.tamper ∧
      (s.switchTick).supply = s.supply ∧
      (s.switchTick).settings = s.settings ∧
      (s.switchTick).engine = s.engine ∧
      (s.switchTick).report = s.report ∧
      (s.switchTick).pins = s.pins ∧
      (s.switchTick).pending = s.pending ∧
      (s.switchTick).exchange.mem = s.exchange.mem ∧
      (s.switchTick).exchange.link = s.exchange.link ∧
      (s.switchTick).exchange.frame = s.exchange.frame ∧
      (s.switchTick).exchange.ignoring = s.exchange.ignoring ∧
      (s.switchTick).exchange.enable = s.exchange.enable ∧
      (s.switchTick).exchange.mirrorHolder = s.exchange.mirrorHolder ∧
      (s.switchTick).exchange.stageHolder = s.exchange.stageHolder ∧
      (s.switchTick).exchange.linkRequest = s.exchange.linkRequest ∧
      (s.switchTick).exchange.hold = s.exchange.hold ∧
      (s.switchTick).exchange.answersTold = s.exchange.answersTold ∧
      (s.switchTick).exchange.resetPending = s.exchange.resetPending ∧
      (s.switchTick).exchange.miso = s.exchange.miso := by
  refine ⟨?_, ?_, ?_, ?_, ?_, ?_, ?_, ?_, ?_, ?_, ?_, ?_, ?_, ?_, ?_, ?_, ?_, ?_, ?_, ?_, ?_, ?_, ?_⟩ <;>
    (simp only [State.switchTick]; repeat' split) <;> simp

@[simp] theorem State.consentClosing_frame  :
    (s.consentClosing).energy = s.energy ∧
      (s.consentClosing).calendar = s.calendar ∧
      (s.consentClosing).credit = s.credit ∧
      (s.consentClosing).code = s.code ∧
      (s.consentClosing).tamper = s.tamper ∧
      (s.consentClosing).supply = s.supply ∧
      (s.consentClosing).settings = s.settings ∧
      (s.consentClosing).engine = s.engine ∧
      (s.consentClosing).report = s.report ∧
      (s.consentClosing).pins = s.pins ∧
      (s.consentClosing).pending = s.pending ∧
      (s.consentClosing).exchange = s.exchange := by
  refine ⟨?_, ?_, ?_, ?_, ?_, ?_, ?_, ?_, ?_, ?_, ?_, ?_⟩ <;>
    (simp only [State.consentClosing]; repeat' split) <;> simp

@[simp] theorem State.takeConsent_frame (order : OrderId) :
    (s.takeConsent order).energy = s.energy ∧
      (s.takeConsent order).calendar = s.calendar ∧
      (s.takeConsent order).credit = s.credit ∧
      (s.takeConsent order).code = s.code ∧
      (s.takeConsent order).tamper = s.tamper ∧
      (s.takeConsent order).supply = s.supply ∧
      (s.takeConsent order).settings = s.settings ∧
      (s.takeConsent order).engine = s.engine ∧
      (s.takeConsent order).report = s.report ∧
      (s.takeConsent order).pins = s.pins ∧
      (s.takeConsent order).pending = s.pending ∧
      (s.takeConsent order).exchange = s.exchange := by
  refine ⟨?_, ?_, ?_, ?_, ?_, ?_, ?_, ?_, ?_, ?_, ?_, ?_⟩ <;>
    (simp only [State.takeConsent]; repeat' split) <;> simp

@[simp] theorem State.disconnectReply_frame (order : OrderId) :
    (s.disconnectReply order).energy = s.energy ∧
      (s.disconnectReply order).calendar = s.calendar ∧
      (s.disconnectReply order).credit = s.credit ∧
      (s.disconnectReply order).code = s.code ∧
      (s.disconnectReply order).switch = s.switch ∧
      (s.disconnectReply order).tamper = s.tamper ∧
      (s.disconnectReply order).supply = s.supply ∧
      (s.disconnectReply order).settings = s.settings ∧
      (s.disconnectReply order).engine = s.engine ∧
      (s.disconnectReply order).report = s.report ∧
      (s.disconnectReply order).pins = s.pins ∧
      (s.disconnectReply order).pending = s.pending ∧
      (s.disconnectReply order).exchange = s.exchange := by
  refine ⟨?_, ?_, ?_, ?_, ?_, ?_, ?_, ?_, ?_, ?_, ?_, ?_, ?_⟩ <;>
    (simp only [State.disconnectReply]; repeat' split) <;> simp

@[simp] theorem State.takeDisconnect_frame (order : OrderId) :
    (s.takeDisconnect order).energy = s.energy ∧
      (s.takeDisconnect order).calendar = s.calendar ∧
      (s.takeDisconnect order).credit = s.credit ∧
      (s.takeDisconnect order).code = s.code ∧
      (s.takeDisconnect order).tamper = s.tamper ∧
      (s.takeDisconnect order).supply = s.supply ∧
      (s.takeDisconnect order).settings = s.settings ∧
      (s.takeDisconnect order).engine = s.engine ∧
      (s.takeDisconnect order).report = s.report ∧
      (s.takeDisconnect order).pins = s.pins ∧
      (s.takeDisconnect order).pending = s.pending ∧
      (s.takeDisconnect order).exchange.mem = s.exchange.mem ∧
      (s.takeDisconnect order).exchange.link = s.exchange.link ∧
      (s.takeDisconnect order).exchange.frame = s.exchange.frame ∧
      (s.takeDisconnect order).exchange.ignoring = s.exchange.ignoring ∧
      (s.takeDisconnect order).exchange.enable = s.exchange.enable ∧
      (s.takeDisconnect order).exchange.mirrorHolder = s.exchange.mirrorHolder ∧
      (s.takeDisconnect order).exchange.stageHolder = s.exchange.stageHolder ∧
      (s.takeDisconnect order).exchange.linkRequest = s.exchange.linkRequest ∧
      (s.takeDisconnect order).exchange.hold = s.exchange.hold ∧
      (s.takeDisconnect order).exchange.answersTold = s.exchange.answersTold ∧
      (s.takeDisconnect order).exchange.resetPending = s.exchange.resetPending ∧
      (s.takeDisconnect order).exchange.miso = s.exchange.miso := by
  refine ⟨?_, ?_, ?_, ?_, ?_, ?_, ?_, ?_, ?_, ?_, ?_, ?_, ?_, ?_, ?_, ?_, ?_, ?_, ?_, ?_, ?_, ?_, ?_⟩ <;>
    (simp only [State.takeDisconnect]; repeat' split) <;> simp

@[simp] theorem State.takePermit_frame (order : OrderId) :
    (s.takePermit order).energy = s.energy ∧
      (s.takePermit order).calendar = s.calendar ∧
      (s.takePermit order).credit = s.credit ∧
      (s.takePermit order).code = s.code ∧
      (s.takePermit order).tamper = s.tamper ∧
      (s.takePermit order).supply = s.supply ∧
      (s.takePermit order).settings = s.settings ∧
      (s.takePermit order).engine = s.engine ∧
      (s.takePermit order).report = s.report ∧
      (s.takePermit order).pins = s.pins ∧
      (s.takePermit order).pending = s.pending ∧
      (s.takePermit order).exchange.mem = s.exchange.mem ∧
      (s.takePermit order).exchange.link = s.exchange.link ∧
      (s.takePermit order).exchange.frame = s.exchange.frame ∧
      (s.takePermit order).exchange.ignoring = s.exchange.ignoring ∧
      (s.takePermit order).exchange.enable = s.exchange.enable ∧
      (s.takePermit order).exchange.mirrorHolder = s.exchange.mirrorHolder ∧
      (s.takePermit order).exchange.stageHolder = s.exchange.stageHolder ∧
      (s.takePermit order).exchange.linkRequest = s.exchange.linkRequest ∧
      (s.takePermit order).exchange.hold = s.exchange.hold ∧
      (s.takePermit order).exchange.answersTold = s.exchange.answersTold ∧
      (s.takePermit order).exchange.resetPending = s.exchange.resetPending ∧
      (s.takePermit order).exchange.miso = s.exchange.miso := by
  refine ⟨?_, ?_, ?_, ?_, ?_, ?_, ?_, ?_, ?_, ?_, ?_, ?_, ?_, ?_, ?_, ?_, ?_, ?_, ?_, ?_, ?_, ?_, ?_⟩ <;>
    (simp only [State.takePermit]; simp)

@[simp] theorem State.takeLimit_frame (watts : Nat) :
    (s.takeLimit watts).energy = s.energy ∧
      (s.takeLimit watts).calendar = s.calendar ∧
      (s.takeLimit watts).credit = s.credit ∧
      (s.takeLimit watts).tamper = s.tamper ∧
      (s.takeLimit watts).supply = s.supply ∧
      (s.takeLimit watts).settings = s.settings ∧
      (s.takeLimit watts).engine = s.engine ∧
      (s.takeLimit watts).report = s.report ∧
      (s.takeLimit watts).pins = s.pins ∧
      (s.takeLimit watts).pending = s.pending ∧
      (s.takeLimit watts).exchange.mem = s.exchange.mem ∧
      (s.takeLimit watts).exchange.link = s.exchange.link ∧
      (s.takeLimit watts).exchange.frame = s.exchange.frame ∧
      (s.takeLimit watts).exchange.ignoring = s.exchange.ignoring ∧
      (s.takeLimit watts).exchange.enable = s.exchange.enable ∧
      (s.takeLimit watts).exchange.mirrorHolder = s.exchange.mirrorHolder ∧
      (s.takeLimit watts).exchange.stageHolder = s.exchange.stageHolder ∧
      (s.takeLimit watts).exchange.linkRequest = s.exchange.linkRequest ∧
      (s.takeLimit watts).exchange.hold = s.exchange.hold ∧
      (s.takeLimit watts).exchange.answersTold = s.exchange.answersTold ∧
      (s.takeLimit watts).exchange.resetPending = s.exchange.resetPending ∧
      (s.takeLimit watts).exchange.miso = s.exchange.miso := by
  refine ⟨?_, ?_, ?_, ?_, ?_, ?_, ?_, ?_, ?_, ?_, ?_, ?_, ?_, ?_, ?_, ?_, ?_, ?_, ?_, ?_, ?_, ?_⟩ <;>
    (simp only [State.takeLimit]; simp)

@[simp] theorem State.resense_frame  :
    (s.resense).energy = s.energy ∧
      (s.resense).calendar = s.calendar ∧
      (s.resense).credit = s.credit ∧
      (s.resense).code = s.code ∧
      (s.resense).tamper = s.tamper ∧
      (s.resense).supply = s.supply ∧
      (s.resense).settings = s.settings ∧
      (s.resense).engine = s.engine ∧
      (s.resense).report = s.report ∧
      (s.resense).pins = s.pins ∧
      (s.resense).pending = s.pending ∧
      (s.resense).exchange.mem = s.exchange.mem ∧
      (s.resense).exchange.link = s.exchange.link ∧
      (s.resense).exchange.frame = s.exchange.frame ∧
      (s.resense).exchange.ignoring = s.exchange.ignoring ∧
      (s.resense).exchange.enable = s.exchange.enable ∧
      (s.resense).exchange.mirrorHolder = s.exchange.mirrorHolder ∧
      (s.resense).exchange.stageHolder = s.exchange.stageHolder ∧
      (s.resense).exchange.linkRequest = s.exchange.linkRequest ∧
      (s.resense).exchange.hold = s.exchange.hold ∧
      (s.resense).exchange.answersTold = s.exchange.answersTold ∧
      (s.resense).exchange.resetPending = s.exchange.resetPending ∧
      (s.resense).exchange.miso = s.exchange.miso := by
  refine ⟨?_, ?_, ?_, ?_, ?_, ?_, ?_, ?_, ?_, ?_, ?_, ?_, ?_, ?_, ?_, ?_, ?_, ?_, ?_, ?_, ?_, ?_, ?_⟩ <;>
    (simp only [State.resense]; repeat' split) <;> simp

end Sys2Proof.Machine
end

