-- ==== Sys2Proof/Laws/Tampers.lean ====
section
/-! SUPPORT. What each operation of Machine/Tampers.lean leaves as it stands, once for each operation. -/

namespace Sys2Proof.Machine

variable (s : State)

@[simp] theorem State.reevaluateTamper_frame (resend : Bool) :
    (s.reevaluateTamper resend).energy = s.energy ∧
      (s.reevaluateTamper resend).calendar = s.calendar ∧
      (s.reevaluateTamper resend).credit = s.credit ∧
      (s.reevaluateTamper resend).code = s.code ∧
      (s.reevaluateTamper resend).switch = s.switch ∧
      (s.reevaluateTamper resend).supply = s.supply ∧
      (s.reevaluateTamper resend).settings = s.settings ∧
      (s.reevaluateTamper resend).engine = s.engine ∧
      (s.reevaluateTamper resend).report = s.report ∧
      (s.reevaluateTamper resend).pins = s.pins ∧
      (s.reevaluateTamper resend).pending = s.pending ∧
      (s.reevaluateTamper resend).exchange = s.exchange := by
  refine ⟨?_, ?_, ?_, ?_, ?_, ?_, ?_, ?_, ?_, ?_, ?_, ?_⟩ <;>
    (simp only [State.reevaluateTamper]; repeat' split) <;> simp

@[simp] theorem State.perform_frame (mask : Nat) (time : Nat) (e : Event) :
    (s.perform mask time e).energy = s.energy ∧
      (s.perform mask time e).calendar = s.calendar ∧
      (s.perform mask time e).credit = s.credit ∧
      (s.perform mask time e).code = s.code ∧
      (s.perform mask time e).switch = s.switch ∧
      (s.perform mask time e).tamper = s.tamper ∧
      (s.perform mask time e).supply = s.supply ∧
      (s.perform mask time e).settings = s.settings ∧
      (s.perform mask time e).engine = s.engine ∧
      (s.perform mask time e).report = s.report ∧
      (s.perform mask time e).pins = s.pins ∧
      (s.perform mask time e).pending = s.pending ∧
      (s.perform mask time e).exchange.mem = s.exchange.mem ∧
      (s.perform mask time e).exchange.link = s.exchange.link ∧
      (s.perform mask time e).exchange.frame = s.exchange.frame ∧
      (s.perform mask time e).exchange.ignoring = s.exchange.ignoring ∧
      (s.perform mask time e).exchange.enable = s.exchange.enable ∧
      (s.perform mask time e).exchange.mirrorHolder = s.exchange.mirrorHolder ∧
      (s.perform mask time e).exchange.stageHolder = s.exchange.stageHolder ∧
      (s.perform mask time e).exchange.linkRequest = s.exchange.linkRequest ∧
      (s.perform mask time e).exchange.hold = s.exchange.hold ∧
      (s.perform mask time e).exchange.answersTold = s.exchange.answersTold ∧
      (s.perform mask time e).exchange.resetPending = s.exchange.resetPending ∧
      (s.perform mask time e).exchange.miso = s.exchange.miso := by
  refine ⟨?_, ?_, ?_, ?_, ?_, ?_, ?_, ?_, ?_, ?_, ?_, ?_, ?_, ?_, ?_, ?_, ?_, ?_, ?_, ?_, ?_, ?_, ?_, ?_⟩ <;>
    (simp only [State.perform]; repeat' split) <;> simp

@[simp] theorem State.recordOccurrence_frame (i : Source) :
    (s.recordOccurrence i).energy = s.energy ∧
      (s.recordOccurrence i).calendar = s.calendar ∧
      (s.recordOccurrence i).credit = s.credit ∧
      (s.recordOccurrence i).code = s.code ∧
      (s.recordOccurrence i).switch = s.switch ∧
      (s.recordOccurrence i).supply = s.supply ∧
      (s.recordOccurrence i).settings = s.settings ∧
      (s.recordOccurrence i).engine = s.engine ∧
      (s.recordOccurrence i).report = s.report ∧
      (s.recordOccurrence i).pins = s.pins ∧
      (s.recordOccurrence i).pending = s.pending ∧
      (s.recordOccurrence i).exchange.mem = s.exchange.mem ∧
      (s.recordOccurrence i).exchange.link = s.exchange.link ∧
      (s.recordOccurrence i).exchange.frame = s.exchange.frame ∧
      (s.recordOccurrence i).exchange.ignoring = s.exchange.ignoring ∧
      (s.recordOccurrence i).exchange.enable = s.exchange.enable ∧
      (s.recordOccurrence i).exchange.mirrorHolder = s.exchange.mirrorHolder ∧
      (s.recordOccurrence i).exchange.stageHolder = s.exchange.stageHolder ∧
      (s.recordOccurrence i).exchange.linkRequest = s.exchange.linkRequest ∧
      (s.recordOccurrence i).exchange.hold = s.exchange.hold ∧
      (s.recordOccurrence i).exchange.answersTold = s.exchange.answersTold ∧
      (s.recordOccurrence i).exchange.resetPending = s.exchange.resetPending ∧
      (s.recordOccurrence i).exchange.miso = s.exchange.miso := by
  refine ⟨?_, ?_, ?_, ?_, ?_, ?_, ?_, ?_, ?_, ?_, ?_, ?_, ?_, ?_, ?_, ?_, ?_, ?_, ?_, ?_, ?_, ?_, ?_⟩ <;>
    (simp only [State.recordOccurrence]; repeat' split) <;> simp

@[simp] theorem State.occur_frame (i : Source) :
    (s.occur i).energy = s.energy ∧
      (s.occur i).calendar = s.calendar ∧
      (s.occur i).credit = s.credit ∧
      (s.occur i).code = s.code ∧
      (s.occur i).switch = s.switch ∧
      (s.occur i).supply = s.supply ∧
      (s.occur i).settings = s.settings ∧
      (s.occur i).engine = s.engine ∧
      (s.occur i).report = s.report ∧
      (s.occur i).pins = s.pins ∧
      (s.occur i).pending = s.pending ∧
      (s.occur i).exchange.mem = s.exchange.mem ∧
      (s.occur i).exchange.link = s.exchange.link ∧
      (s.occur i).exchange.frame = s.exchange.frame ∧
      (s.occur i).exchange.ignoring = s.exchange.ignoring ∧
      (s.occur i).exchange.enable = s.exchange.enable ∧
      (s.occur i).exchange.mirrorHolder = s.exchange.mirrorHolder ∧
      (s.occur i).exchange.stageHolder = s.exchange.stageHolder ∧
      (s.occur i).exchange.linkRequest = s.exchange.linkRequest ∧
      (s.occur i).exchange.hold = s.exchange.hold ∧
      (s.occur i).exchange.answersTold = s.exchange.answersTold ∧
      (s.occur i).exchange.resetPending = s.exchange.resetPending ∧
      (s.occur i).exchange.miso = s.exchange.miso := by
  refine ⟨?_, ?_, ?_, ?_, ?_, ?_, ?_, ?_, ?_, ?_, ?_, ?_, ?_, ?_, ?_, ?_, ?_, ?_, ?_, ?_, ?_, ?_, ?_⟩ <;>
    (simp only [State.occur]; repeat' split) <;> simp

@[simp] theorem State.qualify_frame (i : Source) :
    (s.qualify i).energy = s.energy ∧
      (s.qualify i).calendar = s.calendar ∧
      (s.qualify i).credit = s.credit ∧
      (s.qualify i).code = s.code ∧
      (s.qualify i).switch = s.switch ∧
      (s.qualify i).supply = s.supply ∧
      (s.qualify i).settings = s.settings ∧
      (s.qualify i).engine = s.engine ∧
      (s.qualify i).report = s.report ∧
      (s.qualify i).pins = s.pins ∧
      (s.qualify i).pending = s.pending ∧
      (s.qualify i).exchange.mem = s.exchange.mem ∧
      (s.qualify i).exchange.link = s.exchange.link ∧
      (s.qualify i).exchange.frame = s.exchange.frame ∧
      (s.qualify i).exchange.ignoring = s.exchange.ignoring ∧
      (s.qualify i).exchange.enable = s.exchange.enable ∧
      (s.qualify i).exchange.mirrorHolder = s.exchange.mirrorHolder ∧
      (s.qualify i).exchange.stageHolder = s.exchange.stageHolder ∧
      (s.qualify i).exchange.linkRequest = s.exchange.linkRequest ∧
      (s.qualify i).exchange.hold = s.exchange.hold ∧
      (s.qualify i).exchange.answersTold = s.exchange.answersTold ∧
      (s.qualify i).exchange.resetPending = s.exchange.resetPending ∧
      (s.qualify i).exchange.miso = s.exchange.miso := by
  refine ⟨?_, ?_, ?_, ?_, ?_, ?_, ?_, ?_, ?_, ?_, ?_, ?_, ?_, ?_, ?_, ?_, ?_, ?_, ?_, ?_, ?_, ?_, ?_⟩ <;>
    (simp only [State.qualify]; repeat' split) <;> simp

@[simp] theorem State.withdrawInjection_frame  :
    (s.withdrawInjection).calendar = s.calendar ∧
      (s.withdrawInjection).credit = s.credit ∧
      (s.withdrawInjection).code = s.code ∧
      (s.withdrawInjection).switch = s.switch ∧
      (s.withdrawInjection).supply = s.supply ∧
      (s.withdrawInjection).settings = s.settings ∧
      (s.withdrawInjection).engine = s.engine ∧
      (s.withdrawInjection).report = s.report ∧
      (s.withdrawInjection).pins = s.pins ∧
      (s.withdrawInjection).pending = s.pending ∧
      (s.withdrawInjection).exchange.mem = s.exchange.mem ∧
      (s.withdrawInjection).exchange.link = s.exchange.link ∧
      (s.withdrawInjection).exchange.frame = s.exchange.frame ∧
      (s.withdrawInjection).exchange.ignoring = s.exchange.ignoring ∧
      (s.withdrawInjection).exchange.enable = s.exchange.enable ∧
      (s.withdrawInjection).exchange.mirrorHolder = s.exchange.mirrorHolder ∧
      (s.withdrawInjection).exchange.stageHolder = s.exchange.stageHolder ∧
      (s.withdrawInjection).exchange.linkRequest = s.exchange.linkRequest ∧
      (s.withdrawInjection).exchange.hold = s.exchange.hold ∧
      (s.withdrawInjection).exchange.answersTold = s.exchange.answersTold ∧
      (s.withdrawInjection).exchange.resetPending = s.exchange.resetPending ∧
      (s.withdrawInjection).exchange.miso = s.exchange.miso := by
  refine ⟨?_, ?_, ?_, ?_, ?_, ?_, ?_, ?_, ?_, ?_, ?_, ?_, ?_, ?_, ?_, ?_, ?_, ?_, ?_, ?_, ?_, ?_⟩ <;>
    (simp only [State.withdrawInjection]; repeat' split) <;> simp

@[simp] theorem State.testOccurrence_frame (j : Injection) :
    (s.testOccurrence j).calendar = s.calendar ∧
      (s.testOccurrence j).credit = s.credit ∧
      (s.testOccurrence j).code = s.code ∧
      (s.testOccurrence j).switch = s.switch ∧
      (s.testOccurrence j).supply = s.supply ∧
      (s.testOccurrence j).settings = s.settings ∧
      (s.testOccurrence j).engine = s.engine ∧
      (s.testOccurrence j).report = s.report ∧
      (s.testOccurrence j).pins = s.pins ∧
      (s.testOccurrence j).pending = s.pending ∧
      (s.testOccurrence j).exchange.mem = s.exchange.mem ∧
      (s.testOccurrence j).exchange.link = s.exchange.link ∧
      (s.testOccurrence j).exchange.frame = s.exchange.frame ∧
      (s.testOccurrence j).exchange.ignoring = s.exchange.ignoring ∧
      (s.testOccurrence j).exchange.enable = s.exchange.enable ∧
      (s.testOccurrence j).exchange.mirrorHolder = s.exchange.mirrorHolder ∧
      (s.testOccurrence j).exchange.stageHolder = s.exchange.stageHolder ∧
      (s.testOccurrence j).exchange.linkRequest = s.exchange.linkRequest ∧
      (s.testOccurrence j).exchange.hold = s.exchange.hold ∧
      (s.testOccurrence j).exchange.answersTold = s.exchange.answersTold ∧
      (s.testOccurrence j).exchange.resetPending = s.exchange.resetPending ∧
      (s.testOccurrence j).exchange.miso = s.exchange.miso := by
  refine ⟨?_, ?_, ?_, ?_, ?_, ?_, ?_, ?_, ?_, ?_, ?_, ?_, ?_, ?_, ?_, ?_, ?_, ?_, ?_, ?_, ?_, ?_⟩ <;>
    (simp only [State.testOccurrence]; simp)

@[simp] theorem State.inject_frame (order : OrderId) (i : Source) :
    (s.inject order i).calendar = s.calendar ∧
      (s.inject order i).credit = s.credit ∧
      (s.inject order i).code = s.code ∧
      (s.inject order i).switch = s.switch ∧
      (s.inject order i).supply = s.supply ∧
      (s.inject order i).settings = s.settings ∧
      (s.inject order i).engine = s.engine ∧
      (s.inject order i).report = s.report ∧
      (s.inject order i).pins = s.pins ∧
      (s.inject order i).pending = s.pending ∧
      (s.inject order i).exchange = s.exchange := by
  refine ⟨?_, ?_, ?_, ?_, ?_, ?_, ?_, ?_, ?_, ?_, ?_⟩ <;>
    (simp only [State.inject]; simp)

@[simp] theorem State.selfTest_frame (order : OrderId) (target : Nat) :
    (s.selfTest order target).calendar = s.calendar ∧
      (s.selfTest order target).credit = s.credit ∧
      (s.selfTest order target).code = s.code ∧
      (s.selfTest order target).switch = s.switch ∧
      (s.selfTest order target).supply = s.supply ∧
      (s.selfTest order target).settings = s.settings ∧
      (s.selfTest order target).engine = s.engine ∧
      (s.selfTest order target).report = s.report ∧
      (s.selfTest order target).pins = s.pins ∧
      (s.selfTest order target).pending = s.pending ∧
      (s.selfTest order target).exchange = s.exchange := by
  refine ⟨?_, ?_, ?_, ?_, ?_, ?_, ?_, ?_, ?_, ?_, ?_⟩ <;>
    (simp only [State.selfTest]; repeat' split) <;> simp

@[simp] theorem State.forcedExpiry_frame  :
    (s.forcedExpiry).calendar = s.calendar ∧
      (s.forcedExpiry).credit = s.credit ∧
      (s.forcedExpiry).code = s.code ∧
      (s.forcedExpiry).switch = s.switch ∧
      (s.forcedExpiry).supply = s.supply ∧
      (s.forcedExpiry).settings = s.settings ∧
      (s.forcedExpiry).engine = s.engine ∧
      (s.forcedExpiry).report = s.report ∧
      (s.forcedExpiry).pins = s.pins ∧
      (s.forcedExpiry).pending = s.pending ∧
      (s.forcedExpiry).exchange.mem = s.exchange.mem ∧
      (s.forcedExpiry).exchange.link = s.exchange.link ∧
      (s.forcedExpiry).exchange.frame = s.exchange.frame ∧
      (s.forcedExpiry).exchange.ignoring = s.exchange.ignoring ∧
      (s.forcedExpiry).exchange.enable = s.exchange.enable ∧
      (s.forcedExpiry).exchange.mirrorHolder = s.exchange.mirrorHolder ∧
      (s.forcedExpiry).exchange.stageHolder = s.exchange.stageHolder ∧
      (s.forcedExpiry).exchange.linkRequest = s.exchange.linkRequest ∧
      (s.forcedExpiry).exchange.hold = s.exchange.hold ∧
      (s.forcedExpiry).exchange.answersTold = s.exchange.answersTold ∧
      (s.forcedExpiry).exchange.resetPending = s.exchange.resetPending ∧
      (s.forcedExpiry).exchange.miso = s.exchange.miso := by
  refine ⟨?_, ?_, ?_, ?_, ?_, ?_, ?_, ?_, ?_, ?_, ?_, ?_, ?_, ?_, ?_, ?_, ?_, ?_, ?_, ?_, ?_, ?_⟩ <;>
    (simp only [State.forcedExpiry]; repeat' split) <;> simp

@[simp] theorem State.deadlineExpiry_frame  :
    (s.deadlineExpiry).calendar = s.calendar ∧
      (s.deadlineExpiry).credit = s.credit ∧
      (s.deadlineExpiry).code = s.code ∧
      (s.deadlineExpiry).switch = s.switch ∧
      (s.deadlineExpiry).supply = s.supply ∧
      (s.deadlineExpiry).settings = s.settings ∧
      (s.deadlineExpiry).engine = s.engine ∧
      (s.deadlineExpiry).report = s.report ∧
      (s.deadlineExpiry).pins = s.pins ∧
      (s.deadlineExpiry).pending = s.pending ∧
      (s.deadlineExpiry).exchange.mem = s.exchange.mem ∧
      (s.deadlineExpiry).exchange.link = s.exchange.link ∧
      (s.deadlineExpiry).exchange.frame = s.exchange.frame ∧
      (s.deadlineExpiry).exchange.ignoring = s.exchange.ignoring ∧
      (s.deadlineExpiry).exchange.enable = s.exchange.enable ∧
      (s.deadlineExpiry).exchange.mirrorHolder = s.exchange.mirrorHolder ∧
      (s.deadlineExpiry).exchange.stageHolder = s.exchange.stageHolder ∧
      (s.deadlineExpiry).exchange.linkRequest = s.exchange.linkRequest ∧
      (s.deadlineExpiry).exchange.hold = s.exchange.hold ∧
      (s.deadlineExpiry).exchange.answersTold = s.exchange.answersTold ∧
      (s.deadlineExpiry).exchange.resetPending = s.exchange.resetPending ∧
      (s.deadlineExpiry).exchange.miso = s.exchange.miso := by
  refine ⟨?_, ?_, ?_, ?_, ?_, ?_, ?_, ?_, ?_, ?_, ?_, ?_, ?_, ?_, ?_, ?_, ?_, ?_, ?_, ?_, ?_, ?_⟩ <;>
    (simp only [State.deadlineExpiry]; repeat' split) <;> simp

@[simp] theorem State.lineExpiry_frame (l : Line) :
    (s.lineExpiry l).energy = s.energy ∧
      (s.lineExpiry l).calendar = s.calendar ∧
      (s.lineExpiry l).credit = s.credit ∧
      (s.lineExpiry l).code = s.code ∧
      (s.lineExpiry l).switch = s.switch ∧
      (s.lineExpiry l).supply = s.supply ∧
      (s.lineExpiry l).settings = s.settings ∧
      (s.lineExpiry l).engine = s.engine ∧
      (s.lineExpiry l).report = s.report ∧
      (s.lineExpiry l).pins = s.pins ∧
      (s.lineExpiry l).pending = s.pending ∧
      (s.lineExpiry l).exchange.mem = s.exchange.mem ∧
      (s.lineExpiry l).exchange.link = s.exchange.link ∧
      (s.lineExpiry l).exchange.frame = s.exchange.frame ∧
      (s.lineExpiry l).exchange.ignoring = s.exchange.ignoring ∧
      (s.lineExpiry l).exchange.enable = s.exchange.enable ∧
      (s.lineExpiry l).exchange.mirrorHolder = s.exchange.mirrorHolder ∧
      (s.lineExpiry l).exchange.stageHolder = s.exchange.stageHolder ∧
      (s.lineExpiry l).exchange.linkRequest = s.exchange.linkRequest ∧
      (s.lineExpiry l).exchange.hold = s.exchange.hold ∧
      (s.lineExpiry l).exchange.answersTold = s.exchange.answersTold ∧
      (s.lineExpiry l).exchange.resetPending = s.exchange.resetPending ∧
      (s.lineExpiry l).exchange.miso = s.exchange.miso := by
  refine ⟨?_, ?_, ?_, ?_, ?_, ?_, ?_, ?_, ?_, ?_, ?_, ?_, ?_, ?_, ?_, ?_, ?_, ?_, ?_, ?_, ?_, ?_, ?_⟩ <;>
    (simp only [State.lineExpiry]; repeat' split) <;> simp

@[simp] theorem State.forcedMagnetSecond_frame  :
    (s.forcedMagnetSecond).calendar = s.calendar ∧
      (s.forcedMagnetSecond).credit = s.credit ∧
      (s.forcedMagnetSecond).code = s.code ∧
      (s.forcedMagnetSecond).switch = s.switch ∧
      (s.forcedMagnetSecond).supply = s.supply ∧
      (s.forcedMagnetSecond).settings = s.settings ∧
      (s.forcedMagnetSecond).engine = s.engine ∧
      (s.forcedMagnetSecond).report = s.report ∧
      (s.forcedMagnetSecond).pins = s.pins ∧
      (s.forcedMagnetSecond).pending = s.pending ∧
      (s.forcedMagnetSecond).exchange.mem = s.exchange.mem ∧
      (s.forcedMagnetSecond).exchange.link = s.exchange.link ∧
      (s.forcedMagnetSecond).exchange.frame = s.exchange.frame ∧
      (s.forcedMagnetSecond).exchange.ignoring = s.exchange.ignoring ∧
      (s.forcedMagnetSecond).exchange.enable = s.exchange.enable ∧
      (s.forcedMagnetSecond).exchange.mirrorHolder = s.exchange.mirrorHolder ∧
      (s.forcedMagnetSecond).exchange.stageHolder = s.exchange.stageHolder ∧
      (s.forcedMagnetSecond).exchange.linkRequest = s.exchange.linkRequest ∧
      (s.forcedMagnetSecond).exchange.hold = s.exchange.hold ∧
      (s.forcedMagnetSecond).exchange.answersTold = s.exchange.answersTold ∧
      (s.forcedMagnetSecond).exchange.resetPending = s.exchange.resetPending ∧
      (s.forcedMagnetSecond).exchange.miso = s.exchange.miso := by
  refine ⟨?_, ?_, ?_, ?_, ?_, ?_, ?_, ?_, ?_, ?_, ?_, ?_, ?_, ?_, ?_, ?_, ?_, ?_, ?_, ?_, ?_, ?_⟩ <;>
    (simp only [State.forcedMagnetSecond]; repeat' split) <;> simp

@[simp] theorem State.magnetSecond_frame  :
    (s.magnetSecond).energy = s.energy ∧
      (s.magnetSecond).calendar = s.calendar ∧
      (s.magnetSecond).credit = s.credit ∧
      (s.magnetSecond).code = s.code ∧
      (s.magnetSecond).switch = s.switch ∧
      (s.magnetSecond).supply = s.supply ∧
      (s.magnetSecond).settings = s.settings ∧
      (s.magnetSecond).engine = s.engine ∧
      (s.magnetSecond).report = s.report ∧
      (s.magnetSecond).pins = s.pins ∧
      (s.magnetSecond).pending = s.pending ∧
      (s.magnetSecond).exchange.mem = s.exchange.mem ∧
      (s.magnetSecond).exchange.link = s.exchange.link ∧
      (s.magnetSecond).exchange.frame = s.exchange.frame ∧
      (s.magnetSecond).exchange.ignoring = s.exchange.ignoring ∧
      (s.magnetSecond).exchange.enable = s.exchange.enable ∧
      (s.magnetSecond).exchange.mirrorHolder = s.exchange.mirrorHolder ∧
      (s.magnetSecond).exchange.stageHolder = s.exchange.stageHolder ∧
      (s.magnetSecond).exchange.linkRequest = s.exchange.linkRequest ∧
      (s.magnetSecond).exchange.hold = s.exchange.hold ∧
      (s.magnetSecond).exchange.answersTold = s.exchange.answersTold ∧
      (s.magnetSecond).exchange.resetPending = s.exchange.resetPending ∧
      (s.magnetSecond).exchange.miso = s.exchange.miso := by
  refine ⟨?_, ?_, ?_, ?_, ?_, ?_, ?_, ?_, ?_, ?_, ?_, ?_, ?_, ?_, ?_, ?_, ?_, ?_, ?_, ?_, ?_, ?_, ?_⟩ <;>
    (simp only [State.magnetSecond]; repeat' split) <;> simp

@[simp] theorem State.tamperSecond_frame  :
    (s.tamperSecond).calendar = s.calendar ∧
      (s.tamperSecond).credit = s.credit ∧
      (s.tamperSecond).code = s.code ∧
      (s.tamperSecond).switch = s.switch ∧
      (s.tamperSecond).supply = s.supply ∧
      (s.tamperSecond).settings = s.settings ∧
      (s.tamperSecond).engine = s.engine ∧
      (s.tamperSecond).report = s.report ∧
      (s.tamperSecond).pins = s.pins ∧
      (s.tamperSecond).pending = s.pending ∧
      (s.tamperSecond).exchange.mem = s.exchange.mem ∧
      (s.tamperSecond).exchange.link = s.exchange.link ∧
      (s.tamperSecond).exchange.frame = s.exchange.frame ∧
      (s.tamperSecond).exchange.ignoring = s.exchange.ignoring ∧
      (s.tamperSecond).exchange.enable = s.exchange.enable ∧
      (s.tamperSecond).exchange.mirrorHolder = s.exchange.mirrorHolder ∧
      (s.tamperSecond).exchange.stageHolder = s.exchange.stageHolder ∧
      (s.tamperSecond).exchange.linkRequest = s.exchange.linkRequest ∧
      (s.tamperSecond).exchange.hold = s.exchange.hold ∧
      (s.tamperSecond).exchange.answersTold = s.exchange.answersTold ∧
      (s.tamperSecond).exchange.resetPending = s.exchange.resetPending ∧
      (s.tamperSecond).exchange.miso = s.exchange.miso := by
  refine ⟨?_, ?_, ?_, ?_, ?_, ?_, ?_, ?_, ?_, ?_, ?_, ?_, ?_, ?_, ?_, ?_, ?_, ?_, ?_, ?_, ?_, ?_⟩ <;>
    (simp only [State.tamperSecond]; simp)

@[simp] theorem State.compareReport_frame (i : Source) :
    (s.compareReport i).energy = s.energy ∧
      (s.compareReport i).calendar = s.calendar ∧
      (s.compareReport i).credit = s.credit ∧
      (s.compareReport i).code = s.code ∧
      (s.compareReport i).switch = s.switch ∧
      (s.compareReport i).supply = s.supply ∧
      (s.compareReport i).settings = s.settings ∧
      (s.compareReport i).engine = s.engine ∧
      (s.compareReport i).report = s.report ∧
      (s.compareReport i).pins = s.pins ∧
      (s.compareReport i).pending = s.pending ∧
      (s.compareReport i).exchange.mem = s.exchange.mem ∧
      (s.compareReport i).exchange.link = s.exchange.link ∧
      (s.compareReport i).exchange.frame = s.exchange.frame ∧
      (s.compareReport i).exchange.ignoring = s.exchange.ignoring ∧
      (s.compareReport i).exchange.enable = s.exchange.enable ∧
      (s.compareReport i).exchange.mirrorHolder = s.exchange.mirrorHolder ∧
      (s.compareReport i).exchange.stageHolder = s.exchange.stageHolder ∧
      (s.compareReport i).exchange.linkRequest = s.exchange.linkRequest ∧
      (s.compareReport i).exchange.hold = s.exchange.hold ∧
      (s.compareReport i).exchange.answersTold = s.exchange.answersTold ∧
      (s.compareReport i).exchange.resetPending = s.exchange.resetPending ∧
      (s.compareReport i).exchange.miso = s.exchange.miso := by
  refine ⟨?_, ?_, ?_, ?_, ?_, ?_, ?_, ?_, ?_, ?_, ?_, ?_, ?_, ?_, ?_, ?_, ?_, ?_, ?_, ?_, ?_, ?_, ?_⟩ <;>
    (simp only [State.compareReport]; repeat' split) <;> simp

@[simp] theorem State.compareReports_frame  :
    (s.compareReports).energy = s.energy ∧
      (s.compareReports).calendar = s.calendar ∧
      (s.compareReports).credit = s.credit ∧
      (s.compareReports).code = s.code ∧
      (s.compareReports).switch = s.switch ∧
      (s.compareReports).supply = s.supply ∧
      (s.compareReports).settings = s.settings ∧
      (s.compareReports).engine = s.engine ∧
      (s.compareReports).report = s.report ∧
      (s.compareReports).pins = s.pins ∧
      (s.compareReports).pending = s.pending ∧
      (s.compareReports).exchange.mem = s.exchange.mem ∧
      (s.compareReports).exchange.link = s.exchange.link ∧
      (s.compareReports).exchange.frame = s.exchange.frame ∧
      (s.compareReports).exchange.ignoring = s.exchange.ignoring ∧
      (s.compareReports).exchange.enable = s.exchange.enable ∧
      (s.compareReports).exchange.mirrorHolder = s.exchange.mirrorHolder ∧
      (s.compareReports).exchange.stageHolder = s.exchange.stageHolder ∧
      (s.compareReports).exchange.linkRequest = s.exchange.linkRequest ∧
      (s.compareReports).exchange.hold = s.exchange.hold ∧
      (s.compareReports).exchange.answersTold = s.exchange.answersTold ∧
      (s.compareReports).exchange.resetPending = s.exchange.resetPending ∧
      (s.compareReports).exchange.miso = s.exchange.miso := by
  refine ⟨?_, ?_, ?_, ?_, ?_, ?_, ?_, ?_, ?_, ?_, ?_, ?_, ?_, ?_, ?_, ?_, ?_, ?_, ?_, ?_, ?_, ?_, ?_⟩ <;>
    (simp only [State.compareReports]; simp)

@[simp] theorem State.blockTest_frame (r : BlockResult) :
    (s.blockTest r).calendar = s.calendar ∧
      (s.blockTest r).credit = s.credit ∧
      (s.blockTest r).code = s.code ∧
      (s.blockTest r).switch = s.switch ∧
      (s.blockTest r).supply = s.supply ∧
      (s.blockTest r).settings = s.settings ∧
      (s.blockTest r).engine = s.engine ∧
      (s.blockTest r).report = s.report ∧
      (s.blockTest r).pins = s.pins ∧
      (s.blockTest r).pending = s.pending ∧
      (s.blockTest r).exchange.mem = s.exchange.mem ∧
      (s.blockTest r).exchange.link = s.exchange.link ∧
      (s.blockTest r).exchange.frame = s.exchange.frame ∧
      (s.blockTest r).exchange.ignoring = s.exchange.ignoring ∧
      (s.blockTest r).exchange.enable = s.exchange.enable ∧
      (s.blockTest r).exchange.mirrorHolder = s.exchange.mirrorHolder ∧
      (s.blockTest r).exchange.stageHolder = s.exchange.stageHolder ∧
      (s.blockTest r).exchange.linkRequest = s.exchange.linkRequest ∧
      (s.blockTest r).exchange.hold = s.exchange.hold ∧
      (s.blockTest r).exchange.answersTold = s.exchange.answersTold ∧
      (s.blockTest r).exchange.resetPending = s.exchange.resetPending ∧
      (s.blockTest r).exchange.miso = s.exchange.miso := by
  refine ⟨?_, ?_, ?_, ?_, ?_, ?_, ?_, ?_, ?_, ?_, ?_, ?_, ?_, ?_, ?_, ?_, ?_, ?_, ?_, ?_, ?_, ?_⟩ <;>
    (simp only [State.blockTest]; repeat' split) <;> simp

@[simp] theorem State.tamperBlock_frame (r : BlockResult) :
    (s.tamperBlock r).calendar = s.calendar ∧
      (s.tamperBlock r).credit = s.credit ∧
      (s.tamperBlock r).code = s.code ∧
      (s.tamperBlock r).switch = s.switch ∧
      (s.tamperBlock r).supply = s.supply ∧
      (s.tamperBlock r).settings = s.settings ∧
      (s.tamperBlock r).engine = s.engine ∧
      (s.tamperBlock r).report = s.report ∧
      (s.tamperBlock r).pins = s.pins ∧
      (s.tamperBlock r).pending = s.pending ∧
      (s.tamperBlock r).exchange.mem = s.exchange.mem ∧
      (s.tamperBlock r).exchange.link = s.exchange.link ∧
      (s.tamperBlock r).exchange.frame = s.exchange.frame ∧
      (s.tamperBlock r).exchange.ignoring = s.exchange.ignoring ∧
      (s.tamperBlock r).exchange.enable = s.exchange.enable ∧
      (s.tamperBlock r).exchange.mirrorHolder = s.exchange.mirrorHolder ∧
      (s.tamperBlock r).exchange.stageHolder = s.exchange.stageHolder ∧
      (s.tamperBlock r).exchange.linkRequest = s.exchange.linkRequest ∧
      (s.tamperBlock r).exchange.hold = s.exchange.hold ∧
      (s.tamperBlock r).exchange.answersTold = s.exchange.answersTold ∧
      (s.tamperBlock r).exchange.resetPending = s.exchange.resetPending ∧
      (s.tamperBlock r).exchange.miso = s.exchange.miso := by
  refine ⟨?_, ?_, ?_, ?_, ?_, ?_, ?_, ?_, ?_, ?_, ?_, ?_, ?_, ?_, ?_, ?_, ?_, ?_, ?_, ?_, ?_, ?_⟩ <;>
    (simp only [State.tamperBlock]; simp)

@[simp] theorem State.conditionsUnqualified_frame  :
    (s.conditionsUnqualified).energy = s.energy ∧
      (s.conditionsUnqualified).calendar = s.calendar ∧
      (s.conditionsUnqualified).credit = s.credit ∧
      (s.conditionsUnqualified).code = s.code ∧
      (s.conditionsUnqualified).switch = s.switch ∧
      (s.conditionsUnqualified).supply = s.supply ∧
      (s.conditionsUnqualified).settings = s.settings ∧
      (s.conditionsUnqualified).engine = s.engine ∧
      (s.conditionsUnqualified).report = s.report ∧
      (s.conditionsUnqualified).pins = s.pins ∧
      (s.conditionsUnqualified).pending = s.pending ∧
      (s.conditionsUnqualified).exchange.mem = s.exchange.mem ∧
      (s.conditionsUnqualified).exchange.link = s.exchange.link ∧
      (s.conditionsUnqualified).exchange.frame = s.exchange.frame ∧
      (s.conditionsUnqualified).exchange.ignoring = s.exchange.ignoring ∧
      (s.conditionsUnqualified).exchange.enable = s.exchange.enable ∧
      (s.conditionsUnqualified).exchange.mirrorHolder = s.exchange.mirrorHolder ∧
      (s.conditionsUnqualified).exchange.stageHolder = s.exchange.stageHolder ∧
      (s.conditionsUnqualified).exchange.linkRequest = s.exchange.linkRequest ∧
      (s.conditionsUnqualified).exchange.hold = s.exchange.hold ∧
      (s.conditionsUnqualified).exchange.answersTold = s.exchange.answersTold ∧
      (s.conditionsUnqualified).exchange.resetPending = s.exchange.resetPending ∧
      (s.conditionsUnqualified).exchange.miso = s.exchange.miso := by
  refine ⟨?_, ?_, ?_, ?_, ?_, ?_, ?_, ?_, ?_, ?_, ?_, ?_, ?_, ?_, ?_, ?_, ?_, ?_, ?_, ?_, ?_, ?_, ?_⟩ <;>
    (simp only [State.conditionsUnqualified]; simp)

@[simp] theorem State.reoccurOne_frame (mask : BitVec 6) (i : Source) :
    (s.reoccurOne mask i).energy = s.energy ∧
      (s.reoccurOne mask i).calendar = s.calendar ∧
      (s.reoccurOne mask i).credit = s.credit ∧
      (s.reoccurOne mask i).code = s.code ∧
      (s.reoccurOne mask i).switch = s.switch ∧
      (s.reoccurOne mask i).supply = s.supply ∧
      (s.reoccurOne mask i).settings = s.settings ∧
      (s.reoccurOne mask i).engine = s.engine ∧
      (s.reoccurOne mask i).report = s.report ∧
      (s.reoccurOne mask i).pins = s.pins ∧
      (s.reoccurOne mask i).pending = s.pending ∧
      (s.reoccurOne mask i).exchange.mem = s.exchange.mem ∧
      (s.reoccurOne mask i).exchange.link = s.exchange.link ∧
      (s.reoccurOne mask i).exchange.frame = s.exchange.frame ∧
      (s.reoccurOne mask i).exchange.ignoring = s.exchange.ignoring ∧
      (s.reoccurOne mask i).exchange.enable = s.exchange.enable ∧
      (s.reoccurOne mask i).exchange.mirrorHolder = s.exchange.mirrorHolder ∧
      (s.reoccurOne mask i).exchange.stageHolder = s.exchange.stageHolder ∧
      (s.reoccurOne mask i).exchange.linkRequest = s.exchange.linkRequest ∧
      (s.reoccurOne mask i).exchange.hold = s.exchange.hold ∧
      (s.reoccurOne mask i).exchange.answersTold = s.exchange.answersTold ∧
      (s.reoccurOne mask i).exchange.resetPending = s.exchange.resetPending ∧
      (s.reoccurOne mask i).exchange.miso = s.exchange.miso := by
  refine ⟨?_, ?_, ?_, ?_, ?_, ?_, ?_, ?_, ?_, ?_, ?_, ?_, ?_, ?_, ?_, ?_, ?_, ?_, ?_, ?_, ?_, ?_, ?_⟩ <;>
    (simp only [State.reoccurOne]; repeat' split) <;> simp

@[simp] theorem State.reoccur_frame (mask : BitVec 6) :
    (s.reoccur mask).energy = s.energy ∧
      (s.reoccur mask).calendar = s.calendar ∧
      (s.reoccur mask).credit = s.credit ∧
      (s.reoccur mask).code = s.code ∧
      (s.reoccur mask).switch = s.switch ∧
      (s.reoccur mask).supply = s.supply ∧
      (s.reoccur mask).settings = s.settings ∧
      (s.reoccur mask).engine = s.engine ∧
      (s.reoccur mask).report = s.report ∧
      (s.reoccur mask).pins = s.pins ∧
      (s.reoccur mask).pending = s.pending ∧
      (s.reoccur mask).exchange.mem = s.exchange.mem ∧
      (s.reoccur mask).exchange.link = s.exchange.link ∧
      (s.reoccur mask).exchange.frame = s.exchange.frame ∧
      (s.reoccur mask).exchange.ignoring = s.exchange.ignoring ∧
      (s.reoccur mask).exchange.enable = s.exchange.enable ∧
      (s.reoccur mask).exchange.mirrorHolder = s.exchange.mirrorHolder ∧
      (s.reoccur mask).exchange.stageHolder = s.exchange.stageHolder ∧
      (s.reoccur mask).exchange.linkRequest = s.exchange.linkRequest ∧
      (s.reoccur mask).exchange.hold = s.exchange.hold ∧
      (s.reoccur mask).exchange.answersTold = s.exchange.answersTold ∧
      (s.reoccur mask).exchange.resetPending = s.exchange.resetPending ∧
      (s.reoccur mask).exchange.miso = s.exchange.miso := by
  refine ⟨?_, ?_, ?_, ?_, ?_, ?_, ?_, ?_, ?_, ?_, ?_, ?_, ?_, ?_, ?_, ?_, ?_, ?_, ?_, ?_, ?_, ?_, ?_⟩ <;>
    (simp only [State.reoccur, Source.all, List.foldl]; simp)

@[simp] theorem State.clearSources_frame (byOrder : Bool) (mask : BitVec 6) :
    (s.clearSources byOrder mask).energy = s.energy ∧
      (s.clearSources byOrder mask).calendar = s.calendar ∧
      (s.clearSources byOrder mask).credit = s.credit ∧
      (s.clearSources byOrder mask).code = s.code ∧
      (s.clearSources byOrder mask).switch = s.switch ∧
      (s.clearSources byOrder mask).supply = s.supply ∧
      (s.clearSources byOrder mask).settings = s.settings ∧
      (s.clearSources byOrder mask).engine = s.engine ∧
      (s.clearSources byOrder mask).report = s.report ∧
      (s.clearSources byOrder mask).pins = s.pins ∧
      (s.clearSources byOrder mask).pending = s.pending ∧
      (s.clearSources byOrder mask).exchange.mem = s.exchange.mem ∧
      (s.clearSources byOrder mask).exchange.link = s.exchange.link ∧
      (s.clearSources byOrder mask).exchange.frame = s.exchange.frame ∧
      (s.clearSources byOrder mask).exchange.ignoring = s.exchange.ignoring ∧
      (s.clearSources byOrder mask).exchange.enable = s.exchange.enable ∧
      (s.clearSources byOrder mask).exchange.mirrorHolder = s.exchange.mirrorHolder ∧
      (s.clearSources byOrder mask).exchange.stageHolder = s.exchange.stageHolder ∧
      (s.clearSources byOrder mask).exchange.linkRequest = s.exchange.linkRequest ∧
      (s.clearSources byOrder mask).exchange.hold = s.exchange.hold ∧
      (s.clearSources byOrder mask).exchange.answersTold = s.exchange.answersTold ∧
      (s.clearSources byOrder mask).exchange.resetPending = s.exchange.resetPending ∧
      (s.clearSources byOrder mask).exchange.miso = s.exchange.miso := by
  refine ⟨?_, ?_, ?_, ?_, ?_, ?_, ?_, ?_, ?_, ?_, ?_, ?_, ?_, ?_, ?_, ?_, ?_, ?_, ?_, ?_, ?_, ?_, ?_⟩ <;>
    (simp only [State.clearSources]; simp)

@[simp] theorem State.clearOrder_frame (order : OrderId) (mask : Byte) :
    (s.clearOrder order mask).energy = s.energy ∧
      (s.clearOrder order mask).calendar = s.calendar ∧
      (s.clearOrder order mask).credit = s.credit ∧
      (s.clearOrder order mask).code = s.code ∧
      (s.clearOrder order mask).switch = s.switch ∧
      (s.clearOrder order mask).supply = s.supply ∧
      (s.clearOrder order mask).settings = s.settings ∧
      (s.clearOrder order mask).engine = s.engine ∧
      (s.clearOrder order mask).report = s.report ∧
      (s.clearOrder order mask).pins = s.pins ∧
      (s.clearOrder order mask).pending = s.pending ∧
      (s.clearOrder order mask).exchange.mem = s.exchange.mem ∧
      (s.clearOrder order mask).exchange.link = s.exchange.link ∧
      (s.clearOrder order mask).exchange.frame = s.exchange.frame ∧
      (s.clearOrder order mask).exchange.ignoring = s.exchange.ignoring ∧
      (s.clearOrder order mask).exchange.enable = s.exchange.enable ∧
      (s.clearOrder order mask).exchange.mirrorHolder = s.exchange.mirrorHolder ∧
      (s.clearOrder order mask).exchange.stageHolder = s.exchange.stageHolder ∧
      (s.clearOrder order mask).exchange.linkRequest = s.exchange.linkRequest ∧
      (s.clearOrder order mask).exchange.hold = s.exchange.hold ∧
      (s.clearOrder order mask).exchange.answersTold = s.exchange.answersTold ∧
      (s.clearOrder order mask).exchange.resetPending = s.exchange.resetPending ∧
      (s.clearOrder order mask).exchange.miso = s.exchange.miso := by
  refine ⟨?_, ?_, ?_, ?_, ?_, ?_, ?_, ?_, ?_, ?_, ?_, ?_, ?_, ?_, ?_, ?_, ?_, ?_, ?_, ?_, ?_, ?_, ?_⟩ <;>
    (simp only [State.clearOrder]; repeat' split) <;> simp

@[simp] theorem State.tamperHold_frame  :
    (s.tamperHold).energy = s.energy ∧
      (s.tamperHold).calendar = s.calendar ∧
      (s.tamperHold).credit = s.credit ∧
      (s.tamperHold).code = s.code ∧
      (s.tamperHold).switch = s.switch ∧
      (s.tamperHold).supply = s.supply ∧
      (s.tamperHold).settings = s.settings ∧
      (s.tamperHold).engine = s.engine ∧
      (s.tamperHold).report = s.report ∧
      (s.tamperHold).pins = s.pins ∧
      (s.tamperHold).pending = s.pending ∧
      (s.tamperHold).exchange.mem = s.exchange.mem ∧
      (s.tamperHold).exchange.link = s.exchange.link ∧
      (s.tamperHold).exchange.frame = s.exchange.frame ∧
      (s.tamperHold).exchange.ignoring = s.exchange.ignoring ∧
      (s.tamperHold).exchange.enable = s.exchange.enable ∧
      (s.tamperHold).exchange.mirrorHolder = s.exchange.mirrorHolder ∧
      (s.tamperHold).exchange.stageHolder = s.exchange.stageHolder ∧
      (s.tamperHold).exchange.linkRequest = s.exchange.linkRequest ∧
      (s.tamperHold).exchange.hold = s.exchange.hold ∧
      (s.tamperHold).exchange.answersTold = s.exchange.answersTold ∧
      (s.tamperHold).exchange.resetPending = s.exchange.resetPending ∧
      (s.tamperHold).exchange.miso = s.exchange.miso := by
  refine ⟨?_, ?_, ?_, ?_, ?_, ?_, ?_, ?_, ?_, ?_, ?_, ?_, ?_, ?_, ?_, ?_, ?_, ?_, ?_, ?_, ?_, ?_, ?_⟩ <;>
    (simp only [State.tamperHold]; repeat' split) <;> simp

@[simp] theorem State.standbyActions_frame  :
    (s.standbyActions).energy = s.energy ∧
      (s.standbyActions).calendar = s.calendar ∧
      (s.standbyActions).credit = s.credit ∧
      (s.standbyActions).code = s.code ∧
      (s.standbyActions).switch = s.switch ∧
      (s.standbyActions).supply = s.supply ∧
      (s.standbyActions).settings = s.settings ∧
      (s.standbyActions).engine = s.engine ∧
      (s.standbyActions).report = s.report ∧
      (s.standbyActions).pins = s.pins ∧
      (s.standbyActions).pending = s.pending ∧
      (s.standbyActions).exchange.mem = s.exchange.mem ∧
      (s.standbyActions).exchange.link = s.exchange.link ∧
      (s.standbyActions).exchange.frame = s.exchange.frame ∧
      (s.standbyActions).exchange.ignoring = s.exchange.ignoring ∧
      (s.standbyActions).exchange.enable = s.exchange.enable ∧
      (s.standbyActions).exchange.mirrorHolder = s.exchange.mirrorHolder ∧
      (s.standbyActions).exchange.stageHolder = s.exchange.stageHolder ∧
      (s.standbyActions).exchange.linkRequest = s.exchange.linkRequest ∧
      (s.standbyActions).exchange.hold = s.exchange.hold ∧
      (s.standbyActions).exchange.answersTold = s.exchange.answersTold ∧
      (s.standbyActions).exchange.resetPending = s.exchange.resetPending ∧
      (s.standbyActions).exchange.miso = s.exchange.miso := by
  refine ⟨?_, ?_, ?_, ?_, ?_, ?_, ?_, ?_, ?_, ?_, ?_, ?_, ?_, ?_, ?_, ?_, ?_, ?_, ?_, ?_, ?_, ?_, ?_⟩ <;>
    (simp only [State.standbyActions]; repeat' split) <;> simp

@[simp] theorem State.tamperWarm_frame  :
    (s.tamperWarm).calendar = s.calendar ∧
      (s.tamperWarm).credit = s.credit ∧
      (s.tamperWarm).code = s.code ∧
      (s.tamperWarm).switch = s.switch ∧
      (s.tamperWarm).supply = s.supply ∧
      (s.tamperWarm).settings = s.settings ∧
      (s.tamperWarm).engine = s.engine ∧
      (s.tamperWarm).report = s.report ∧
      (s.tamperWarm).pins = s.pins ∧
      (s.tamperWarm).pending = s.pending ∧
      (s.tamperWarm).exchange.mem = s.exchange.mem ∧
      (s.tamperWarm).exchange.link = s.exchange.link ∧
      (s.tamperWarm).exchange.frame = s.exchange.frame ∧
      (s.tamperWarm).exchange.ignoring = s.exchange.ignoring ∧
      (s.tamperWarm).exchange.enable = s.exchange.enable ∧
      (s.tamperWarm).exchange.mirrorHolder = s.exchange.mirrorHolder ∧
      (s.tamperWarm).exchange.stageHolder = s.exchange.stageHolder ∧
      (s.tamperWarm).exchange.linkRequest = s.exchange.linkRequest ∧
      (s.tamperWarm).exchange.hold = s.exchange.hold ∧
      (s.tamperWarm).exchange.answersTold = s.exchange.answersTold ∧
      (s.tamperWarm).exchange.resetPending = s.exchange.resetPending ∧
      (s.tamperWarm).exchange.miso = s.exchange.miso := by
  refine ⟨?_, ?_, ?_, ?_, ?_, ?_, ?_, ?_, ?_, ?_, ?_, ?_, ?_, ?_, ?_, ?_, ?_, ?_, ?_, ?_, ?_, ?_⟩ <;>
    (simp only [State.tamperWarm]; simp)

end Sys2Proof.Machine
end

