-- ==== Sys2Proof/Laws/Supervision.lean ====
section
/-! SUPPORT. What each operation of Machine/Supervision.lean leaves as it stands, once for each operation. -/

namespace Sys2Proof.Machine

variable (s : State)

@[simp] theorem State.readCell_frame (cell : Nat) :
    (s.readCell cell).energy = s.energy ∧
      (s.readCell cell).calendar = s.calendar ∧
      (s.readCell cell).credit = s.credit ∧
      (s.readCell cell).code = s.code ∧
      (s.readCell cell).switch = s.switch ∧
      (s.readCell cell).tamper = s.tamper ∧
      (s.readCell cell).settings = s.settings ∧
      (s.readCell cell).engine = s.engine ∧
      (s.readCell cell).report = s.report ∧
      (s.readCell cell).pins = s.pins ∧
      (s.readCell cell).pending = s.pending ∧
      (s.readCell cell).exchange.mem = s.exchange.mem ∧
      (s.readCell cell).exchange.link = s.exchange.link ∧
      (s.readCell cell).exchange.frame = s.exchange.frame ∧
      (s.readCell cell).exchange.ignoring = s.exchange.ignoring ∧
      (s.readCell cell).exchange.enable = s.exchange.enable ∧
      (s.readCell cell).exchange.mirrorHolder = s.exchange.mirrorHolder ∧
      (s.readCell cell).exchange.stageHolder = s.exchange.stageHolder ∧
      (s.readCell cell).exchange.linkRequest = s.exchange.linkRequest ∧
      (s.readCell cell).exchange.hold = s.exchange.hold ∧
      (s.readCell cell).exchange.answersTold = s.exchange.answersTold ∧
      (s.readCell cell).exchange.resetPending = s.exchange.resetPending ∧
      (s.readCell cell).exchange.miso = s.exchange.miso := by
  refine ⟨?_, ?_, ?_, ?_, ?_, ?_, ?_, ?_, ?_, ?_, ?_, ?_, ?_, ?_, ?_, ?_, ?_, ?_, ?_, ?_, ?_, ?_, ?_⟩ <;>
    (simp only [State.readCell]; repeat' split) <;> simp

@[simp] theorem State.readCellInHold_frame (cell : Nat) :
    (s.readCellInHold cell).energy = s.energy ∧
      (s.readCellInHold cell).calendar = s.calendar ∧
      (s.readCellInHold cell).credit = s.credit ∧
      (s.readCellInHold cell).code = s.code ∧
      (s.readCellInHold cell).switch = s.switch ∧
      (s.readCellInHold cell).tamper = s.tamper ∧
      (s.readCellInHold cell).settings = s.settings ∧
      (s.readCellInHold cell).engine = s.engine ∧
      (s.readCellInHold cell).report = s.report ∧
      (s.readCellInHold cell).pins = s.pins ∧
      (s.readCellInHold cell).pending = s.pending ∧
      (s.readCellInHold cell).exchange = s.exchange ∧
      (s.readCellInHold cell).inFlight = s.inFlight := by
  refine ⟨?_, ?_, ?_, ?_, ?_, ?_, ?_, ?_, ?_, ?_, ?_, ?_, ?_⟩ <;>
    (simp only [State.readCellInHold]; repeat' split) <;> simp

@[simp] theorem State.handHoldEntry_frame  :
    (s.handHoldEntry).energy = s.energy ∧
      (s.handHoldEntry).calendar = s.calendar ∧
      (s.handHoldEntry).credit = s.credit ∧
      (s.handHoldEntry).code = s.code ∧
      (s.handHoldEntry).switch = s.switch ∧
      (s.handHoldEntry).tamper = s.tamper ∧
      (s.handHoldEntry).supply = s.supply ∧
      (s.handHoldEntry).settings = s.settings ∧
      (s.handHoldEntry).engine = s.engine ∧
      (s.handHoldEntry).report = s.report ∧
      (s.handHoldEntry).pins = s.pins ∧
      (s.handHoldEntry).pending = s.pending ∧
      (s.handHoldEntry).exchange = s.exchange := by
  refine ⟨?_, ?_, ?_, ?_, ?_, ?_, ?_, ?_, ?_, ?_, ?_, ?_, ?_⟩ <;>
    (simp only [State.handHoldEntry]; simp)

@[simp] theorem State.enterHold_frame (cell : Nat) :
    (s.enterHold cell).energy = s.energy ∧
      (s.enterHold cell).calendar = s.calendar ∧
      (s.enterHold cell).credit = s.credit ∧
      (s.enterHold cell).code = s.code ∧
      (s.enterHold cell).switch = s.switch ∧
      (s.enterHold cell).tamper = s.tamper ∧
      (s.enterHold cell).settings = s.settings ∧
      (s.enterHold cell).engine = s.engine ∧
      (s.enterHold cell).report = s.report ∧
      (s.enterHold cell).pins = s.pins ∧
      (s.enterHold cell).pending = s.pending ∧
      (s.enterHold cell).exchange = s.exchange := by
  refine ⟨?_, ?_, ?_, ?_, ?_, ?_, ?_, ?_, ?_, ?_, ?_, ?_⟩ <;>
    (simp only [State.enterHold]; simp)

@[simp] theorem State.journalPower_frame  :
    (s.journalPower).energy = s.energy ∧
      (s.journalPower).calendar = s.calendar ∧
      (s.journalPower).credit = s.credit ∧
      (s.journalPower).code = s.code ∧
      (s.journalPower).switch = s.switch ∧
      (s.journalPower).tamper = s.tamper ∧
      (s.journalPower).supply = s.supply ∧
      (s.journalPower).settings = s.settings ∧
      (s.journalPower).engine = s.engine ∧
      (s.journalPower).report = s.report ∧
      (s.journalPower).pins = s.pins ∧
      (s.journalPower).pending = s.pending ∧
      (s.journalPower).exchange = s.exchange := by
  refine ⟨?_, ?_, ?_, ?_, ?_, ?_, ?_, ?_, ?_, ?_, ?_, ?_, ?_⟩ <;>
    (simp only [State.journalPower]; simp)

@[simp] theorem State.sweepOnDoubt_frame  :
    (s.sweepOnDoubt).energy = s.energy ∧
      (s.sweepOnDoubt).calendar = s.calendar ∧
      (s.sweepOnDoubt).credit = s.credit ∧
      (s.sweepOnDoubt).code = s.code ∧
      (s.sweepOnDoubt).switch = s.switch ∧
      (s.sweepOnDoubt).tamper = s.tamper ∧
      (s.sweepOnDoubt).settings = s.settings ∧
      (s.sweepOnDoubt).engine = s.engine ∧
      (s.sweepOnDoubt).report = s.report ∧
      (s.sweepOnDoubt).pins = s.pins ∧
      (s.sweepOnDoubt).pending = s.pending ∧
      (s.sweepOnDoubt).exchange = s.exchange := by
  refine ⟨?_, ?_, ?_, ?_, ?_, ?_, ?_, ?_, ?_, ?_, ?_, ?_⟩ <;>
    (simp only [State.sweepOnDoubt]; repeat' split) <;> simp

@[simp] theorem State.handWarmStart_frame  :
    (s.handWarmStart).energy = s.energy ∧
      (s.handWarmStart).calendar = s.calendar ∧
      (s.handWarmStart).credit = s.credit ∧
      (s.handWarmStart).code = s.code ∧
      (s.handWarmStart).switch = s.switch ∧
      (s.handWarmStart).tamper = s.tamper ∧
      (s.handWarmStart).supply = s.supply ∧
      (s.handWarmStart).settings = s.settings ∧
      (s.handWarmStart).engine = s.engine ∧
      (s.handWarmStart).report = s.report ∧
      (s.handWarmStart).pins = s.pins ∧
      (s.handWarmStart).pending = s.pending ∧
      (s.handWarmStart).exchange = s.exchange := by
  refine ⟨?_, ?_, ?_, ?_, ?_, ?_, ?_, ?_, ?_, ?_, ?_, ?_, ?_⟩ <;>
    (simp only [State.handWarmStart]; simp)

@[simp] theorem State.enterRun_frame (cell : Nat) :
    (s.enterRun cell).energy = s.energy ∧
      (s.enterRun cell).calendar = s.calendar ∧
      (s.enterRun cell).credit = s.credit ∧
      (s.enterRun cell).code = s.code ∧
      (s.enterRun cell).switch = s.switch ∧
      (s.enterRun cell).tamper = s.tamper ∧
      (s.enterRun cell).settings = s.settings ∧
      (s.enterRun cell).engine = s.engine ∧
      (s.enterRun cell).report = s.report ∧
      (s.enterRun cell).pins = s.pins ∧
      (s.enterRun cell).pending = s.pending ∧
      (s.enterRun cell).exchange.mem = s.exchange.mem ∧
      (s.enterRun cell).exchange.link = s.exchange.link ∧
      (s.enterRun cell).exchange.frame = s.exchange.frame ∧
      (s.enterRun cell).exchange.ignoring = s.exchange.ignoring ∧
      (s.enterRun cell).exchange.enable = s.exchange.enable ∧
      (s.enterRun cell).exchange.mirrorHolder = s.exchange.mirrorHolder ∧
      (s.enterRun cell).exchange.stageHolder = s.exchange.stageHolder ∧
      (s.enterRun cell).exchange.linkRequest = s.exchange.linkRequest ∧
      (s.enterRun cell).exchange.hold = s.exchange.hold ∧
      (s.enterRun cell).exchange.answersTold = s.exchange.answersTold ∧
      (s.enterRun cell).exchange.resetPending = s.exchange.resetPending ∧
      (s.enterRun cell).exchange.miso = s.exchange.miso := by
  refine ⟨?_, ?_, ?_, ?_, ?_, ?_, ?_, ?_, ?_, ?_, ?_, ?_, ?_, ?_, ?_, ?_, ?_, ?_, ?_, ?_, ?_, ?_, ?_⟩ <;>
    (simp only [State.enterRun]; simp)

@[simp] theorem State.changeVoltage_frame (u : Nat) :
    (s.changeVoltage u).energy = s.energy ∧
      (s.changeVoltage u).calendar = s.calendar ∧
      (s.changeVoltage u).credit = s.credit ∧
      (s.changeVoltage u).code = s.code ∧
      (s.changeVoltage u).switch = s.switch ∧
      (s.changeVoltage u).tamper = s.tamper ∧
      (s.changeVoltage u).settings = s.settings ∧
      (s.changeVoltage u).engine = s.engine ∧
      (s.changeVoltage u).report = s.report ∧
      (s.changeVoltage u).pins = s.pins ∧
      (s.changeVoltage u).pending = s.pending ∧
      (s.changeVoltage u).exchange = s.exchange := by
  refine ⟨?_, ?_, ?_, ?_, ?_, ?_, ?_, ?_, ?_, ?_, ?_, ?_⟩ <;>
    (simp only [State.changeVoltage]; simp)

@[simp] theorem State.judgeVoltage_frame (u : Nat) :
    (s.judgeVoltage u).energy = s.energy ∧
      (s.judgeVoltage u).calendar = s.calendar ∧
      (s.judgeVoltage u).credit = s.credit ∧
      (s.judgeVoltage u).code = s.code ∧
      (s.judgeVoltage u).switch = s.switch ∧
      (s.judgeVoltage u).tamper = s.tamper ∧
      (s.judgeVoltage u).settings = s.settings ∧
      (s.judgeVoltage u).engine = s.engine ∧
      (s.judgeVoltage u).report = s.report ∧
      (s.judgeVoltage u).pins = s.pins ∧
      (s.judgeVoltage u).pending = s.pending ∧
      (s.judgeVoltage u).exchange = s.exchange := by
  refine ⟨?_, ?_, ?_, ?_, ?_, ?_, ?_, ?_, ?_, ?_, ?_, ?_⟩ <;>
    (simp only [State.judgeVoltage]; repeat' split) <;> simp

@[simp] theorem State.changeSag_frame (u : Nat) :
    (s.changeSag u).energy = s.energy ∧
      (s.changeSag u).calendar = s.calendar ∧
      (s.changeSag u).credit = s.credit ∧
      (s.changeSag u).code = s.code ∧
      (s.changeSag u).switch = s.switch ∧
      (s.changeSag u).tamper = s.tamper ∧
      (s.changeSag u).settings = s.settings ∧
      (s.changeSag u).engine = s.engine ∧
      (s.changeSag u).report = s.report ∧
      (s.changeSag u).pins = s.pins ∧
      (s.changeSag u).pending = s.pending ∧
      (s.changeSag u).exchange = s.exchange := by
  refine ⟨?_, ?_, ?_, ?_, ?_, ?_, ?_, ?_, ?_, ?_, ?_, ?_⟩ <;>
    (simp only [State.changeSag]; repeat' split) <;> simp

@[simp] theorem State.judgeSag_frame (u : Nat) :
    (s.judgeSag u).energy = s.energy ∧
      (s.judgeSag u).calendar = s.calendar ∧
      (s.judgeSag u).credit = s.credit ∧
      (s.judgeSag u).code = s.code ∧
      (s.judgeSag u).switch = s.switch ∧
      (s.judgeSag u).tamper = s.tamper ∧
      (s.judgeSag u).settings = s.settings ∧
      (s.judgeSag u).engine = s.engine ∧
      (s.judgeSag u).report = s.report ∧
      (s.judgeSag u).pins = s.pins ∧
      (s.judgeSag u).pending = s.pending ∧
      (s.judgeSag u).exchange = s.exchange := by
  refine ⟨?_, ?_, ?_, ?_, ?_, ?_, ?_, ?_, ?_, ?_, ?_, ?_⟩ <;>
    (simp only [State.judgeSag]; repeat' split) <;> simp

@[simp] theorem State.judgeBlock_frame (u : Nat) :
    (s.judgeBlock u).energy = s.energy ∧
      (s.judgeBlock u).calendar = s.calendar ∧
      (s.judgeBlock u).credit = s.credit ∧
      (s.judgeBlock u).code = s.code ∧
      (s.judgeBlock u).switch = s.switch ∧
      (s.judgeBlock u).tamper = s.tamper ∧
      (s.judgeBlock u).settings = s.settings ∧
      (s.judgeBlock u).engine = s.engine ∧
      (s.judgeBlock u).report = s.report ∧
      (s.judgeBlock u).pins = s.pins ∧
      (s.judgeBlock u).pending = s.pending ∧
      (s.judgeBlock u).exchange = s.exchange := by
  refine ⟨?_, ?_, ?_, ?_, ?_, ?_, ?_, ?_, ?_, ?_, ?_, ?_⟩ <;>
    (simp only [State.judgeBlock]; simp)

@[simp] theorem State.backupSecond_frame (cell : Nat) :
    (s.backupSecond cell).energy = s.energy ∧
      (s.backupSecond cell).calendar = s.calendar ∧
      (s.backupSecond cell).credit = s.credit ∧
      (s.backupSecond cell).code = s.code ∧
      (s.backupSecond cell).switch = s.switch ∧
      (s.backupSecond cell).tamper = s.tamper ∧
      (s.backupSecond cell).settings = s.settings ∧
      (s.backupSecond cell).engine = s.engine ∧
      (s.backupSecond cell).report = s.report ∧
      (s.backupSecond cell).pins = s.pins ∧
      (s.backupSecond cell).pending = s.pending ∧
      (s.backupSecond cell).exchange.mem = s.exchange.mem ∧
      (s.backupSecond cell).exchange.link = s.exchange.link ∧
      (s.backupSecond cell).exchange.frame = s.exchange.frame ∧
      (s.backupSecond cell).exchange.ignoring = s.exchange.ignoring ∧
      (s.backupSecond cell).exchange.enable = s.exchange.enable ∧
      (s.backupSecond cell).exchange.mirrorHolder = s.exchange.mirrorHolder ∧
      (s.backupSecond cell).exchange.stageHolder = s.exchange.stageHolder ∧
      (s.backupSecond cell).exchange.linkRequest = s.exchange.linkRequest ∧
      (s.backupSecond cell).exchange.hold = s.exchange.hold ∧
      (s.backupSecond cell).exchange.answersTold = s.exchange.answersTold ∧
      (s.backupSecond cell).exchange.resetPending = s.exchange.resetPending ∧
      (s.backupSecond cell).exchange.miso = s.exchange.miso := by
  refine ⟨?_, ?_, ?_, ?_, ?_, ?_, ?_, ?_, ?_, ?_, ?_, ?_, ?_, ?_, ?_, ?_, ?_, ?_, ?_, ?_, ?_, ?_, ?_⟩ <;>
    (simp only [State.backupSecond]; repeat' split) <;> simp

@[simp] theorem State.superviseSecond_frame (coil cell : Nat) :
    (s.superviseSecond coil cell).energy = s.energy ∧
      (s.superviseSecond coil cell).calendar = s.calendar ∧
      (s.superviseSecond coil cell).credit = s.credit ∧
      (s.superviseSecond coil cell).code = s.code ∧
      (s.superviseSecond coil cell).switch = s.switch ∧
      (s.superviseSecond coil cell).tamper = s.tamper ∧
      (s.superviseSecond coil cell).settings = s.settings ∧
      (s.superviseSecond coil cell).engine = s.engine ∧
      (s.superviseSecond coil cell).report = s.report ∧
      (s.superviseSecond coil cell).pins = s.pins ∧
      (s.superviseSecond coil cell).pending = s.pending ∧
      (s.superviseSecond coil cell).exchange.mem = s.exchange.mem ∧
      (s.superviseSecond coil cell).exchange.link = s.exchange.link ∧
      (s.superviseSecond coil cell).exchange.frame = s.exchange.frame ∧
      (s.superviseSecond coil cell).exchange.ignoring = s.exchange.ignoring ∧
      (s.superviseSecond coil cell).exchange.enable = s.exchange.enable ∧
      (s.superviseSecond coil cell).exchange.mirrorHolder = s.exchange.mirrorHolder ∧
      (s.superviseSecond coil cell).exchange.stageHolder = s.exchange.stageHolder ∧
      (s.superviseSecond coil cell).exchange.linkRequest = s.exchange.linkRequest ∧
      (s.superviseSecond coil cell).exchange.hold = s.exchange.hold ∧
      (s.superviseSecond coil cell).exchange.answersTold = s.exchange.answersTold ∧
      (s.superviseSecond coil cell).exchange.resetPending = s.exchange.resetPending ∧
      (s.superviseSecond coil cell).exchange.miso = s.exchange.miso := by
  refine ⟨?_, ?_, ?_, ?_, ?_, ?_, ?_, ?_, ?_, ?_, ?_, ?_, ?_, ?_, ?_, ?_, ?_, ?_, ?_, ?_, ?_, ?_, ?_⟩ <;>
    (simp only [State.superviseSecond]; simp)

end Sys2Proof.Machine
end

