-- ==== Sys2Proof/Laws/Ticks.lean ====
section
/-! SUPPORT. What each operation of Machine/Ticks.lean leaves as it stands, once for each operation. -/

namespace Sys2Proof.Machine

variable (s : State)

@[simp] theorem State.tickMs_frame  :
    (s.tickMs).energy = s.energy ∧
      (s.tickMs).calendar = s.calendar ∧
      (s.tickMs).credit = s.credit ∧
      (s.tickMs).code = s.code ∧
      (s.tickMs).supply = s.supply ∧
      (s.tickMs).settings = s.settings ∧
      (s.tickMs).engine = s.engine ∧
      (s.tickMs).report = s.report ∧
      (s.tickMs).pins = s.pins ∧
      (s.tickMs).pending = s.pending ∧
      (s.tickMs).exchange = s.exchange ∧
      (s.tickMs).inFlight = s.inFlight := by
  refine ⟨?_, ?_, ?_, ?_, ?_, ?_, ?_, ?_, ?_, ?_, ?_, ?_⟩ <;>
    (simp only [State.tickMs]; simp)

end Sys2Proof.Machine
end

