-- ==== Sys2Proof/Tests/Slice0.lean ====
section
/-! SUPPORT. Tests: the manual's worked examples and layouts, each on one command; the WellFormed smoke test; frames written out
from R168 and R169; and for each statement with hypotheses a witness, `witness_<Name>`, that states and operands meet them, clause by
clause, at the boundary values. Expected values are the manual's, or worked by hand from its rules. -/

-- One kernel evaluation after another: run side by side, they ask for more threads than the memory limit of a check admits.
set_option Elab.async false

namespace Sys2Proof.Tests

open Sys2Proof Sys2Proof.Machine

/-! ### Helpers -/

/-- A part of the state that a command answers. -/
def got {α : Type} (c : Instr) (s : State) (f : State → α) : Option α :=
  match exec c s with
  | .next t => some (f t)
  | .fault _ => none
  | .refused _ => none

/-- A setting given another value. -/
def having (s : State) (x : SettingId) (v : Nat) : State :=
  s.onSettings fun y => { y with values := y.values.set x.index v }

/-- The meter of the ten-ampere example: calibrated, relay CLOSED, metering. -/
def metering (r : Nat) (billed : BitVec 64) : State :=
  ((having (having (having State.reset .kL 5359) .kN 5359) .kV 9421).onSwitch fun x => { x with relay := .closed }).onEnergy
    fun x => { x with settling := false, rL := r, rN := r, billed := billed }

/-- The block result of a block. -/
def blockResult (billed : Nat) : BlockResult :=
  { billed := billed, channel := .line, direction := .forward, lineMagnitude := 79855, neutralMagnitude := 79855, voltage := 2300,
    relay := .closed, imbalance := ⟨false, false⟩, reverse := ⟨false, false⟩, bypass := ⟨false, false⟩ }

/-- The tariff of the weekend example, with the money parameters of the credit example. -/
def weekend : Tariff :=
  { rates := #v[180000, 250000, 320000, 90000]
    workday := [⟨25200, 1⟩, ⟨61200, 2⟩, ⟨75600, 0⟩]
    restDay := [⟨36000, 3⟩]
    windows := [⟨79200, 25200, 48⟩, ⟨43200, 50400, 64⟩]
    w0 := 3, restMask := 96, sc := 10000, lowT := 100000, df := 3000000, ec := 2000000 }

/-- The meter of the credit examples: in service, band 1. -/
def charging (c : Int) (q : Nat) (state : CreditState) : State :=
  ((State.reset.onCalendar fun x => { x with table := weekend, band := 1, t := 1728000000 }).onSettings
    fun x => { x with service := .inService }).onCredit
      fun x => { x with c := c, q := q, state := state, serviceView := .inService, hLast := 480000 }

/-- A Switch Unit in a relay state with an operation. -/
def moving (st : RelayState) (d : OpDirection) (p : OpPhase) (attempt : Nat) : State :=
  State.reset.onSwitch fun x => { x with relay := st, operation := some ⟨d, p, attempt, none, false, .ordinary⟩ }

/-- A Switch Unit at rest in a relay state, with a reason set. -/
def resting (st : RelayState) (r : ReasonSet) : State := State.reset.onSwitch fun x => { x with relay := st, reasons := r }

/-- A part with one unit in its HOLD. -/
def held : State :=
  (((State.reset.onSupply fun x => { x with power := .hold }).onSwitch fun x => { x with hold := true }).onTamper
    fun x => { x with hold := true }).onReport fun x => { x with hold := true }

/-- An injection on a source. -/
def injected (i : Source) (g : Stage) (forced : Nat) : State :=
  State.reset.onTamper fun x => { x with injection := some ⟨i, 1050, 0, g, forced, ⟨2, 0⟩⟩ }

/-- A slot in a state. -/
def slotIn (n : Fin 8) (st : SlotState) : State := State.reset.onEngine fun x => { x with slots := x.slots.set n st }

/-- An engine with a current order and a work item with some accesses granted. -/
def working (w : WorkItem) (granted : Nat) (phase : OrderPhase) (bytes : List Byte) : State :=
  State.reset.onEngine fun x =>
    { x with work := [w], granted := granted, current := some ⟨⟨0, 0⟩, bytes, phase, false⟩, slots := x.slots.set 0 .taken }

/-- A journal writer with an entry in hand. -/
def writing (g : WriterStage) : State :=
  State.reset.onReport fun x =>
    { x with writer := some { entries := [⟨0, .sag 0 1⟩], stage := g, savedOverflow := false, savedLoss := none } }

/-- A frame in its data phase. -/
def framed (write : Bool) (w : Walk) (a : BitVec 12) (word : CurrentWord) : State :=
  State.reset.onExchange fun x => { x with frame := some ⟨write, w, a, word⟩ }

/-! ### The commands' words (the table gives none), frames, well-formedness -/

/-- R168, R169: a READ of two mirror bytes, a held WRITE, a line-ascending READ without data, an invalid command, a cut address. -/
theorem test_frames_decode :
    decodeTableWord 32 0xB0024000 = none ∧
    decodeFrame [0xB0, 0x02, 0x40, 0, 0, 0] = some (.readAscend ⟨.at 0x0240, 2, true⟩) ∧
    decodeFrame [0xB1, 0x00, 0x43, 0, 0] = some (.readDescend ⟨.at 0x0043, 1, true⟩) ∧
    decodeFrame [0xB2, 0x0F, 0xC8, 0, 0] = some (.readHold ⟨.at 0x0FC8, 1, true⟩) ∧
    decodeFrame [0xB3, 0x0F, 0xC2, 0] = some (.readLineAscend ⟨.at 0x0FC2, 0, true⟩) ∧
    decodeFrame [0x70, 0x0F, 0xC0, 0x04] = some (.writeAscend ⟨.at 0x0FC0, [0x04], true⟩) ∧
    decodeFrame [0x71, 0x00, 0x43, 1, 2] = some (.writeDescend ⟨.at 0x0043, [1, 2], true⟩) ∧
    decodeFrame [0x72, 0x0F, 0xC3, 0xFF] = some (.writeHold ⟨.at 0x0FC3, [0xFF], true⟩) ∧
    decodeFrame [0x73, 0xF3, 0x00, 7] = some (.writeLineAscend ⟨.at 0xF300, [7], true⟩) ∧
    decodeFrame [0x42, 0] = some (.invalidCommand 0x42 1) ∧
    decodeFrame [0xB0, 0x02] = some (.readAscend ⟨.short 1, 0, true⟩) ∧
    decodeFrame [] = none := by decide +kernel

/-- Each check of WellFormed refuses an ill-formed command, and takes the command at its limit. -/
theorem test_wellFormed_refuses :
    Instr.wellFormed (.blockCompletion (-536870912000) 536870912000 536870912000) = true ∧
    Instr.wellFormed (.blockCompletion 536870912001 0 0) = false ∧ Instr.wellFormed (.blockCompletion 0 (-536870912001) 0) = false ∧
    Instr.wellFormed (.blockCompletion 0 0 536870912001) = false ∧
    Instr.wellFormed (.tariffImageArrival ⟨0, 0⟩ []) = false ∧ Instr.wellFormed (.enterCode ⟨0, 0⟩ [1, 2, 3]) = false ∧
    Instr.wellFormed (.creditBlockResult { blockResult 0 with voltage := 32768 }) = false ∧
    Instr.wellFormed (.switchBlockResult (blockResult (2 ^ 40))) = false ∧
    Instr.wellFormed (.tamperBlockResult { blockResult 0 with lineMagnitude := 2 ^ 40 }) = false ∧
    Instr.wellFormed (.trip { blockResult 0 with neutralMagnitude := 2 ^ 40 }) = false ∧
    Instr.wellFormed (.topUpRequest 0) = false ∧ Instr.wellFormed (.topUpRequest 16777216) = false ∧
    Instr.wellFormed (.reasonRequest true .remote) = false ∧ Instr.wellFormed (.reasonRequest true .overLimit) = false ∧
    Instr.wellFormed (.coilReading 65535) = true ∧ Instr.wellFormed (.coilReading 65536) = false ∧
    Instr.wellFormed (.holdEntry 65536) = false ∧ Instr.wellFormed (.supervisorSecond 0 65536) = false ∧
    Instr.wellFormed (.limitRequest 65536) = false ∧ Instr.wellFormed (.qualificationTimerExpiry .magnet) = false ∧
    Instr.wellFormed (.clearRequest 0) = false ∧
    Instr.wellFormed (.readAscend ⟨.short 2, 1, true⟩) = false ∧ Instr.wellFormed (.readHold ⟨.short 2, 0, false⟩) = false ∧
    Instr.wellFormed (.writeAscend ⟨.short 2, [], true⟩) = false ∧ Instr.wellFormed (.writeHold ⟨.short 1, [0], true⟩) = false ∧
    Instr.wellFormed (.invalidCommand 0xB3 0) = false ∧ Instr.wellFormed (.registerWriteOther 0xFC4 0) = false ∧
    Instr.wellFormed (.registerWriteOther 0xFC5 0) = true ∧ Instr.wellFormed (.relayStateReport .opening ReasonSet.empty) = false ∧
    Instr.wellFormed (.entryArrival ⟨4294967296, .sag 0 0⟩) = false := by decide +kernel

/-! ### Reset -/

/-- The published check value of this check, of the nine digits '1' to '9' (polynomial 0x1021, preset 0xFFFF, no inversion; R70). -/
theorem test_crc_of_nine_digits : crc16 [0x31, 0x32, 0x33, 0x34, 0x35, 0x36, 0x37, 0x38, 0x39] = 0x29B1#16 := by decide +kernel

/-- R159, R166: the check word over the defaults, worked by hand from the polynomial over the stream of R159. -/
theorem test_reset_check_word : State.reset.settings.computed = 0xE48A := by
  have h : State.reset.settings.stream false = [0, 0, 0, 0, 0, 0, 0, 0, 0, 0, 0, 0, 0, 0, 0, 0, 0, 0, 0, 0]
      ++ [0, 0, 0, 0, 2, 8, 7, 208, 40, 7, 208, 1, 244, 7, 7, 7, 7, 7, 7, 60]
      ++ [8, 0, 60, 10, 85, 0, 100, 7, 163, 42, 48, 46, 224, 12, 28, 10, 140] := by decide +kernel
  have h0 : List.foldl crcByte 0xFFFF#16 ([0, 0, 0, 0, 0, 0, 0, 0, 0, 0, 0, 0, 0, 0, 0, 0, 0, 0, 0, 0] : List Byte) = 0xF6B8#16 := by decide +kernel
  have h1 : List.foldl crcByte 0xF6B8#16 ([0, 0, 0, 0, 2, 8, 7, 208, 40, 7, 208, 1, 244, 7, 7, 7, 7, 7, 7, 60] : List Byte) = 0x90DD#16 := by decide +kernel
  have h2 : List.foldl crcByte 0x90DD#16 ([8, 0, 60, 10, 85, 0, 100, 7, 163, 42, 48, 46, 224, 12, 28, 10, 140] : List Byte) = 0xE48A#16 := by decide +kernel
  show crc16 (State.reset.settings.stream false) = 0xE48A
  rw [h, crc16, List.foldl_append, List.foldl_append, h0, h1, h2]
  rfl

/-- R184: the header, and a cold start with every line at rest. -/
theorem test_cold_start :
    Memory.wf State.reset.exchange.mem = true ∧
    (List.range 6).map (Memory.read State.reset.exchange.mem) = [0x02, 0x01, 48, 16, 0, 0] ∧
    got (.coldStart 3100) { State.reset with supply := { State.reset.supply with retention := false, power := .hold } } id =
      some State.reset := by decide +kernel

/-! ### Energy Unit: the ten-ampere example and the bypassed path -/

theorem test_settling_block :
    got (.blockCompletion 64000000000 64000000000 128000000000) (having State.reset .kL 5359)
      (fun t => (t.energy.settling, t.energy.rL, t.energy.billed, t.inFlight)) =
        some (false, 0, 0, [.blockCompletionReport]) := by decide +kernel

theorem test_block_one :
    got (.blockCompletion 64000000000 64000000000 128000000000) (metering 0 0)
      (fun t => (t.energy.rL, t.energy.rN, t.energy.billed, t.energy.forward, t.energy.power, t.energy.voltage)) =
        some (1386577920, 1386577920, 79855, 79855, 2299, 2300) := by decide +kernel

theorem test_block_four :
    got (.blockCompletion 64000000000 64000000000 128000000000) (metering 4159733760 239565)
      (fun t => (t.energy.rL, t.energy.billed, t.energy.power, t.inFlight.head?)) =
        some (1251344384, 319421, 2299, some (.creditBlockResult { blockResult 79856 with voltage := 2300 })) := by decide +kernel

theorem test_bypassed_path :
    got (.blockCompletion 12800000000 64000000000 128000000000) (metering 0 0)
      (fun t => (t.energy.billed, t.energy.imbalance.count, t.energy.rN)) = some (79855, 1, 1386577920) := by decide +kernel

/-- R5, R8: energy in reverse is billed and counted in the reverse register. -/
theorem test_reverse_block :
    got (.blockCompletion (-64000000000) 0 0) (metering 0 7)
      (fun t => (t.energy.billed, t.energy.forward, t.energy.reverse, t.energy.reverseFlow.count)) =
        some (79862, 0, 79855, 1) := by decide +kernel

/-! ### Calendar Unit: the weekend example and the time sets -/

theorem test_bands_of_the_weekend :
    ([1728010800, 1728080000, 1728104400, 1728190800, 1728217800, 1728277200].map fun t => (bandAt weekend t, friendlyAt weekend t)) =
      [(0, false), (0, true), (0, true), (3, true), (3, true), (3, false)] := by decide +kernel

/-- Order 1 of the example, with its renewal, and order 4, whose allowance is spent. -/
theorem test_time_sets :
    got (.setTime ⟨0, 0⟩ 1728011800) (((charging 0 0 .exhausted).onCalendar
        fun x => { x with t := 1728010800, allowance := 120, allowanceDay := 19998 }))
      (fun t => (t.calendar.t, t.calendar.allowance, t.calendar.allowanceDay, t.inFlight.getLast?)) =
        some (1728011100, 600, 20000, some (.ownerAnswer ⟨0, 0⟩ .ok (.setTime 1000 300 600))) ∧
    got (.setTime ⟨0, 0⟩ 1728011150) (((charging 0 0 .exhausted).onCalendar
        fun x => { x with t := 1728011100, allowance := 0, allowanceDay := 20000 }))
      (fun t => (t.calendar.t, t.inFlight)) = some (1728011100, [.ownerAnswer ⟨0, 0⟩ .ok (.setTime 50 0 0)]) := by decide +kernel

/-- R25: meter time saturates. -/
theorem test_second_tick :
    got .secondTick (State.reset.onCalendar fun x => { x with t := 4294967295 }) (fun t => t.calendar.t) = some 4294967295 ∧
    got .secondTick held (fun t => (t.calendar.t, t.supply.holdTimer, t.inFlight)) = some (1, 1, []) := by decide +kernel

/-- The weekend's image by the layout of R188. -/
def weekendImage : List Byte :=
  beBytes 4 180000 ++ beBytes 4 250000 ++ beBytes 4 320000 ++ beBytes 4 90000 ++
  [3, 0, 0, 0] ++ beBytes 3 25200 ++ [1] ++ beBytes 3 61200 ++ [2] ++ beBytes 3 75600 ++ [0] ++ List.replicate 20 0 ++
  [1, 0, 0, 0] ++ beBytes 3 36000 ++ [3] ++ List.replicate 28 0 ++
  [2, 0, 0, 0] ++ beBytes 3 79200 ++ beBytes 3 25200 ++ [48, 0] ++ beBytes 3 43200 ++ beBytes 3 50400 ++ [64, 0] ++
  List.replicate 16 0 ++ [3, 96, 0, 0] ++ beBytes 4 10000 ++ beBytes 4 100000 ++ beBytes 4 3000000 ++ beBytes 4 2000000 ++
  List.replicate 112 0

theorem test_tariff_image :
    weekendImage.length = 256 ∧ imageFault weekendImage = none ∧ imageTariff weekendImage = weekend ∧
    imageFault (List.replicate 256 0) = some (2, 0) ∧ imageFault (weekendImage.set 31 4) = some (3, 2) ∧
    imageFault (weekendImage.set 0x7C 7) = some (8, 0) := by decide +kernel

/-! ### Credit Unit: the two examples -/

theorem test_blocks_charged :
    got (.creditBlockResult (blockResult 79855)) (charging 60 0 .low) (fun t => (t.credit.c, t.credit.q, t.credit.state)) =
      some (41, 963750000, .low) ∧
    got (.creditBlockResult (blockResult 79856)) (charging 1 891250000 .low)
      (fun t => (t.credit.c, t.credit.q, t.credit.state, t.credit.requested, t.inFlight)) =
        some (-19, 855250000, .exhausted, true, [.entryArrival ⟨1728000000, .credit .low .exhausted .block (-19) 0⟩,
          .reasonRequest true .credit]) := by decide +kernel

theorem test_emergency :
    got (.emergency ⟨3, 0⟩) ((charging (-19) 0 .exhausted).onCredit fun x => { x with requested := true })
      (fun t => (t.credit.state, t.credit.ea, t.credit.em, t.inFlight.getLast?)) =
        some (.emergency, false, true, some (.ownerAnswer ⟨3, 0⟩ .ok (.emergency .emergency false true (-19)))) ∧
    got (.emergency ⟨3, 0⟩) (charging (-2000000) 0 .exhausted) (fun t => t.inFlight) =
      some [.ownerAnswer ⟨3, 0⟩ .wrongState (.emergency .exhausted true false (-2000000))] := by decide +kernel

/-- The HOLD lump of 120 hours, the next hour at the floor, the adoption, the top-up. -/
theorem test_outage_and_top_up :
    got .creditWarmStart ((charging (-1950000) 0 .emergency).onCredit fun x => { x with em := true, ea := false, hLast := 479880 })
      (fun t => (t.credit.c, t.credit.b, t.credit.state)) = some (-3000000, 150000, .exhausted) ∧
    got .creditSecond ((charging (-3000000) 0 .exhausted).onCredit fun x => { x with em := true, b := 150000, hLast := 479999 })
      (fun t => (t.credit.c, t.credit.b, t.inFlight)) = some (-3000000, 160000, []) ∧
    got (.newTableArrival none) (((charging (-3000000) 0 .exhausted).onCalendar
        fun x => { x with table := { weekend with df := 2500000, ec := 1000000 } }).onCredit fun x => { x with b := 160000 })
      (fun t => (t.credit.c, t.credit.b, t.credit.state)) = some (-2500000, 660000, .exhausted) ∧
    got (.topUpRequest 5000) ((charging (-2500000) 0 .exhausted).onCredit fun x => { x with em := true, ea := false, requested := true })
      (fun t => (t.credit.c, t.credit.ea, t.credit.em, t.credit.state, t.credit.requested)) =
        some (2500000, true, false, .normal, false) := by decide +kernel


/-! ### Code Unit: the decoded code, the replay and the lockout examples -/

/-- The digits of the manual's code 000072057615514008845873, and its fields by R69. The example's own working gives a check of 40,305,
which does not follow from those digits (notes/assumptions/37.md). -/
theorem test_code_fields :
    (fun n => (codeClass n, codeSerial n, codeAmount n, codeTag n, codeCheck n))
      (decimalValue [0, 0, 0, 0, 7, 2, 0, 5, 7, 6, 1, 5, 5, 1, 4, 0, 0, 8, 8, 4, 5, 8, 7, 3]) = (0, 1000, 5000, 18988, 32305#16) := by
  decide +kernel

/-- The meter of the code examples: key 0x0123456789ABCDEF, meter number 3,000,060,460, serials 10 to 320, F 5. -/
def keyed : State :=
  ((having (having State.reset .meterKey 0x0123456789ABCDEF) .meterNumber 3000060460).onSettings
    fun x => { x with keySet := true }).onCode fun x => { x with used := (List.range 32).map fun i => 10 * (i + 1), floor := 5 }

/-- Codes with the check worked out from R70 under that key: CREDIT 1,000 of 5,000, CREDIT 10 of 500, LIMIT 15 of 6,000, TAMPER CLEAR
335 of 0, one with a wrong digit, and one with another meter's tag. -/
def credit1000 : List Byte := [0, 0, 0, 0, 7, 2, 0, 5, 7, 6, 1, 5, 5, 1, 4, 0, 0, 8, 8, 6, 4, 7, 0, 7]
def credit10 : List Byte := [0, 0, 0, 0, 0, 0, 7, 2, 0, 5, 7, 8, 0, 8, 9, 1, 0, 7, 3, 4, 4, 0, 7, 5]
def limit15 : List Byte := [0, 7, 5, 5, 5, 8, 9, 4, 4, 6, 1, 5, 5, 9, 5, 9, 4, 0, 5, 1, 4, 6, 9, 4]
def clear335 : List Byte := [1, 5, 1, 1, 3, 9, 8, 6, 6, 7, 4, 5, 8, 3, 2, 5, 9, 7, 1, 2, 2, 8, 9, 8]
def forged : List Byte := [0, 0, 0, 0, 7, 2, 0, 5, 7, 6, 1, 5, 5, 1, 4, 0, 0, 8, 8, 6, 4, 7, 0, 6]
def otherTag : List Byte := [0, 0, 0, 0, 7, 2, 0, 5, 7, 6, 1, 5, 5, 1, 4, 0, 0, 8, 8, 9, 0, 5, 9, 2]

theorem test_codes_judged :
    got (.enterCode ⟨1, 0⟩ credit1000) keyed (fun t => (t.code.evaluation, t.inFlight)) = some (some ⟨⟨1, 0⟩, 0, 1000, 5000⟩, [.topUpRequest 5000]) ∧
    got (.enterCode ⟨1, 0⟩ credit10) (keyed.onCode fun x => { x with floor := 10, used := x.used.tail }) (fun t => t.inFlight) =
      some [.ownerAnswer ⟨1, 0⟩ .ok (.code .used 0 10 500 0 0)] ∧
    got (.enterCode ⟨1, 0⟩ limit15) keyed (fun t => t.inFlight) = some [.limitRequest 6000] ∧
    got (.enterCode ⟨1, 0⟩ clear335) keyed (fun t => t.inFlight) = some [.ownerAnswer ⟨1, 0⟩ .ok (.code .invalidAmount 2 335 0 0 0)] ∧
    got (.enterCode ⟨1, 0⟩ forged) keyed (fun t => (t.code.failures, t.inFlight)) =
      some (1, [.ownerAnswer ⟨1, 0⟩ .ok (.code .badCheck 0 1000 5000 0 0)]) ∧
    got (.enterCode ⟨1, 0⟩ otherTag) keyed (fun t => (t.code.failures, t.inFlight)) =
      some (1, [.ownerAnswer ⟨1, 0⟩ .ok (.code .wrongMeter 0 1000 5000 0 0)]) ∧
    got (.enterCode ⟨1, 0⟩ credit1000) State.reset (fun t => t.inFlight) = some [.ownerAnswer ⟨1, 0⟩ .ok (.code .keyFault 0 1000 5000 0 0)] := by
  decide +kernel

/-- Steps 1 and 4 of the replay example, and steps 6 and 7 of the lockout. -/
theorem test_history_and_lockout :
    (keyed.code.record 325).floor = 10 ∧ (keyed.code.record 325).used.take 2 = [20, 30] ∧
    (keyed.code.record 325).used.getLast? = some 325 ∧ (keyed.code.record 325).used.length = 32 ∧
    (keyed.code.record 7).floor = 7 ∧ (keyed.code.record 7).used = keyed.code.used ∧
    got (.enterCode ⟨0, 0⟩ forged) ((keyed.onCode fun x => { x with failures := 4 }).onCalendar fun x => { x with t := 1728000050 })
      (fun t => (t.code.failures, t.code.lockoutEnd, t.inFlight)) =
        some (0, some 1728000650, [.entryArrival ⟨1728000050, .lockout .badCheck 1728000650⟩,
          .ownerAnswer ⟨0, 0⟩ .ok (.code .badCheck 0 1000 5000 0 600)]) ∧
    got (.enterCode ⟨0, 0⟩ credit1000) ((keyed.onCode fun x => { x with lockoutEnd := some 1728000650 }).onCalendar
        fun x => { x with t := 1728000150 })
      (fun t => (t.code.lockoutEnd, t.inFlight)) =
        some (some 1728000650, [.ownerAnswer ⟨0, 0⟩ .ok (.code .lockedOut 0 0 0 0 500)]) := by
  decide +kernel

/-! ### Switch Unit: the reconnection and the three trips -/

/-- The readings of the example: 12,400 mV drives at 247, 11,000 waits with the FAULT notice, 11,600 drives at 256. -/
theorem test_coil_readings :
    got (.coilReading 12400) (having (moving .opening .opening .coilWait 1) .csMin 11500)
      (fun t => (t.switch.lastDuty, t.coilDriven)) = some (247, some (.opening, 247)) ∧
    got (.coilReading 11000) (having (moving .closing .closing .coilWait 1) .csMin 11500)
      (fun t => (t.switch.coilWait, t.exchange.notices)) = some (true, 0x40#8) ∧
    got (.coilReading 11600) (having (moving .closing .closing .coilWait 1) .csMin 11500)
      (fun t => (t.switch.lastDuty, t.switch.coilWait)) = some (256, false) := by decide +kernel

/-- The reason entering with the relay CLOSED, the end of its opening, and the reason leaving with the flag set. -/
theorem test_opening_for_credit :
    got (.reasonRequest true .credit) (resting .closed ReasonSet.empty) (fun t => (t.switch.relay, t.switch.consent, t.inFlight)) =
      some (.opening, true, [.coilReadingRequest 0]) ∧
    got .settleEnd ((moving .opening .opening (.settle 100) 1).onSwitch fun x => { x with reasons := ReasonSet.empty.set .credit true })
      (fun t => (t.switch.relay, t.switch.operation, t.exchange.notices, t.inFlight.getLast?)) =
        some (.open, none, 0x10#8, some (.relayStateReport .open (ReasonSet.empty.set .credit true))) ∧
    got (.reasonRequest false .credit) (resting .open (ReasonSet.empty.set .credit true)) (fun t => t.switch.relay) =
      some .ready := by decide +kernel

/-- A second mismatch makes STUCK; with the position it should have, the relay leaves it in the same arrival. -/
theorem test_stuck :
    got .settleEnd (moving .closing .closing (.settle 100) 2) (fun t => (t.switch.relay, t.exchange.notices)) =
      some (.stuck, 0x50#8) ∧
    got .stuckRetry ((resting .stuck ReasonSet.empty).onSwitch fun x => { x with stuckWait := 299, consent := false })
      (fun t => (t.switch.relay, t.switch.stuckWait)) = some (.closing, 0) ∧
    got (.loadSenseChange true) (resting .stuck ReasonSet.empty) (fun t => (t.switch.relay, t.switch.consent)) =
      some (.closed, false) := by decide +kernel

/-- The eighth block over 2,000 W for the first and the third time, and the CONSENT that ends the lockout. -/
theorem test_trips :
    got (.switchBlockResult (blockResult 79855)) ((resting .closed ReasonSet.empty).onSwitch
        fun x => { x with pLim := 2000, limitRun := 7, consent := false })
      (fun t => (t.switch.limitRun, t.switch.trips, t.switch.mode, t.switch.backoff, t.switch.relay)) =
        some (0, 1, .backoff, 60, .opening) ∧
    got (.trip (blockResult 79855)) ((resting .closed ReasonSet.empty).onSwitch
        fun x => { x with pLim := 2000, limitRun := 7, trips := 2, consent := false })
      (fun t => (t.switch.trips, t.switch.mode, t.switch.consent)) = some (3, .lockout, true) ∧
    got (.consent ⟨0, 0⟩) ((resting .open (ReasonSet.empty.set .overLimit true)).onSwitch fun x => { x with mode := .lockout, trips := 3 })
      (fun t => (t.switch.trips, t.switch.mode, t.switch.relay)) = some (0, .none, .closing) ∧
    got .backoffExpiry ((resting .open (ReasonSet.empty.set .overLimit true)).onSwitch
        fun x => { x with mode := .backoff, backoff := 1, trips := 1, consent := false })
      (fun t => (t.switch.trips, t.switch.mode, t.switch.relay)) = some (1, .none, .closing) := by decide +kernel

theorem test_disconnect :
    got (.disconnect ⟨0, 0⟩) (resting .ready ReasonSet.empty) (fun t => (t.switch.relay, t.inFlight.getLast?)) =
      some (.open, some (.ownerAnswer ⟨0, 0⟩ .ok (.relay .open (ReasonSet.empty.set .remote true)))) ∧
    got (.disconnect ⟨0, 0⟩) (resting .closed ReasonSet.empty) (fun t => (t.switch.relay, t.inFlight.getLast?)) =
      some (.opening, some (.ownerPark ⟨.switch, ⟨0, 0⟩⟩)) := by decide +kernel

/-! ### Tamper Unit: the magnet, the code and the test -/

theorem test_magnet :
    got .magnetCountReached ((State.reset.onTamper fun x => { x with magnetLine := ⟨.pending, 1⟩ }).onCalendar
        fun x => { x with t := 1728100002 })
      (fun t => (t.tamper.record .magnet, t.exchange.notices, t.inFlight)) =
        some (⟨true, true, 1, 1728100002, 1728100002, none⟩, 0x08#8,
          [.entryArrival ⟨1728100002, .tamper .magnet false false 1 0⟩, .reasonRequest true .tamper]) ∧
    got (.clearRequest 4) (State.reset.onTamper fun x =>
        { (x.setRecord .magnet ⟨true, true, 1, 5, 5, none⟩) with requested := true })
      (fun t => (t.tamper.record .magnet, t.inFlight)) =
        some (⟨true, true, 2, 0, 0, none⟩, [.entryArrival ⟨0, .tamperCleared false 4 4⟩,
          .entryArrival ⟨0, .tamper .magnet false false 2 0⟩]) := by decide +kernel

/-- The test occurrence of a TERMINAL injection at 50 ms, and a real qualification that the injection has absorbed. -/
theorem test_injection :
    got .forcedTimerExpiry ((injected .terminal .pending 0).onTamper fun x => { x with terminalLine := ⟨.pending, 30⟩ })
      (fun t => (t.tamper.injection, (t.tamper.record .terminal).latch, t.inFlight)) =
        some (none, false, [.entryArrival ⟨0, .tamper .terminal true false 50 0⟩,
          .ownerAnswer ⟨2, 0⟩ .ok (.testOk 1 50 0)]) ∧
    got (.qualificationTimerExpiry .terminal) ((injected .terminal .pending 0).onTamper
        fun x => { x with terminalLine := ⟨.pending, 50⟩ })
      (fun t => ((t.tamper.record .terminal).active, t.tamper.terminalLine.stage)) = some (false, .qualified) := by decide +kernel

/-! ### Supply Supervisor -/

/-- R37, R47, R60, R67: in HOLD an order in flight to the Calendar Unit, the Code Unit or the Settings Unit is not begun; R201: the
engine's HOLD entry takes it back. -/
theorem test_orders_in_hold :
    got (.setTime ⟨0, 0⟩ 1000) (held.send (.setTime ⟨0, 0⟩ 1000)) id = some held ∧
    got (.tariffImageArrival ⟨0, 0⟩ weekendImage) (held.send (.tariffImageArrival ⟨0, 0⟩ weekendImage)) id = some held ∧
    got (.enterCode ⟨1, 0⟩ credit1000) (held.send (.enterCode ⟨1, 0⟩ credit1000)) id = some held ∧
    got (.enterService ⟨2, 0⟩) (held.send (.enterService ⟨2, 0⟩)) id = some held ∧
    got .engineHoldEntry ((State.reset.send (.enterCode ⟨1, 0⟩ credit1000)).send .engineHoldEntry) (fun t => t.inFlight) = some [] := by
  decide +kernel

/-- R139: POWER is the first entry of a warm start; R157, R158: RELAY and CODE follow SERVICE. -/
theorem test_entries_follow :
    Event.follows (.credit .low .exhausted .hour 0 0) (.power true 0 9) = true ∧
    Event.follows (.power true 0 9) (.credit .low .exhausted .hour 0 0) = false ∧
    Event.follows (.relay .open ReasonSet.empty true false) (.service true .inService .commissioning) = true ∧
    Event.follows (.code 3 7 0) (.service true .inService .commissioning) = true ∧
    Event.follows (.code 0 7 1) (.service true .inService .commissioning) = false := by decide +kernel

theorem test_hold_and_return :
    got (.holdEntry 2699) ((State.reset.onCalendar fun x => { x with t := 500 }).onSupply fun x => { x with sagCount := 7 })
      (fun t => (t.supply.power, t.supply.holdStart, t.supply.doubt, t.supply.sagCount)) = some (.hold, 500, true, 0) ∧
    got (.warmStart 3100) ((held.onCalendar fun x => { x with t := 900 }).onSupply fun x => { x with holdStart := 500, doubt := true })
      (fun t => (t.supply.power, t.supply.doubt, t.inFlight.take 2)) =
        some (.run, false, [.entryArrival ⟨900, .power true 500 400⟩, .warmStartSweep]) := by decide +kernel

theorem test_over_voltage_and_sag :
    got (.overVoltageSet { blockResult 0 with voltage := 2646 }) (State.reset.onSupply fun x => { x with overVoltageCount := 39 })
      (fun t => (t.supply.overVoltage, t.inFlight)) = some (true, [.reasonRequest true .overVoltage,
        .entryArrival ⟨0, .overVoltage true 2646 2645⟩]) ∧
    got (.supervisorBlockResult { blockResult 0 with voltage := 2645 }) (State.reset.onSupply fun x => { x with overVoltageCount := 39 })
      (fun t => t.supply.overVoltageCount) = some 0 ∧
    got (.sagCountReached { blockResult 0 with voltage := 1954 }) (State.reset.onSupply fun x => { x with sagCount := 7 })
      (fun t => (t.supply.sag, t.supply.sagCount)) = some (true, 0) := by decide +kernel

/-! ### Settings Unit: the bench part -/

theorem test_bench_part :
    got (.enterService ⟨0, 0⟩) State.reset (fun t => t.inFlight) = some [.ownerAnswer ⟨0, 0⟩ .wrongState (.item 2)] ∧
    got (.writeSetting ⟨0, 0⟩ 40 5) State.reset (fun t => t.inFlight) = some [.ownerAnswer ⟨0, 0⟩ .badArgument .none] ∧
    got (.writeSetting ⟨0, 0⟩ 3 5359) State.reset (fun t => (t.setting .kL, t.inFlight)) = some (5359, [.calibrationWriteNews .line]) ∧
    got (.writeSetting ⟨0, 0⟩ 22 100) (charging 0 0 .exhausted) (fun t => t.inFlight) = some [.ownerAnswer ⟨0, 0⟩ .refusedLocked .none] ∧
    SettingRow.clamp SettingId.uHyst.row 1200 = 999 ∧ SettingId.ofId 22 = some .uHyst := by decide +kernel

/-! ### Exchange Unit -/

/-- A READ of the header, a READ that takes both semaphores, and the line-ascending walk at the end of its line. -/
theorem test_reads :
    got (.readAscend ⟨.at 0xF000, 4, true⟩) State.reset (fun t => (t.exchange.miso, t.exchange.frame)) =
      some ([0, 0, 0, 0, 0x02, 0x01, 48, 16], none) ∧
    got (.readAscend ⟨.at 0x0FC8, 2, true⟩) State.reset (fun t => (t.exchange.miso, t.exchange.mirrorHolder, t.exchange.stageHolder)) =
      some ([0, 0, 0, 0, 0, 0], .link, .link) ∧
    Walk.next .lineAscend 0x03F = 0x000 ∧ Walk.next .ascend 0xFFF = 0x000 ∧ Walk.next .descend 0x000 = 0xFFF := by decide +kernel

/-- A host byte is written, a part byte is discarded with LINK, the unassigned one without; the hold walk applies its last byte. -/
theorem test_writes :
    got (.writeAscend ⟨.at 0x0040, [4, 9, 0xAB], true⟩) State.reset (fun t => (t.exchange.mem, t.exchange.notices)) =
      some ([(0x40, 4), (0x42, 0xAB)], 0x80#8) ∧
    got (.writeHold ⟨.at 0x0300, [1, 2], true⟩) State.reset (fun t => t.exchange.mem) = some [(0x300, 2)] ∧
    got (.writeAscend ⟨.at 0x0700, [1], true⟩) State.reset (fun t => (t.exchange.mem, t.exchange.notices)) = some ([], 0) ∧
    got (.writeAscend ⟨.at 0x0FC0, [0x05], true⟩) State.reset (fun t => t.inFlight) = some [.post 0, .post 2] := by decide +kernel

/-! ### Order Engine -/

theorem test_slots :
    got (.post 3) State.reset (fun t => (t.engine.slots[3], t.engine.work)) = some (.taken, [.state 3, .copy 3]) ∧
    got (.post 0) (slotIn 0 .done) (fun t => (t.engine.slots[0], t.exchange.notices)) = some (.done, 0x80#8) ∧
    got (.release 0) (slotIn 0 .taken) (fun t => (t.engine.slots[0], t.exchange.notices)) = some (.taken, 0x80#8) ∧
    got (.withdraw 0) (slotIn 0 .posted) (fun t => t.engine.slots[0]) = some .free := by decide +kernel

/-- The tenth word of a copy dispatches the order: kind 0 is unknown, kind 0x0B goes to the Tamper Unit. -/
theorem test_dispatch :
    got .slotCopyDone (working (.copy 0) 9 .copying (List.replicate 36 0)) (fun t => t.engine.work) =
      some [.answer 0 .unknownKind .none] ∧
    got .slotCopyDone (working (.copy 0) 9 .copying ([0x0B, 2, 0, 0, 6] ++ List.replicate 31 0)) (fun t => t.inFlight) =
      some [.selfTest ⟨0, 0⟩ 6] ∧
    answerBytes .badArgument (.tariffRefused 3 2) = [0, 3, 3, 2] ++ List.replicate 20 0 := by decide +kernel

/-! ### Report Unit: falling behind -/

/-- The example's W 10, P 12, next sequence 500; the read index byte is 12 and then 60. -/
def behind (r : Byte) (p w : Nat) (seq : BitVec 16) (overflow : Bool) (e : Event) : State :=
  (State.reset.onExchange fun x => { x with mem := [(8, r)] }).onReport fun x =>
    { x with p := p, w := w, seq := seq, overflow := overflow
             writer := some { entries := [⟨7, e⟩], stage := .reading, savedOverflow := overflow, savedLoss := none } }

theorem test_falling_behind :
    got .entryHandling (behind 12 12 10 500 false (.relay .open ReasonSet.empty true false))
      (fun t => (t.report.overflow, t.report.writer.map Writer.stage)) =
        some (true, some (.writing ([0x01, 0xF4, 18, 0, 0, 0, 0, 0, 0, 0, 0, 7, 0, 0, 0, 0]) 0)) ∧
    got .entryHandling (behind 12 12 11 501 true (.sag 0 1)) (fun t => (t.report.writer, t.report.seq)) = some (none, 501) ∧
    got .entryHandling (behind 60 32 12 502 false (.sag 1 2))
      (fun t => (t.report.p, t.exchange.notices, t.report.writer.map Writer.stage)) =
        some (12, 0x80#8, some (.writing [0x01, 0xF6, 11, 0, 0, 0, 0, 7, 0, 0, 0, 1, 0, 0, 0, 2] 0)) := by decide +kernel

theorem test_entry_written :
    got .entryWritten ((writing (.writing [1] 4)).onReport fun x => { x with w := 47, seq := 0xFFFF })
      (fun t => (t.report.w, t.report.seq, t.exchange.mem, t.exchange.notices)) = some (0, 0, [], 0x02#8) ∧
    got .publicationDue (State.reset.onReport fun x => { x with blockCount := 7 })
      (fun t => (t.report.blockCount, t.report.pubCount, t.exchange.mirrorHolder)) = some (0, 1, .internal) := by decide +kernel

/-! ### Witnesses of the hypotheses: the step and its invariants -/

/-- A state at the upper limit of every range. -/
def atLimits : State :=
  { State.reset with
    calendar := { State.reset.calendar with t := 4294967295 }
    energy := { State.reset.energy with rL := 4294967295, rN := 4294967295, imbalance := ⟨255, true, 255⟩ }
    credit := { State.reset.credit with q := 999999999, c := 10000000000 }
    code := { State.reset.code with failures := 4 }
    switch := { State.reset.switch with
      stuckWait := 299, limitRun := 240, closedTime := 600, trips := 3, backoff := 600, lastDuty := 256 }
    tamper := State.reset.tamper.setRecord .case ⟨true, true, 255, 0, 0, some ⟨0, 255⟩⟩
    supply := { State.reset.supply with overVoltageCount := 240, sagCount := 8, backupCount := 3599, holdTimer := 60 }
    settings := { State.reset.settings with sweepCount := 59 }
    report := { State.reset.report with w := 47, p := 47, blockCount := 7, queue := List.replicate 32 ⟨0, .sag 0 1⟩ } }

theorem witness_IdleStepRunsTheTimers :
    State.reset.pending = [] ∧ State.reset.switch.operation = none ∧ State.reset.tamper.hold = false ∧
    State.reset.tamper.injection = none ∧
    (moving .opening .opening (.drive 60 60) 1).switch.operation = some ⟨.opening, .drive 60 60, 1, none, false, .ordinary⟩ ∧
    (moving .closing .closing (.settle 99) 2).switch.operation = some ⟨.closing, .settle 99, 2, none, false, .ordinary⟩ ∧
    (moving .opening .opening .coilWait 1).switch.operation = some ⟨.opening, .coilWait, 1, none, false, .ordinary⟩ ∧
    (injected .case .pending 49).tamper.injection = some ⟨.case, 1050, 0, .pending, 49, ⟨2, 0⟩⟩ ∧
    (injected .case .pending 49).tamper.hold = false ∧ held.pending = [] ∧ held.tamper.hold = true := by decide +kernel

theorem witness_StepKeepsMemoryFormAndStoresReadBack :
    Memory.wf [(8, 12), (0x23F, 1)] = true ∧ (∃ t, step (behind 12 12 10 500 false (.sag 0 1)) = .next t) ∧
    Memory.wf (behind 12 12 10 500 false (.sag 0 1)).exchange.mem = true ∧ ([1, 2] : List Byte)[1]? = some 2 ∧
    (0x06F < 0x070 ∧ 0x070 + [1, 2].length ≤ 0x072) := ⟨by decide, ⟨_, rfl⟩, by decide⟩

theorem witness_StepKeepsTheRecords :
    (∃ t, step (moving .opening .opening .coilWait 1) = .next t) ∧ OperationMatchesRelay (moving .opening .opening .coilWait 1) ∧
    OperationMatchesRelay State.reset ∧ HistoryOrdered keyed.code ∧
    FrameServed (framed true .ascend 0x041 (.gathered 0x10 [(0x40, 4), (0x41, 0)])).exchange :=
  ⟨⟨_, rfl⟩, rfl, ⟨by decide, by decide⟩, ⟨by decide +kernel, by decide +kernel, by decide +kernel, fun _ h => nomatch h⟩,
    ⟨by decide +kernel, rfl, by decide +kernel, fun f w cells hf hw => by
      cases hf; cases hw; exact ⟨by decide +kernel, by decide +kernel⟩⟩⟩

theorem witness_StepKeepsTheRanges : Ranges atLimits ∧ ∃ t, step atLimits = .next t :=
  ⟨{ time := by decide, allowance := by decide, lineRemainder := by decide, neutralRemainder := by decide
     chargeRemainder := by decide, balance := by decide, debtFloor := .inr (by decide), failures := by decide
     stuckWait := by decide, limitRun := by decide, closedTime := by decide, trips := by decide, backoff := by decide
     lastDuty := by decide, qualifiers := by decide, holdTimer := by decide
     occurrences := fun i => by cases i <;> exact ⟨by decide, fun m h => by cases h <;> decide⟩
     overVoltageCount := by decide, sagCount := by decide, backupCount := by decide
     sweepCount := by decide, settings := fun i => by cases i <;> decide +kernel, queue := by decide +kernel
     writeIndex := by decide, readIndex := by decide, blockCount := by decide }, ⟨_, rfl⟩⟩

theorem witness_ServiceLocksTheSettings :
    (charging 0 0 .low).settings.service = .inService ∧ (∃ t, exec (.writeSetting ⟨0, 0⟩ 22 100) (charging 0 0 .low) = .next t) ∧
    Instr.writeSetting ⟨0, 0⟩ 22 100 ≠ .retentionLoss ∧ ∀ mv, Instr.writeSetting ⟨0, 0⟩ 22 100 ≠ .coldStart mv :=
  ⟨rfl, ⟨_, rfl⟩, by decide, fun _ h => nomatch h⟩

theorem witness_FrameBytesDecodeToTheirCommand :
    Instr.wellFormed (.readAscend ⟨.at 0xFFFF, 1, true⟩) = true ∧
    encodeFrame (.readAscend ⟨.at 0xFFFF, 1, true⟩) = some [0xB0, 0xFF, 0xFF, 0, 0] ∧
    Instr.wellFormed (.writeLineAscend ⟨.short 1, [], true⟩) = true ∧
    encodeFrame (.writeLineAscend ⟨.short 1, [], true⟩) = some [0x73, 0] ∧
    Instr.wellFormed (.invalidCommand 0xB4 2) = true ∧ encodeFrame (.invalidCommand 0xB4 2) = some [0xB4, 0, 0] := by decide +kernel

/-! ### Witnesses: Energy Unit -/

theorem witness_SettlingBlockDiscarded : State.reset.supply.power = .run ∧ State.reset.energy.settling = true := by decide

theorem witness_BlockPowerAndVoltage :
    (having (metering 0 0) .kV 65535).supply.power = .run ∧ (having (metering 0 0) .kV 65535).energy.settling = false ∧
    (having (metering 0 0) .kV 65535).setting .kV ≤ 65535 ∧ 500 * 2 ^ 30 ≤ 500 * 2 ^ 30 ∧
    (having (metering 0 0) .kV 0).setting .kV = 0 := by decide +kernel

/-- The creep level of 2 µWh lies between the sums 1,602,898 and 1,602,899; either channel may carry the greater magnitude. -/
theorem witness_BlockEnergiesAndRegisters :
    (metering 0 0).supply.power = .run ∧ (metering 0 0).energy.settling = false ∧ (metering 0 0).setting .kL = 5359 ∧
    (metering 0 0).setting .kN = 5359 ∧ (metering 0 0).setting .creep * 2 ^ 32 = 8589934592 ∧
    ((1602898 : Int) * 5359).natAbs < 8589934592 ∧ 8589934592 ≤ ((-1602899 : Int) * 5359).natAbs ∧
    ((1602899 : Int) * 5359).natAbs ≤ ((-1602899 : Int) * 5359).natAbs ∧
    ((1602898 : Int) * 5359).natAbs < ((1602899 : Int) * 5359).natAbs := by decide +kernel

/-- A magnitude of 2,000 µWh against one that is an eighth less, and one that is a unit less than that; BYPASS_FLOOR at 500. -/
theorem witness_BlockQualificationCounters :
    (resting .open ReasonSet.empty |>.onEnergy fun x => { x with settling := false }).energy.settling = false ∧
    (having (having (metering 0 0) .kL 1) .kN 1).supply.power = .run ∧
    (having (having (metering 0 0) .kL 1) .kN 1).energy.settling = false ∧
    (having (having (metering 0 0) .kL 1) .kN 1).setting .imbT = 8 ∧
    64 * (8589934592000 - 7516192767999) > 8 * max 8589934592000 7516192767999 ∧
    ¬64 * (8589934592000 - 7516192768000) > 8 * max 8589934592000 7516192768000 ∧
    (having (metering 0 0) .kL 1).setting .imbFloor ≤ 8589934592000 / 2 ^ 32 ∧
    got (.blockCompletion (-8589934592000) 0 0) (having (metering 0 0) .kL 1) (fun t => (t.energy.reverseFlow.count, t.energy.bypass.count)) =
      some (1, 0) ∧
    got (.blockCompletion 2147483648000 0 0) ((having (metering 0 0) .kL 1).onSwitch fun x => { x with relay := .ready })
      (fun t => (t.energy.reverseFlow.count, t.energy.bypass.count)) = some (0, 1) := by decide +kernel

theorem witness_EnergyStartsAndCalibration : State.reset.settings.waiting = none := by decide

/-! ### Witnesses: Calendar Unit -/

theorem witness_MeterTimeAdvancesAndReevaluates :
    State.reset.supply.retention = true ∧ State.reset.supply.power = .run ∧ held.supply.retention = true ∧
    held.supply.power = .hold ∧ (held.onSupply fun x => { x with retention := false }).supply.retention = false := by decide

/-- Second 75,600 of day 20,000, on the last workday point, and second 25,199, one before the first. -/
theorem witness_BandAndFriendlyFlagOfTheTable :
    (1728075600 / 86400 + weekend.w0) % 7 = 4 ∧ 1728075600 % 86400 = 75600 ∧ weekend.restMask.getLsbD 4 = false ∧
    weekend.workday = [⟨25200, 1⟩, ⟨61200, 2⟩] ++ ⟨75600, 0⟩ :: [] ∧
    weekend.workday = [⟨25200, 1⟩] ++ ⟨61200, 2⟩ :: [⟨75600, 0⟩] ∧ 1728025199 % 86400 = 25199 ∧
    (∀ q ∈ weekend.workday, 25199 < q.second) ∧ (∀ q ∈ ([⟨75600, 0⟩] : List SwitchPoint), 75599 < q.second) ∧
    (4 + 6) % 7 = 3 ∧ weekend.workday = [⟨25200, 1⟩, ⟨61200, 2⟩] ++ [⟨75600, 0⟩] := by decide +kernel

theorem witness_TimeSetInCommissioningAndInService :
    held.supply.power = .hold ∧ Instr.engineHoldEntry ∈ (State.reset.send .engineHoldEntry).inFlight ∧
    State.reset.supply.power = .run ∧ Instr.engineHoldEntry ∉ State.reset.inFlight ∧ (charging 0 0 .low).supply.power = .run ∧
    Instr.engineHoldEntry ∉ (charging 0 0 .low).inFlight ∧
    State.reset.settings.service = .commissioning ∧ ((0 : BitVec 32).toNat : Int) - State.reset.calendar.t = 0 ∧
    ((4294967295 : BitVec 32).toNat : Int) - State.reset.calendar.t ≠ 0 ∧ (charging 0 0 .low).settings.service = .inService ∧
    (charging 0 0 .low).calendar.t ≤ 4294967295 ∧ (charging 0 0 .low).calendar.allowanceDay < 1728000000 / 86400 ∧
    ¬((charging 0 0 .low).onCalendar fun x => { x with allowanceDay := 20000 }).calendar.allowanceDay < 1728000000 / 86400 ∧
    max (-300) (min 300 (1000 : Int)) = 300 ∧ max (-(0 : Int)) (min 0 (300 : Int)) = 0 ∧ max (-(900 : Int)) (min 900 (300 : Int)) = 300 ∧
    max (-(1728000000 : Int)) (min (4294967295 - 1728000000) (300 : Int)) = 300 := by decide +kernel

/-- A failing element of an image whose counts are at most 8 is one of eight, of one of ten items. -/
theorem fails_bounded {image : List Byte} {j k : Nat}
    (counts : numberAt image 16 1 ≤ 8 ∧ numberAt image 52 1 ≤ 8 ∧ numberAt image 88 1 ≤ 8) (h : ItemFails image j k) :
    j < 11 ∧ k < 8 := by
  unfold ItemFails at h
  split at h <;> first | exact ⟨by omega, by omega⟩ | exact h.elim

/-- Whether an element of an image fails an item, decided. -/
def failsDecided (image : List Byte) (j k : Nat) : Decidable (ItemFails image j k) := by
  delta ItemFails PointFails WindowFails
  split <;> infer_instance

def failsFound (image : List Byte) (j k : Nat) : Bool := @decide _ (failsDecided image j k)

/-- No element at which a decision over ten items of eight elements finds no failure fails its item. -/
theorem passes_of_decided (image : List Byte) (P : Nat → Nat → Bool)
    (counts : numberAt image 16 1 ≤ 8 ∧ numberAt image 52 1 ≤ 8 ∧ numberAt image 88 1 ≤ 8)
    (h : ∀ (j : Fin 11) (k : Fin 8), P j k = true → failsFound image j k = false) (j k : Nat) (hp : P j k = true) :
    ¬ItemFails image j k := fun hf =>
  have hb := fails_bounded counts hf
  @of_decide_eq_false _ (failsDecided image j k) (h ⟨j, hb.1⟩ ⟨k, hb.2⟩ hp) hf

/-- Item 8 of the weekend's image with a weekday of 7 fails, and nothing before it. -/
theorem weekday_fails_first :
    ItemFails (weekendImage.set 0x7C 7) 8 0 ∧
    ∀ j k, j < 8 ∨ (j = 8 ∧ k < 0) → ¬ItemFails (weekendImage.set 0x7C 7) j k :=
  ⟨@of_decide_eq_true _ (failsDecided _ 8 0) (by decide +kernel), fun j k hj =>
    passes_of_decided _ (fun j _ => decide (j < 8)) (by decide +kernel) (by decide +kernel) j k (by simpa using hj)⟩

/-- A third workday point with a band of 4 fails item 3 at index 2, after two points that do not. -/
theorem point_fails_first :
    ItemFails (weekendImage.set 31 4) 3 2 ∧
    ∀ j k, j < 3 ∨ (j = 3 ∧ k < 2) → ¬ItemFails (weekendImage.set 31 4) j k :=
  ⟨@of_decide_eq_true _ (failsDecided _ 3 2) (by decide +kernel), fun j k hj =>
    passes_of_decided _ (fun j k => decide (j < 3 ∨ (j = 3 ∧ k < 2))) (by decide +kernel) (by decide +kernel) j k
      (by simpa using hj)⟩

theorem weekend_fails_nowhere (j k : Nat) : ¬ItemFails weekendImage j k :=
  passes_of_decided _ (fun _ _ => true) (by decide +kernel) (by decide +kernel) j k rfl

theorem witness_TariffImageRefusedOrAdopted :
    (weekendImage.set 0x7C 7).length = 256 ∧ (weekendImage.set 31 4).length = 256 ∧ weekendImage.length = 256 ∧
    held.supply.power = .hold ∧ Instr.engineHoldEntry ∈ (State.reset.send .engineHoldEntry).inFlight ∧
    State.reset.supply.power = .run ∧ Instr.engineHoldEntry ∉ State.reset.inFlight ∧
    (ItemFails (weekendImage.set 0x7C 7) 8 0 ∧
      ∀ j k, j < 8 ∨ (j = 8 ∧ k < 0) → ¬ItemFails (weekendImage.set 0x7C 7) j k) ∧
    (ItemFails (weekendImage.set 31 4) 3 2 ∧
      ∀ j k, j < 3 ∨ (j = 3 ∧ k < 2) → ¬ItemFails (weekendImage.set 31 4) j k) ∧
    ∀ j k, ¬ItemFails weekendImage j k :=
  ⟨by decide +kernel, by decide +kernel, by decide +kernel, rfl, by decide, rfl, by decide, weekday_fails_first, point_fails_first,
    weekend_fails_nowhere⟩

/-! ### Witnesses: Credit Unit and Code Unit -/

/-- A charge of 0 and of 1, with C at the floor plus 1 and at the floor. -/
theorem witness_BlockResultCharged :
    (3999 * (charging 0 249999 .low).calendar.table.rates[(charging 0 249999 .low).calendar.band] + 249999) / 1000000000 = 0 ∧
    (3999 * (charging 0 250000 .low).calendar.table.rates[(charging 0 250000 .low).calendar.band] + 250000) / 1000000000 = 1 ∧
    -((charging (-2999999) 0 .low).calendar.table.df : Int) ≤ (charging (-2999999) 0 .low).credit.c - 1 ∧
    (charging (-3000000) 0 .low).credit.c - 1 < -((charging (-3000000) 0 .low).calendar.table.df : Int) := by decide +kernel

theorem witness_HourRuleCharges :
    (charging 0 0 .low).calendar.t / 3600 = 480000 ∧ (charging 0 0 .low).credit.hLast = 480000 ∧
    ((charging 0 0 .low).onCredit fun x => { x with hLast := 479999 }).credit.hLast < 480000 ∧
    ((480000 : Int) - 479999) * (charging 0 0 .low).calendar.table.sc = 10000 ∧
    -((charging (-2990000) 0 .low).calendar.table.df : Int) ≤ (charging (-2990000) 0 .low).credit.c - 10000 ∧
    (charging (-2990001) 0 .low).credit.c - 10000 < -((charging 0 0 .low).calendar.table.df : Int) := by decide +kernel

theorem witness_EmergencyDrawn :
    (((charging (-1999999) 0 .exhausted).credit.state = .low ∨ (charging (-1999999) 0 .exhausted).credit.state = .exhausted) ∧
      (charging (-1999999) 0 .exhausted).credit.ea = true ∧
      -((charging (-1999999) 0 .exhausted).calendar.table.ec : Int) < (charging (-1999999) 0 .exhausted).credit.c) ∧
    ¬-((charging (-2000000) 0 .exhausted).calendar.table.ec : Int) < (charging (-2000000) 0 .exhausted).credit.c := by decide +kernel

/-- A part with an evaluation that waits. -/
def evaluating (c : Int) : State :=
  (charging c 0 .low).onCode fun x => { x with evaluation := some ⟨⟨1, 0⟩, 0, 1000, 10000000⟩ }

theorem witness_TopUpTaken :
    HistoryOrdered (evaluating 0).code ∧ HistoryOrdered { keyed.code with evaluation := some ⟨⟨1, 0⟩, 0, 325, 1⟩ } ∧
    (evaluating 0).code.evaluation = some ⟨⟨1, 0⟩, 0, 1000, 10000000⟩ ∧ (evaluating 0).credit.c + 10000000 * 1000 = 10000000000 ∧
    10000000000 < (evaluating 1).credit.c + 10000000 * 1000 :=
  ⟨⟨by decide, by decide, by decide, fun ev h => by cases h; decide⟩,
    ⟨by decide +kernel, by decide +kernel, by decide +kernel, fun ev h => by cases h; decide +kernel⟩,
    by decide +kernel, by decide +kernel, by decide +kernel⟩

theorem witness_CreditViewsTablesAndWarmStart :
    (charging 0 0 .low).settings.waiting = none ∧ (charging 0 0 .low).calendar.t / 3600 ≤ (charging 0 0 .low).credit.hLast ∧
    ((charging 0 0 .low).onCredit fun x => { x with hLast := 479999 }).credit.hLast < (charging 0 0 .low).calendar.t / 3600 := by
  decide +kernel

/-- A lockout that runs for one more second, one that has ended, a byte of 10. -/
theorem witness_CodeLockedOutMalformedOrHistoryKept :
    (evaluating 0).code.evaluation ≠ none ∧ keyed.code.evaluation = none ∧ held.code.evaluation = none ∧ held.supply.power = .hold ∧
    keyed.supply.power = .run ∧ Instr.engineHoldEntry ∉ keyed.inFlight ∧
    Instr.engineHoldEntry ∈ (keyed.send .engineHoldEntry).inFlight ∧
    (keyed.onCode fun x => { x with lockoutEnd := some 1 }).code.lockoutEnd = some 1 ∧ keyed.calendar.t < 1 ∧
    keyed.calendar.t = 0 ∧ (∃ d ∈ ([9, 10] : List Byte), 9 < d.toNat) ∧ keyed.settings.waiting = none := by decide +kernel

/-- The steps 3 to 8 of R71 as the statement CodeEvaluated writes them. -/
def outcome (s : State) (n cls serial amount : Nat) : Option CodeOutcome :=
  if s.settings.fault = true ∨ s.settings.keySet = false then some .keyFault
  else if crc16 (beBytes 8 (n / 2 ^ 16) ++ beBytes 8 (s.setting .meterKey)) ≠ BitVec.ofNat 16 n then some .badCheck
  else if n / 2 ^ 16 % 2 ^ 16 ≠ s.setting .meterNumber % 65536 then some .wrongMeter
  else if 3 < cls then some .unknownClass
  else if serial ≤ s.code.floor ∨ serial ∈ s.code.used then some .used
  else if cls = 0 ∧ amount = 0 then some .invalidAmount
  else if cls = 1 ∧ 65535 < amount then some .invalidAmount
  else if cls = 2 ∧ (amount = 0 ∨ 63 < amount) then some .invalidAmount
  else if cls = 3 ∧ amount ≠ 0 then some .invalidAmount
  else if cls = 3 ∧ s.settings.service = .commissioning then some .wrongState
  else none

theorem witness_CodeEvaluated :
    keyed.code.evaluation = none ∧ keyed.supply.power = .run ∧ Instr.engineHoldEntry ∉ keyed.inFlight ∧
    keyed.code.lockoutEnd = none ∧ (∀ d ∈ credit1000, d.toNat ≤ 9) ∧
    outcome keyed (decimalValue credit1000) 0 1000 5000 = none ∧ outcome keyed (decimalValue forged) 0 1000 5000 = some .badCheck ∧
    outcome keyed (decimalValue otherTag) 0 1000 5000 = some .wrongMeter ∧
    outcome keyed (decimalValue clear335) 2 335 0 = some .invalidAmount ∧
    (keyed.onCode fun x => { x with failures := 3 }).code.failures < 4 ∧
    4 ≤ (keyed.onCode fun x => { x with failures := 4 }).code.failures := by decide +kernel

/-! ### Witnesses: Switch Unit -/

/-- Reason sets. -/
def creditOnly : ReasonSet := ReasonSet.empty.set .credit true
def limitOnly : ReasonSet := ReasonSet.empty.set .overLimit true
def remoteOnly : ReasonSet := ReasonSet.empty.set .remote true

/-- A Switch Unit in HOLD. -/
def holding (st : RelayState) (r : ReasonSet) : State := (resting st r).onSwitch fun x => { x with hold := true }

theorem witness_ReasonsAddedAndRemoved :
    (resting .open creditOnly).switch.reasons.has .credit = true ∧ (resting .open creditOnly).switch.reasons.has .tamper = false ∧
    (resting .open creditOnly).switch.hold = false ∧ (resting .open creditOnly).switch.reasons ≠ ReasonSet.empty ∧
    (holding .closed ReasonSet.empty).switch.hold = true ∧ (holding .closed ReasonSet.empty).switch.reasons.has .credit = false ∧
    (holding .open creditOnly).switch.reasons.has .credit = true ∧
    (resting .stuck creditOnly).switch.relay = .stuck ∧ (resting .closed ReasonSet.empty).switch.reasons = ReasonSet.empty ∧
    (moving .closing .closing (.drive 0 60) 1).switch.relay = .closing ∧
    (moving .closing .closing (.drive 0 60) 1).switch.operation = some ⟨.closing, .drive 0 60, 1, none, false, .ordinary⟩ ∧
    (moving .closing .closing .coilWait 1).switch.operation = some ⟨.closing, .coilWait, 1, none, false, .ordinary⟩ ∧
    (moving .closing .closing (.settle 0) 1).switch.operation = some ⟨.closing, .settle 0, 1, none, false, .ordinary⟩ ∧
    creditOnly.set .credit false = ReasonSet.empty ∧ (creditOnly.set .tamper true).set .tamper false ≠ ReasonSet.empty ∧
    (resting .open creditOnly).switch.consent = true ∧
    ((resting .open creditOnly).onSwitch fun x => { x with consent := false }).switch.consent = false := by decide +kernel

theorem witness_SwitchOrders :
    (resting .ready ReasonSet.empty).switch.relay = .ready ∧
    ((resting .open limitOnly).onSwitch fun x => { x with mode := .lockout }).switch.mode = .lockout ∧
    (resting .open limitOnly).switch.reasons = ReasonSet.empty.set .overLimit true ∧
    (resting .closed ReasonSet.empty).switch.relay ≠ .ready ∧ (resting .closed ReasonSet.empty).switch.relay ≠ .open ∧
    (resting .ready ReasonSet.empty).switch.relay ≠ .stuck ∧ (resting .stuck remoteOnly).switch.relay = .stuck ∧
    (resting .stuck remoteOnly).switch.hold = false ∧ (resting .stuck remoteOnly).switch.reasons.has .remote = true ∧
    (resting .stuck ReasonSet.empty).switch.reasons.has .remote = false ∧ (holding .stuck remoteOnly).switch.hold = true := by
  decide +kernel

/-- CS_MIN at 10,800, the reading at it and one below; the attempts 1 and 2; both positions; HOLD and STUCK. -/
theorem witness_OperationPhasesAndLoadSense :
    (moving .opening .opening .coilWait 1).switch.operation = some ⟨.opening, .coilWait, 1, none, false, .ordinary⟩ ∧
    (moving .opening .opening .coilWait 1).setting .csMin ≤ 10800 ∧ 10799 < (moving .opening .opening .coilWait 1).setting .csMin ∧
    ((moving .opening .opening .coilWait 1).onSwitch fun x => { x with coilWait := true }).switch.coilWait = true ∧
    (moving .opening .opening .coilWait 1).switch.coilWait = false ∧
    (moving .closing .closing (.drive 60 60) 1).switch.operation = some ⟨.closing, .drive 60 60, 1, none, false, .ordinary⟩ ∧
    ((moving .closing .closing (.drive 60 60) 1).onSwitch fun x =>
      { x with operation := some ⟨.closing, .drive 60 60, 1, none, true, .ordinary⟩ }).switch.operation = some ⟨.closing, .drive 60 60, 1, none, true, .ordinary⟩ ∧
    (moving .closing .closing (.settle 100) 1).switch.operation = some ⟨.closing, .settle 100, 1, none, false, .ordinary⟩ ∧
    (moving .opening .opening (.settle 100) 2).switch.operation = some ⟨.opening, .settle 100, 2, none, false, .ordinary⟩ ∧
    ((moving .closing .closing (.settle 100) 1).onPins fun p => { p with loadSense := true }).pins.loadSense = true ∧
    (moving .opening .opening (.settle 100) 2).pins.loadSense = false ∧
    (moving .closing .closing (.settle 100) 1).pins.loadSense = decide (OpDirection.closing = .opening) ∧
    (holding .closed ReasonSet.empty).switch.hold = true ∧ (resting .stuck creditOnly).switch.relay = .stuck ∧
    (resting .closed ReasonSet.empty).switch.relay ≠ .stuck ∧ (resting .closed ReasonSet.empty).switch.operation = none := by
  decide +kernel

/-- The limit of 2,300 W with a block of 79,862 µWh, which reads 2,300.03 W, and with one of 79,861; a run of 7 of 8 and of 6. -/
def limited (run : Nat) : State := (resting .closed ReasonSet.empty).onSwitch fun x => { x with pLim := 2300, limitRun := run }

theorem witness_PowerLimit :
    (limited 7).switch.pLim * 1250 < 79862 * 36 ∧ ¬(limited 7).switch.pLim * 1250 < 79861 * 36 ∧ (limited 7).switch.pLim ≠ 0 ∧
    (limited 7).switch.hold = false ∧ (limited 7).switch.relay = .closed ∧
    (limited 7).setting .limitHold ≤ min 240 ((limited 7).switch.limitRun + 1) ∧
    min 240 ((limited 6).switch.limitRun + 1) < (limited 6).setting .limitHold ∧ (holding .closed ReasonSet.empty).switch.hold = true ∧
    (resting .open limitOnly).switch.relay ≠ .closed ∧ (resting .open limitOnly).switch.hold = false ∧
    3 = min 3 (((limited 7).onSwitch fun x => { x with trips := 2 }).switch.trips + 1) ∧ 1 = min 3 ((limited 7).switch.trips + 1) := by
  decide +kernel

/-- The 600th second in CLOSED and the 599th, the 300th in STUCK and the 299th, a back-off of 1 and of 2. -/
theorem witness_SwitchSeconds :
    (((limited 0).onSwitch fun x => { x with closedTime := 599 }).switch.relay = .closed ∧
      ((limited 0).onSwitch fun x => { x with closedTime := 599 }).switch.closedTime + 1 = 600) ∧
    ¬((limited 0).onSwitch fun x => { x with closedTime := 598 }).switch.closedTime + 1 = 600 ∧ (limited 0).switch.mode ≠ .backoff ∧
    (limited 0).switch.hold = false ∧ (resting .stuck creditOnly).switch.relay = .stuck ∧
    300 ≤ ((resting .stuck creditOnly).onSwitch fun x => { x with stuckWait := 299 }).switch.stuckWait + 1 ∧
    ¬300 ≤ ((resting .stuck creditOnly).onSwitch fun x => { x with stuckWait := 298 }).switch.stuckWait + 1 ∧
    (((resting .open limitOnly).onSwitch fun x => { x with mode := .backoff, backoff := 1 }).switch.mode = .backoff ∧
      ((resting .open limitOnly).onSwitch fun x => { x with mode := .backoff, backoff := 1 }).switch.backoff ≤ 1) ∧
    1 < ((resting .open limitOnly).onSwitch fun x => { x with mode := .backoff, backoff := 2 }).switch.backoff ∧
    (holding .closed ReasonSet.empty).switch.hold = true := by decide +kernel

theorem witness_SwitchHoldAndWarmStart :
    [Instr.switchSecond, .switchHoldEntry, .switchSecond] = [.switchSecond] ++ .switchHoldEntry :: [.switchSecond] ∧
    Instr.switchHoldEntry ∉ [Instr.switchSecond] ∧ State.reset.pins.loadSense = false ∧
    (State.reset.onPins fun p => { p with loadSense := true }).pins.loadSense = true ∧
    (holding .closed creditOnly).switch.reasons ≠ ReasonSet.empty ∧ (holding .closed ReasonSet.empty).switch.consent = true := by
  decide +kernel

/-! ### Witnesses: Tamper Unit -/

/-- A line in a stage. -/
def lineIn (l : Line) (g : LineStage) : State := State.reset.onTamper fun x => x.setLine l g

theorem witness_LinesQualify :
    (lineIn .terminal ⟨.normal, 0⟩).supply.retention = true ∧ (lineIn .terminal ⟨.normal, 0⟩).tamper.hold = false ∧
    ((lineIn .terminal ⟨.normal, 0⟩).tamper.line .terminal).stage = .normal ∧
    ((lineIn .terminal ⟨.pending, 50⟩).tamper.line .terminal).stage = .pending ∧
    ((lineIn .magnet ⟨.qualified, 2⟩).tamper.line .magnet).stage = .qualified ∧
    ((lineIn .case ⟨.pending, 49⟩).tamper.line .case).stage ≠ .normal ∧ held.supply.retention = true ∧ held.tamper.hold = true ∧
    (held.onSupply fun x => { x with retention := false }).supply.retention = false := by decide +kernel

theorem witness_MagnetSecondsCounted :
    (lineIn .magnet ⟨.pending, 0⟩).tamper.magnetLine.timer + 1 < 2 ∧ 2 ≤ (lineIn .magnet ⟨.pending, 1⟩).tamper.magnetLine.timer + 1 ∧
    (lineIn .magnet ⟨.pending, 1⟩).tamper.magnetLine.stage = .pending ∧ (lineIn .magnet ⟨.normal, 0⟩).tamper.magnetLine.stage ≠ .pending ∧
    (injected .magnet .pending 1).tamper.injection = some ⟨.magnet, 1050, 0, .pending, 1, ⟨2, 0⟩⟩ ∧
    (injected .magnet .pending 0).tamper.injection = some ⟨.magnet, 1050, 0, .pending, 0, ⟨2, 0⟩⟩ ∧
    (injected .magnet .pending 1).tamper.hold = false ∧ held.tamper.hold = true := by decide +kernel

/-- A block result that reports a condition qualified and its test qualified. -/
def reporting : BlockResult :=
  { blockResult 2000 with imbalance := ⟨true, true⟩, reverse := ⟨true, false⟩, bypass := ⟨false, true⟩ }

theorem witness_BlockReportsTaken :
    held.tamper.hold = true ∧ (injected .imbalance .normal 0).tamper.hold = false ∧
    (injected .imbalance .normal 0).tamper.injection = some ⟨.imbalance, 1050, 0, .normal, 0, ⟨2, 0⟩⟩ ∧
    (BlockResult.condition reporting .imbalance).testQualified = true ∧
    (BlockResult.condition reporting .reverse).testQualified = false ∧ State.reset.tamper.injection = none ∧
    reporting.imbalance.qualified = true ∧ reporting.bypass.qualified = false := by decide +kernel

theorem witness_SourcesClearedByCodeAndOrder :
    (charging 0 0 .low).settings.service = .inService ∧ State.reset.settings.service = .commissioning ∧
    63 < (64 : Byte).toNat ∧ (63 : Byte) ≠ 0 ∧ (63 : Byte).toNat ≤ 63 := by decide +kernel

/-- An injection on CASE with a real CASE that it has absorbed, and a standby mark. -/
def caseOwed : State := (injected .case .pending 0).onTamper fun x => { x with caseLine := ⟨.qualified, 50⟩ }
def caseMarked : State := State.reset.onTamper fun x => { (x.setRecord .case ⟨true, true, 2, 9, 9, some ⟨9, 1⟩⟩) with hold := true }

theorem witness_TamperHoldAndWarmStart :
    [Instr.tamperSecond, .tamperHoldEntry] = [.tamperSecond] ++ .tamperHoldEntry :: [] ∧ Instr.tamperHoldEntry ∉ [Instr.tamperSecond] ∧
    caseOwed.tamper.hold = false ∧ caseOwed.tamper.injection = some ⟨.case, 1050, 0, .pending, 0, ⟨2, 0⟩⟩ ∧
    caseOwed.tamper.caseLine.stage = .qualified ∧ (caseOwed.tamper.record .case).active = false ∧
    State.reset.tamper.injection = none ∧ (State.reset.tamper.record .case).standby = none ∧
    (caseMarked.tamper.record .case).standby = some ⟨9, 1⟩ ∧ (caseMarked.effectiveMask .case).testBit 2 = true := by decide +kernel

theorem witness_InjectionsStandAndEnd :
    6 < (7 : Byte).toNat ∧ (6 : Byte).toNat ≤ 6 ∧ (6 : Byte).toNat = 6 ∧ State.reset.tamper.injection = none ∧
    (injected .case .pending 49).tamper.injection = some ⟨.case, 1050, 0, .pending, 49, ⟨2, 0⟩⟩ ∧
    (injected .case .pending 49).tamper.hold = false ∧ (5 : Byte).toNat = Source.bypass.index.val ∧
    (0 : Byte).toNat = Source.case.index.val ∧ (State.reset.tamper.record .bypass).active = false ∧
    (caseMarked.tamper.record .case).active = true ∧ (injected .magnet .pending 0).tamper.injection =
      some ⟨.magnet, 1050, 0, .pending, 0, ⟨2, 0⟩⟩ ∧ held.tamper.hold = true := by decide +kernel

/-! ### Witnesses: Supply Supervisor and Settings Unit -/

theorem witness_HoldAndWarmStart :
    held.supply.power = .hold ∧ State.reset.supply.power = .run ∧ held.supply.retention = true ∧ State.reset.supply.retention = true ∧
    (held.onSupply fun x => { x with retention := false }).supply.retention = false ∧ 3099 < held.setting .bcLow ∧
    ¬3100 < held.setting .bcLow ∧ 60 ≤ (held.onSupply fun x => { x with holdTimer := 60 }).supply.holdTimer ∧
    ¬60 ≤ (held.onSupply fun x => { x with holdTimer := 59 }).supply.holdTimer := by decide +kernel

theorem witness_ColdStartAndLossOfRetention :
    State.reset.supply.retention = true ∧ (held.onSupply fun x => { x with retention := false }).supply.retention = false ∧
    (held.supply.power = .hold ∧ held.supply.retention = true) ∧
    ¬(State.reset.supply.power = .hold ∧ State.reset.supply.retention = true) := by decide

/-- The first and the last line of R151's table, and no line after the last. -/
theorem witness_ResetValuesAndInvariants :
    settingsTable[0]? = some (.meterKey, 0, 18446744073709551615, 0) ∧ settingsTable[26]? = some (.bcRetain, 0, 10000, 2700) ∧
    settingsTable[27]? = none := ⟨rfl, rfl, rfl⟩

/-- U_HIGH 2,645, U_HYST 100 and U_LOW 1,955 at their sides; the counts 39, 239 and 7; the 3,600th second. -/
def overVoltage : State := State.reset.onSupply fun x => { x with overVoltage := true, sag := true, overVoltageCount := 239, sagCount := 7 }
def nearly : State := State.reset.onSupply fun x => { x with overVoltageCount := 39, sagCount := 7, backupCount := 3599 }

theorem witness_VoltageJudgedAndSupplyRead :
    nearly.setting .uHigh < 2646 ∧ ¬nearly.setting .uHigh < 2645 ∧ 2544 + overVoltage.setting .uHyst < overVoltage.setting .uHigh ∧
    ¬2545 + overVoltage.setting .uHyst < overVoltage.setting .uHigh ∧ overVoltage.setting .uLow ≤ 1955 ∧ 1954 < nearly.setting .uLow ∧
    overVoltage.supply.overVoltage = true ∧ nearly.supply.overVoltage = false ∧ 40 ≤ nearly.supply.overVoltageCount + 1 ∧
    240 ≤ overVoltage.supply.overVoltageCount + 1 ∧ 8 ≤ nearly.supply.sagCount + 1 ∧ State.reset.supply.sagCount + 1 < 8 ∧
    State.reset.supply.overVoltageCount + 1 < 40 ∧ nearly.supply.power = .run ∧ held.supply.power = .hold ∧
    Instr.switchHoldEntry ∉ nearly.inFlight ∧ Instr.switchHoldEntry ∈ (nearly.send .switchHoldEntry).inFlight ∧
    3600 ≤ nearly.supply.backupCount + 1 ∧ (State.reset.onSupply fun x => { x with backupCount := 3598 }).supply.backupCount + 1 < 3600 ∧
    nearly.setting .bcLow ≤ 3100 ∧ 3099 < nearly.setting .bcLow ∧ nearly.supply.backupLow = false ∧
    (nearly.onSupply fun x => { x with backupLow := true }).supply.backupLow = true := by decide +kernel

/-- Settings that a write leaves. -/
theorem exists_written (s : Settings) (v : Vector Nat 27) (k : Bool) : ∃ y : Settings, y.values = v ∧ y.keySet = k ∧
    y.checkWord = crc16 (checkStream y) ∧ y = { s with values := v, keySet := k, checkWord := y.checkWord } :=
  ⟨{ s with values := v, keySet := k, checkWord := crc16 (checkStream { s with values := v, keySet := k }) }, rfl, rfl,
    congrArg crc16 (by simp only [checkStream]), rfl⟩

theorem witness_SettingWritten :
    State.reset.settings.waiting = none ∧ State.reset.settings.service = .commissioning ∧
    (charging 0 0 .low).settings.service = .inService ∧ (charging 0 0 .low).settings.waiting = none ∧ (0 : Byte).toNat = 0 ∧
    27 < (28 : Byte).toNat ∧ (27 : Byte).toNat = SettingId.bcRetain.index.val + 1 ∧ (1 : Byte).toNat = SettingId.meterKey.index.val + 1 ∧
    (22 : Byte).toNat = SettingId.uHyst.index.val + 1 ∧ settingsTable[21]? = some (.uHyst, 0, 999, 100) ∧
    999 = max SettingId.uHyst.row.low (min SettingId.uHyst.row.high (1200 : BitVec 64).toNat) ∧
    ∃ y : Settings, y.values = State.reset.settings.values.set SettingId.uHyst.index 999 ∧
      y.keySet = (State.reset.settings.keySet || decide (SettingId.uHyst = .meterKey)) ∧ y.checkWord = crc16 (checkStream y) ∧
      y = { State.reset.settings with values := y.values, keySet := y.keySet, checkWord := y.checkWord } := by
  refine ⟨rfl, rfl, rfl, rfl, rfl, by decide, rfl, rfl, rfl, rfl, by decide +kernel, ?_⟩
  obtain ⟨y, hv, hk, hc, hy⟩ := exists_written State.reset.settings (State.reset.settings.values.set SettingId.uHyst.index 999)
    (State.reset.settings.keySet || decide (SettingId.uHyst = .meterKey))
  exact ⟨y, hv, hk, hc, by rw [hv, hk]; exact hy⟩

/-- A Settings Unit that waits. -/
def waitingFor (w : SettingsWait) : State := State.reset.onSettings fun x => { x with waiting := some w }

/-- A part that passes every item of R156. -/
def enterable : State :=
  (having (having (having keyed .kL 1) .kN 1) .kV 1).onCalendar fun x => { x with adopted := true }

theorem witness_NewsEndsTheWaitAndServiceChanges :
    (Neighbour.code, Instr.keyWriteNews) ∈ [(Neighbour.energy, Instr.calibrationWriteNews .line),
      (.energy, .calibrationWriteNews .neutral), (.code, .keyWriteNews), (.tamper, .actionMaskNews)] ∧
    (waitingFor (.write ⟨3, 0⟩ .meterKey false 1 .code)).settings.waiting = some (.write ⟨3, 0⟩ .meterKey false 1 .code) ∧
    (waitingFor (.write ⟨3, 0⟩ .meterKey false 1 .code)).code.evaluation = none ∧
    (waitingFor (.service true true none)).settings.waiting = some (.service true true none) ∧
    (waitingFor (.service true false (some ⟨3, 0⟩))).settings.waiting = some (.service true false (some ⟨3, 0⟩)) ∧
    (waitingFor (.service false true none)).settings.waiting = some (.service false true none) ∧
    held.supply.power = .hold ∧ held.settings.waiting = none ∧ enterable.supply.power = .run ∧ State.reset.supply.power = .run ∧
    Instr.engineHoldEntry ∉ enterable.inFlight ∧ Instr.engineHoldEntry ∉ State.reset.inFlight ∧
    Instr.engineHoldEntry ∈ (enterable.send .engineHoldEntry).inFlight ∧
    State.reset.settings.waiting = none ∧ enterable.settings.waiting = none ∧ enterable.entryItem = 0 ∧
    (enterable.onCalendar fun x => { x with adopted := false }).entryItem = 7 ∧ State.reset.entryItem = 2 := by decide +kernel

theorem witness_SweepsRun :
    (waitingFor (.service true true none)).settings.waiting ≠ none ∧ State.reset.settings.waiting = none ∧
    (State.reset.onSettings fun x => { x with sweepCount := 58 }).settings.sweepCount + 1 < 60 ∧
    60 ≤ (State.reset.onSettings fun x => { x with sweepCount := 59 }).settings.sweepCount + 1 ∧
    (State.reset.onTamper fun x => { x with integrityTest := some ⟨1, 0⟩ }).tamper.integrityTest = some ⟨1, 0⟩ ∧
    State.reset.tamper.integrityTest = none := by decide +kernel

/-! ### Witnesses: Exchange Unit -/

/-- A link that is not served, and a frame that is being ignored. -/
def unserved : State := State.reset.onExchange fun x => { x with link := .closed }
def ignoringFrame : State := State.reset.onExchange fun x => { x with ignoring := true }

theorem witness_FramesBeginAndGoOn :
    State.reset.exchange.frame = none ∧ State.reset.exchange.ignoring = false ∧ State.reset.served = true ∧
    unserved.exchange.frame = none ∧ unserved.exchange.ignoring = false ∧ unserved.served = false ∧
    ignoringFrame.exchange.ignoring = true ∧ (0xB4 : Byte).toNat / 4 ≠ 0x2C ∧ (0x6F : Byte).toNat / 4 ≠ 0x1C ∧
    (∀ k, FrameStart.goOn ≠ .short k) ∧ (∀ k, FrameStart.at 0x0240 ≠ .short k) ∧
    (∃ t, exec (readRow .ascend ⟨.at 0x0240, 1, false⟩) State.reset = .next t) ∧
    (∃ t, exec (writeRow .hold ⟨.goOn, [1], false⟩) (framed true .hold 0x300 .none) = .next t) :=
  ⟨rfl, rfl, by decide, rfl, rfl, by decide, rfl, by decide, by decide, (fun _ h => nomatch h), (fun _ h => nomatch h),
    ⟨_, rfl⟩, ⟨_, rfl⟩⟩

/-- A frame record without a gathered word is served at reset. -/
theorem framed_served (write : Bool) (w : Walk) (a : BitVec 12) (word : CurrentWord) (h : ∀ v cells, word ≠ .gathered v cells) :
    FrameServed (framed write w a word).exchange :=
  ⟨fun _ => ⟨rfl, rfl, rfl⟩, rfl, fun hh => Bool.noConfusion (hh : false = true),
    fun f v cells hf hw => by cases hf; exact absurd hw (h v cells)⟩

theorem witness_ReadByteReturned :
    FrameServed (framed false .lineAscend 0xFFF .none).exchange ∧
    (framed false .lineAscend 0xFFF .none).exchange.frame = some ⟨false, .lineAscend, 0xFFF, .none⟩ ∧
    (0xFC0 : BitVec 12).toNat = addressAfter .lineAscend 0xFFF ∧ FrameServed (framed false .ascend 0xFBF .none).exchange ∧
    (0xFC0 : BitVec 12).toNat = addressAfter .ascend 0xFBF ∧ ownerOf 0xFBF = .unassigned ∧ ownerOf 0x2BF ≠ .unassigned ∧
    FrameServed (framed false .descend 0x2BF (.fetched 0xAF [1, 2, 3, 4])).exchange ∧ 0x2BF / 4 = 0xAF ∧
    (0x2BE : BitVec 12).toNat = addressAfter .descend 0x2BF ∧ (0xFFF : BitVec 12).toNat = addressAfter .descend 0 ∧
    (∀ bytes, CurrentWord.none ≠ .fetched 0xAF bytes) ∧ (∀ v cells, CurrentWord.none ≠ .gathered v cells) :=
  ⟨framed_served _ _ _ _ (fun _ _ h => nomatch h), rfl, by decide +kernel, framed_served _ _ _ _ (fun _ _ h => nomatch h),
    by decide +kernel, by decide, by decide, framed_served _ _ _ _ (fun _ _ h => nomatch h), by decide, by decide +kernel,
    by decide +kernel, (fun _ h => nomatch h), (fun _ _ h => nomatch h)⟩

/-- The edges of the memory map (R167, R184, R185): the read index, a slot's kind, state, tag, last argument and result, the unassigned
ranges, and the staging area. -/
theorem witness_memory_map :
    (∀ a ∈ [0x008, 0x040, 0x042, 0x067, 0x227, 0x300, 0x3FF], HostByte a) ∧
    (∀ a ∈ [0x007, 0x009, 0x041, 0x068, 0x07F, 0x228, 0x240, 0x2BF, 0x400, 0x6FF], ¬HostByte a ∧ ¬UnassignedByte a) ∧
    ∀ a ∈ [0x2C0, 0x2FF, 0x700, 0xFBF], UnassignedByte a ∧ a < 0xFC0 := by
  refine ⟨?_, ?_, by simp [UnassignedByte]⟩
  · simp only [List.forall_mem_cons]
    exact ⟨.inl rfl, .inr (.inl ⟨0, 0, rfl, by decide⟩), .inr (.inl ⟨0, 2, rfl, by decide⟩), .inr (.inl ⟨0, 39, rfl, by decide⟩),
      .inr (.inl ⟨7, 39, rfl, by decide⟩), .inr (.inr (by decide)), .inr (.inr (by decide)), List.forall_mem_nil _⟩
  · intro a h
    simp only [List.mem_cons, List.not_mem_nil, or_false] at h
    constructor
    · rintro (h1 | ⟨n, o, h1, ho⟩ | h1) <;> omega
    · rintro (h1 | h1) <;> omega

theorem witness_WriteByteTaken :
    FrameServed (framed true .ascend 0xFBF .none).exchange ∧ Memory.wf (framed true .ascend 0xFBF .none).exchange.mem = true ∧
    (framed true .ascend 0xFBF .none).exchange.frame = some ⟨true, .ascend, 0xFBF, .none⟩ ∧
    (0xFC0 : BitVec 12).toNat = addressAfter .ascend 0xFBF ∧ (0xFC0 : BitVec 12).toNat / 4 ≠ 0xFBF / 4 ∧
    FrameServed (framed true .hold 0xFC9 .none).exchange ∧ (0xFC9 : BitVec 12).toNat = addressAfter .hold 0xFC9 ∧
    (framed true .hold 0xFC9 .none).pins.linkrstn = false ∧ (0xFC5 ≤ 0xFC5 ∧ 0xFC5 ≤ 0xFC7 ∨ 0xFCA ≤ 0xFC5) ∧
    (0xFC5 ≤ 0xFFF ∧ 0xFFF ≤ 0xFC7 ∨ 0xFCA ≤ 0xFFF) ∧
    FrameServed (framed true .ascend 0x041 (.gathered 0x10 [(0x40, 4), (0x41, 0)])).exchange ∧
    (∀ w cells, CurrentWord.none ≠ .gathered w cells) :=
  ⟨framed_served _ _ _ _ (fun _ _ h => nomatch h), by decide, rfl, by decide +kernel, by decide,
    framed_served _ _ _ _ (fun _ _ h => nomatch h), by decide +kernel, rfl, by decide, by decide,
    witness_StepKeepsTheRecords.2.2.2.2, (fun _ _ h => nomatch h)⟩

theorem witness_NoticesClearedAndEnabled : State.reset.served = true ∧ unserved.served = false := by decide

theorem witness_SemaphoresAndOtherRegisters :
    State.reset.served = true ∧ unserved.served = false ∧ State.reset.exchange.holder .mirror = .none ∧
    (State.reset.exchange.setHolder .stage .link).holder .stage = .link ∧
    (State.reset.exchange.setHolder .mirror .internal).holder .mirror = .internal ∧ (1 : Byte) ≠ 0 := by decide

/-- A link access that waits. -/
def requesting (a : LinkAccess) : State := State.reset.onExchange fun x => { x with linkRequest := some a }

theorem witness_ArbiterGrantsByPriority :
    State.reset.nextGrant = none ∧ (requesting (.fetch 0x3EF)).exchange.hold = false ∧
    (requesting (.fetch 0x3EF)).exchange.linkRequest = some (.fetch 0x3EF) ∧
    Memory.wf (requesting (.store [(0x300, 1), (0x303, 0)])).exchange.mem = true ∧
    ([(0x300, 1), (0x303, 0)] : List Host.Cell).Pairwise (fun c d => c.1 < d.1) := by decide +kernel

theorem witness_LinkOpensClosesAndResets :
    State.reset.pins.linkrstn = false ∧ State.reset.exchange.link = .open ∧ unserved.exchange.link = .closed ∧
    (State.reset.onPins fun p => { p with linkrstn := true }).pins.linkrstn = true := by decide

/-! ### Witnesses: Order Engine and Report Unit -/

theorem witness_SlotActionsTaken :
    (State.reset.engine.mode = .running ∧ State.reset.engine.resetWriting = false) ∧
    ¬((State.reset.onEngine fun x => { x with resetWriting := true }).engine.mode = .running ∧
      (State.reset.onEngine fun x => { x with resetWriting := true }).engine.resetWriting = false) ∧
    State.reset.engine.slots[(7 : Fin 8)] = .free ∧ (slotIn 7 .posted).engine.slots[(7 : Fin 8)] = .posted ∧
    (slotIn 7 .done).engine.slots[(7 : Fin 8)] = .done ∧ (slotIn 7 .taken).engine.slots[(7 : Fin 8)] ≠ .free := by decide +kernel

/-- The first 36 bytes of a slot that begins with a kind. -/
def slotBytes (kind : Byte) : List Byte := kind :: List.replicate 35 0

theorem witness_OrdersCopiedAndDispatched :
    (working (.copy 0) 9 .copying (slotBytes 7)).nextGrant = some .engine ∧
    (working (.copy 0) 9 .copying (slotBytes 7)).engine.current = some ⟨⟨0, 0⟩, slotBytes 7, .copying, false⟩ ∧
    (working (.copy 0) 9 .copying (slotBytes 7)).engine.work = .copy 0 :: [] ∧
    (working (.copy 0) 8 .copying []).engine.granted < 9 ∧ 9 ≤ (working (.copy 0) 9 .copying []).engine.granted ∧
    orderKind (slotBytes 7 ++ [0, 0, 0, 0]) = 7 ∧ orderKind (slotBytes 0 ++ [0, 0, 0, 0]) = 0 ∧
    11 < orderKind (slotBytes 12 ++ [0, 0, 0, 0]) ∧ orderKind (slotBytes 11 ++ [0, 0, 0, 0]) = 11 ∧
    orderKind (slotBytes 1 ++ [0, 0, 0, 0]) = 1 ∧ (slotBytes 7)[0]? = some 7 ∧ (working (.copy 0) 9 .copying (slotBytes 7)).exchange.stageHolder ≠ .link ∧
    (State.reset.exchange.setHolder .stage .link).stageHolder = .link ∧
    (working .staging 63 .copying []).nextGrant = some .engine ∧ (working .staging 63 .copying []).engine.work = .staging :: [] ∧
    (working .staging 62 .copying []).engine.granted < 63 ∧ 63 ≤ (working .staging 63 .copying []).engine.granted := by decide +kernel

/-- A SET TIME of 0x01020304 and a WRITE SETTING of id 27 with the value 0x1122334455667788. -/
theorem witness_OrderArgumentsHandedOver :
    ([6, 0, 0, 0, 1, 2, 3, 4] ++ List.replicate 32 0 : List Byte).length = 40 ∧
    orderKind ([6, 0, 0, 0, 1, 2, 3, 4] ++ List.replicate 32 0) = 6 ∧
    (∀ i : Fin 4, ([6, 0, 0, 0, 1, 2, 3, 4] ++ List.replicate 32 0 : List Byte)[4 + i.val]?.map BitVec.toNat =
      some ((0x01020304 : BitVec 32).toNat / 256 ^ (3 - i.val) % 256)) ∧
    orderCommand ⟨0, 0⟩ ([6, 0, 0, 0, 1, 2, 3, 4] ++ List.replicate 32 0) = some (.setTime ⟨0, 0⟩ 0x01020304) ∧
    (∀ i : Fin 8, ([8, 0, 0, 0, 27, 0, 0, 0, 0x11, 0x22, 0x33, 0x44, 0x55, 0x66, 0x77, 0x88] ++ List.replicate 24 0 :
      List Byte)[8 + i.val]?.map BitVec.toNat = some ((0x1122334455667788 : BitVec 64).toNat / 256 ^ (7 - i.val) % 256)) ∧
    orderCommand ⟨0, 0⟩ ([8, 0, 0, 0, 27, 0, 0, 0, 0x11, 0x22, 0x33, 0x44, 0x55, 0x66, 0x77, 0x88] ++ List.replicate 24 0) =
      some (.writeSetting ⟨0, 0⟩ 27 0x1122334455667788) ∧
    orderKind (slotBytes 0 ++ [0, 0, 0, 0]) = 0 ∧ 11 < orderKind (slotBytes 12 ++ [0, 0, 0, 0]) ∧
    (∀ k : Fin 11, orderKind (slotBytes (BitVec.ofNat 8 (k.val + 1)) ++ [0, 0, 0, 0]) = k.val + 1) ∧
    (slotBytes 255 ++ [0, 0, 0, 0])[0]? = some 255 := by decide +kernel

theorem witness_AnswersAndStatesWritten :
    (working (.answer 0 .ok .none) 5 .answering []).nextGrant = some .engine ∧
    Memory.wf (working (.answer 0 .ok .none) 5 .answering []).exchange.mem = true ∧
    (working (.answer 0 .ok .none) 5 .answering []).engine.work = .answer 0 .ok .none :: [] ∧
    (working (.answer 0 .ok .none) 4 .answering []).engine.granted < 5 ∧
    5 ≤ (working (.answer 0 .ok .none) 5 .answering []).engine.granted ∧
    (working (.state 0) 0 .answering []).nextGrant = some .engine ∧
    ((working (.state 0) 0 .answering []).onEngine fun x => { x with mode := .stopped }).engine.mode = .stopped ∧
    (working (.state 0) 0 .answering []).engine.hold = false ∧ (working (.state 0) 0 .answering []).engine.mode ≠ .stopped := by
  decide +kernel

/-- A parked order and an order with its owner. -/
def parkedTest7 : State := State.reset.onEngine fun x => { x with parked := [⟨⟨7, 0⟩, 11⟩] }
def ownersOrder (abandoned : Bool) : State :=
  State.reset.onEngine fun x => { x with current := some ⟨⟨0, 0⟩, slotBytes 4, .withOwner, abandoned⟩ }

theorem witness_OwnerRepliesTaken :
    some (CurrentOrder.mk ⟨0, 0⟩ (slotBytes 4) .withOwner false) =
      (ownersOrder false).engine.current.filter (fun o => decide (o.id = ⟨0, 0⟩ ∧ o.phase = .withOwner)) ∧
    some (CurrentOrder.mk ⟨0, 0⟩ (slotBytes 4) .withOwner true) =
      (ownersOrder true).engine.current.filter (fun o => decide (o.id = ⟨0, 0⟩ ∧ o.phase = .withOwner)) ∧
    none = parkedTest7.engine.current.filter (fun o => decide (o.id = ⟨7, 0⟩ ∧ o.phase = .withOwner)) ∧
    (∃ p ∈ parkedTest7.engine.parked, p.id = ⟨7, 0⟩) ∧ (∀ p ∈ parkedTest7.engine.parked, p.id ≠ ⟨7, 1⟩) ∧
    State.reset.engine.mode = .running ∧ (State.reset.onEngine fun x => { x with mode := .stopped }).engine.mode = .stopped ∧
    RelayState.stuck ∈ [RelayState.open, .ready, .stuck] ∧ RelayState.closed ∉ [RelayState.open, .ready, .stuck] := by decide +kernel

/-- R202 and R204: a reply for an earlier order of the slot, answered ABORTED or given up, is discarded; a park comes before the end of its
test (R198), and a refusal of the Tamper Unit behind it (R197). -/
theorem test_reply_for_an_earlier_order :
    got (.ownerAnswer ⟨0, 1⟩ .ok (.item 0)) (ownersOrder false) (fun t => (t.engine.work, t.engine.current.map CurrentOrder.phase)) =
      some ([], some .withOwner) ∧
    got (.ownerPark ⟨.switch, ⟨0, 1⟩⟩) (ownersOrder false) (fun t => (t.engine.parked, t.engine.current.map CurrentOrder.phase)) =
      some ([], some .withOwner) ∧
    got (.ownerAnswer ⟨7, 1⟩ .ok (.testOk 1 2 3)) parkedTest7 (fun t => (t.engine.work, t.engine.parked.length)) = some ([], 1) ∧
    got (.ownerAnswer ⟨7, 0⟩ .ok (.testOk 1 2 3)) parkedTest7 (fun t => (t.engine.work, t.engine.parked.length)) =
      some ([.answer 7 .ok (.testOk 1 2 3)], 0) ∧
    channelOf (.ownerPark ⟨.tamper, ⟨0, 0⟩⟩) = channelOf (.ownerAnswer ⟨0, 0⟩ .ok (.testOk 1 2 3)) ∧
    channelOf (.ownerAnswer ⟨1, 0⟩ .badArgument .noneOfTamper) = channelOf (.ownerAnswer ⟨0, 0⟩ .ok (.testOk 1 2 3)) := by decide +kernel

/-- R193: two takes give two orders of one slot, told apart. -/
theorem test_takes_are_told_apart :
    got (.post 0) State.reset (fun t => (t.engine.current.map CurrentOrder.id, t.engine.takes)) = some (some ⟨0, 0⟩, 1) ∧
    got (.post 0) (State.reset.onEngine fun x => { x with takes := 1 }) (fun t => (t.engine.current.map CurrentOrder.id, t.engine.takes)) =
      some (some ⟨0, 1⟩, 2) := by decide +kernel

/-- R67: the news of a key write, and the opening of a link on which LINKRSTN stands asserted, wait for the evaluation in hand. -/
theorem test_evaluation_is_taken_whole :
    let s := (keyed.onCode fun x => { x with evaluation := some ⟨⟨1, 0⟩, 0, 325, 1⟩ }).onPins fun p => { p with linkrstn := true }
    exec .keyWriteNews s = .next s ∧
    Instr.waitsForCode (s.onExchange fun x => { x with link := .closed, answersTold := false }) .answersWrittenNews ∧
    ¬Instr.waitsForCode (State.reset.onExchange fun x => { x with link := .closed, answersTold := false }) .answersWrittenNews :=
  ⟨rfl, ⟨rfl, rfl, rfl, rfl, rfl⟩, by intro h; cases h.1⟩

/-- R183: the last state byte of a link reset serves frames again, but not while a second link reset is on its way to the engine. -/
theorem test_second_link_reset :
    let s := ((working (.state 0) 0 .answering []).onEngine fun x => { x with resetWriting := true }).onExchange
      fun x => { x with resetPending := true }
    got .stateByteWritten s (fun t => t.exchange.resetPending) = some false ∧
    got .stateByteWritten (s.send .engineLinkReset) (fun t => t.exchange.resetPending) = some true := by decide +kernel

theorem witness_EngineStopsStartsAndResets :
    [Instr.post 0, .setTime ⟨1, 0⟩ 7, .engineHoldEntry, .answersWrittenNews] =
      [.post 0, .setTime ⟨1, 0⟩ 7] ++ .engineHoldEntry :: [.answersWrittenNews] ∧
    Instr.engineHoldEntry ∉ [Instr.post 0, .setTime ⟨1, 0⟩ 7] ∧
    [Instr.release 0, .engineLinkReset] = [.release 0] ++ .engineLinkReset :: [] ∧
    Instr.engineLinkReset ∉ [Instr.release 0] := by decide

/-- 45 and 46 unread, a read index byte that is accepted at W, and one of 48. -/
theorem witness_EntriesQueuedHandledAndWritten :
    (State.reset.onReport fun x => { x with queue := List.replicate 31 ⟨0, .sag 0 1⟩ }).report.queue.length < 32 ∧
    32 ≤ atLimits.report.queue.length ∧ (behind 12 12 9 500 false (.sag 0 1)).nextGrant = some .journal ∧
    (behind 12 12 9 500 false (.sag 0 1)).report.writer = some ⟨⟨7, .sag 0 1⟩ :: [], .reading, false, none⟩ ∧
    (Memory.read (behind 12 12 9 500 false (.sag 0 1)).exchange.mem 8).toNat = 12 ∧
    (12 < 48 ∧ (12 + 48 - 12) % 48 ≤ (9 + 48 - 12) % 48) ∧ (9 + 48 - 12) % 48 < 46 ∧ 46 ≤ (10 + 48 - 12) % 48 ∧
    (behind 12 12 10 500 false (.sag 0 1)).report.overflow = false ∧ (behind 12 12 10 500 true (.sag 0 1)).report.overflow = true ∧
    (9 < 48 ∧ (9 + 48 - 12) % 48 ≤ (9 + 48 - 12) % 48) ∧ ¬(48 < 48 ∧ (48 + 48 - 12) % 48 ≤ (9 + 48 - 12) % 48) ∧
    (writing (.writing [1] 3)).nextGrant = some .journal ∧ (writing (.writing [1] 4)).nextGrant = some .journal := by decide +kernel

/-- A writer that a HOLD entry has stopped. -/
def stopped (withLoss : Bool) : State := (writing (.stopped withLoss)).onReport fun x => { x with hold := true }

theorem witness_ReportStopsAndStarts :
    [Instr.blockCompletionReport, .reportHoldEntry, .mirrorFreedNews] =
      [.blockCompletionReport] ++ .reportHoldEntry :: [.mirrorFreedNews] ∧
    Instr.reportHoldEntry ∉ [Instr.blockCompletionReport] ∧
    State.reset.report.writer = none ∧
    (writing .reading).report.writer = some { entries := [⟨0, .sag 0 1⟩], stage := .reading, savedOverflow := false, savedLoss := none } ∧
    (∀ b, WriterStage.reading ≠ .stopped b) ∧
    (stopped false).report.writer =
      some { entries := ⟨0, .sag 0 1⟩ :: [], stage := .stopped false, savedOverflow := false, savedLoss := none } ∧
    (stopped true).report.writer =
      some { entries := ⟨0, .sag 0 1⟩ :: [], stage := .stopped true, savedOverflow := false, savedLoss := none } :=
  ⟨rfl, by decide, rfl, rfl, (fun _ h => nomatch h), rfl, rfl⟩

/-- A publication with some words granted. -/
def publishing (granted : Nat) (again : Bool) : State :=
  (State.reset.onExchange fun x => { x with mirrorHolder := .internal }).onReport fun x => { x with publication := some ⟨[1], granted⟩, publishing := true, pendingPub := again }

theorem witness_PublicationsDueMadeAndEnded :
    held.report.hold = true ∧ State.reset.report.hold = false ∧
    (State.reset.onReport fun x => { x with blockCount := 6 }).report.blockCount + 1 < 8 ∧
    8 ≤ (State.reset.onReport fun x => { x with blockCount := 7 }).report.blockCount + 1 ∧
    (publishing 31 true).report.publishing = true ∧ State.reset.report.publishing = false ∧ State.reset.report.pendingPub = false ∧
    (publishing 30 false).nextGrant = some .publisher ∧ (publishing 30 false).report.publication = some ⟨[1], 30⟩ ∧
    (publishing 31 true).nextGrant = some .publisher ∧ (publishing 31 true).report.publication = some ⟨[1], 31⟩ ∧
    (publishing 31 true).report.pendingPub = true ∧ (publishing 31 false).report.pendingPub = false ∧
    State.reset.nextGrant ≠ some .journal ∧ State.reset.nextGrant ≠ some .publisher ∧ State.reset.nextGrant ≠ some .engine := by
  decide +kernel

end Sys2Proof.Tests
end

section
/-! PROOFS. The Energy Unit (01_energy_measurement.md): a settling block, and the power and voltage of a metered block. -/

namespace Sys2Proof.Machine

/-! ### Block completion -/

section BlockCompletion

variable (s : State) (sL sN : Int) (sV : Nat)

/-- BLOCK_COMPLETION as an instruction is the Energy Unit's operation. -/
theorem exec_blockCompletion : exec (.blockCompletion sL sN sV) s = execBlockCompletion sL sN sV s := rfl

/-- A settling block forms no block result: the flag is cleared and the completion reported (R12, R13). -/
theorem State.completeBlock_of_settling (h : s.energy.settling = true) :
    s.completeBlock sL sN sV = (s.onEnergy fun x => { x with settling := false }).send .blockCompletionReport :=
  if_pos h

/-- A block completion in RUN that is a settling block. -/
theorem exec_blockCompletion_settling (hrun : s.supply.power = .run) (hsettling : s.energy.settling = true) :
    execBlockCompletion sL sN sV s =
      .next ((s.onEnergy fun x => { x with settling := false }).send .blockCompletionReport) := by
  rw [execBlockCompletion, if_pos hrun, s.completeBlock_of_settling sL sN sV hsettling]

/-- The power and the voltage that a metered block leaves are those of its block result (R9, R10). -/
theorem State.meterBlock_power_voltage :
    (s.meterBlock sL sN sV).1.power = blockPower (s.meterBlock sL sN sV).2.billed ∧
      (s.meterBlock sL sN sV).1.voltage = (s.meterBlock sL sN sV).2.voltage ∧
      (s.meterBlock sL sN sV).2.voltage = blockVoltage sV (s.setting .kV) := by
  obtain ⟨-, -, -, -, -, -, -, -, -, -, -, -, hpower, hvoltage, hresult⟩ :=
    s.meterBlock_fields sL sN _ _ sV _ _ rfl rfl rfl rfl _ rfl
  exact ⟨hpower, hvoltage, hresult⟩

end BlockCompletion

/-! ### The voltage -/

/-- An operand of at most a square has at most its root. -/
theorem isqrt_le_of_le_mul_self {n b : Nat} (h : n ≤ b * b) : isqrt n ≤ b :=
  Nat.mul_self_le_mul_self_iff.1 ((isqrt_spec n).1.trans h)

/-- The voltage code over the range that R1 gives ΣV². -/
theorem isqrt_voltageSum_le {sV : Nat} (h : sV ≤ 500 * 2 ^ 30) : isqrt (sV / 500) ≤ 32768 :=
  isqrt_le_of_le_mul_self (by omega)

/-- With K_V at 0, U is 0 in every block (R10). -/
theorem blockVoltage_zero (sV : Nat) : blockVoltage sV 0 = 0 := by simp [blockVoltage]

/-- The range of U that R10 gives: the greatest code under the greatest 16-bit K_V stays below 32,768. -/
theorem blockVoltage_le {sV kV : Nat} (hsum : sV ≤ 500 * 2 ^ 30) (hfactor : kV ≤ 65535) :
    blockVoltage sV kV ≤ 32767 := by
  have hproduct : isqrt (sV / 500) * kV ≤ 32768 * 65535 := Nat.mul_le_mul (isqrt_voltageSum_le hsum) hfactor
  unfold blockVoltage
  omega

/-! ### The obligations -/

/-- Settles O9: in RUN a settling block takes the first branch of the completion. -/
theorem settlingBlockDiscarded : Obligations.SettlingBlockDiscarded := by
  intro s sL sN sV hrun hsettling
  rw [exec_blockCompletion, exec_blockCompletion_settling s sL sN sV hrun hsettling]
  rfl

/-- Settles O10: the block result is that of `meterBlock`, and the code is the integer square root. -/
theorem blockPowerAndVoltage : Obligations.BlockPowerAndVoltage := by
  intro s sL sN sV hrun hmetered
  obtain ⟨hpower, hvoltage, hresult⟩ := s.meterBlock_power_voltage sL sN sV
  have hnext : exec (.blockCompletion sL sN sV) s = .next (s.recordBlock (s.meterBlock sL sN sV)) :=
    (exec_blockCompletion s sL sN sV).trans (exec_blockCompletion_metered s sL sN sV hrun hmetered)
  obtain ⟨hfloor, hceil⟩ := isqrt_spec (sV / 500)
  refine ⟨_, (s.meterBlock sL sN sV).2, isqrt (sV / 500), hnext, s.recordBlock_inFlight _, ?_, hfloor, hceil,
    hresult, ?_, fun hzero => ?_, isqrt_voltageSum_le, fun hsum hfactor => ?_⟩
  · rw [State.recordBlock_energy, hpower, blockPower]
  · rw [State.recordBlock_energy, hvoltage]
  · rw [hresult, hzero, blockVoltage_zero]
  · rw [hresult]
    exact blockVoltage_le hsum hfactor

end Sys2Proof.Machine
end

section
/-! PROOFS. An access of the link is granted at once outside HOLD, so a frame changes no unit but the Exchange Unit (R173). -/

namespace Sys2Proof.Machine

variable (s : State)

/-- The link's own access is granted at once, and in HOLD it waits (R173, R174). -/
theorem State.requestLink_eq (a : LinkAccess) : s.requestLink a = s.onExchange fun x =>
    if x.hold then { x with linkRequest := some a } else Exchange.linkAccess { x with linkRequest := some a } := by
  unfold State.requestLink State.grant State.nextGrant
  cases h : s.exchange.hold <;> simp [State.onExchange, h]

@[simp] theorem State.requestLink_link (a : LinkAccess) :
    (s.requestLink a).code = s.code ∧ (s.requestLink a).engine = s.engine ∧ (s.requestLink a).report = s.report := by
  refine ⟨?_, ?_, ?_⟩ <;> (rw [State.requestLink_eq]; simp)

@[simp] theorem State.readMemoryByte_link (f : Frame) :
    (s.readMemoryByte f).code = s.code ∧ (s.readMemoryByte f).engine = s.engine ∧ (s.readMemoryByte f).report = s.report := by
  refine ⟨?_, ?_, ?_⟩ <;> (simp only [State.readMemoryByte]; repeat' split) <;> simp

@[simp] theorem State.readByte_link (f : Frame) :
    (s.readByte f).code = s.code ∧ (s.readByte f).engine = s.engine ∧ (s.readByte f).report = s.report := by
  refine ⟨?_, ?_, ?_⟩ <;> (simp only [State.readByte]; repeat' split) <;> simp

@[simp] theorem State.applyBytes_link (cells : List Host.Cell) :
    (s.applyBytes cells).code = s.code ∧ (s.applyBytes cells).engine = s.engine ∧ (s.applyBytes cells).report = s.report := by
  refine ⟨?_, ?_, ?_⟩ <;> (simp only [State.applyBytes]; repeat' split) <;> simp

@[simp] theorem State.applyGathered_link :
    s.applyGathered.code = s.code ∧ s.applyGathered.engine = s.engine ∧ s.applyGathered.report = s.report := by
  refine ⟨?_, ?_, ?_⟩ <;> (simp only [State.applyGathered]; repeat' split) <;> simp

@[simp] theorem State.writeByte_link (f : Frame) (v : Byte) :
    (s.writeByte f v).code = s.code ∧ (s.writeByte f v).engine = s.engine ∧ (s.writeByte f v).report = s.report := by
  refine ⟨?_, ?_, ?_⟩ <;> (simp only [State.writeByte]; repeat' split) <;> simp

@[simp] theorem State.readBytes_link (n : Nat) : ∀ s : State, (State.readBytes n s).code = s.code ∧
    (State.readBytes n s).engine = s.engine ∧ (State.readBytes n s).report = s.report := by
  induction n with
  | zero => intro s; simp [State.readBytes]
  | succ n ih =>
    intro s
    simp only [State.readBytes]
    split <;> simp [ih]

@[simp] theorem State.writeBytes_link (vs : List Byte) : ∀ s : State, (State.writeBytes vs s).code = s.code ∧
    (State.writeBytes vs s).engine = s.engine ∧ (State.writeBytes vs s).report = s.report := by
  induction vs with
  | nil => intro s; simp [State.writeBytes]
  | cons v vs ih =>
    intro s
    simp only [State.writeBytes]
    split <;> simp [ih]

@[simp] theorem State.endFrame_link :
    s.endFrame.code = s.code ∧ s.endFrame.engine = s.engine ∧ s.endFrame.report = s.report := by
  refine ⟨?_, ?_, ?_⟩ <;> simp [State.endFrame]

@[simp] theorem State.endSegment_link (last : Bool) :
    (s.endSegment last).code = s.code ∧ (s.endSegment last).engine = s.engine ∧ (s.endSegment last).report = s.report := by
  refine ⟨?_, ?_, ?_⟩ <;> (simp only [State.endSegment]; repeat' split) <;> simp

@[simp] theorem State.readFrame_link (w : Walk) (g : ReadSegment) :
    (s.readFrame w g).code = s.code ∧ (s.readFrame w g).engine = s.engine ∧ (s.readFrame w g).report = s.report := by
  refine ⟨?_, ?_, ?_⟩ <;> (simp only [State.readFrame]; repeat' split) <;> simp

@[simp] theorem State.writeFrame_link (w : Walk) (g : WriteSegment) :
    (s.writeFrame w g).code = s.code ∧ (s.writeFrame w g).engine = s.engine ∧ (s.writeFrame w g).report = s.report := by
  refine ⟨?_, ?_, ?_⟩ <;> (simp only [State.writeFrame]; repeat' split) <;> simp

end Sys2Proof.Machine
end

section
/-! PROOFS. The units that each command changes, and that every command answers a next state. -/

namespace Sys2Proof.Machine

/-! ### Outcomes -/

/-- An outcome is a next state of which `P` holds. -/
def Ends (P : State → Prop) (o : Outcome) : Prop := ∃ t, o = .next t ∧ P t

theorem answers_iff_ends (c : Instr) (s : State) (P : State → Prop) : Answers c s P ↔ Ends P (exec c s) := Iff.rfl

@[simp] theorem ends_next (P : State → Prop) (t : State) : Ends P (.next t) ↔ P t :=
  ⟨fun ⟨_, h, ht⟩ => by cases h; exact ht, fun h => ⟨t, rfl, h⟩⟩

theorem Ends.ite {P : State → Prop} {b : Prop} [Decidable b] {x y : Outcome} (hx : Ends P x) (hy : Ends P y) :
    Ends P (if b then x else y) := by
  split
  · exact hx
  · exact hy

/-- A command has one outcome, so what it ends in holds of any next state that it answers. -/
theorem Ends.of_eq {P : State → Prop} {o : Outcome} {t : State} (h : Ends P o) (ht : o = .next t) : P t := by
  subst ht
  exact (ends_next P t).1 h

theorem ite_next {b : Prop} [Decidable b] (x y : State) :
    (if b then (.next x : Outcome) else .next y) = .next (if b then x else y) := (apply_ite _ b x y).symm

/-! ### The units that a command changes -/

/-- Every unit of the part. -/
def PartUnit.all : List PartUnit :=
  [.energy, .calendar, .credit, .code, .switch, .tamper, .supervisor, .settings, .exchange, .engine, .report]

/-- The units that a grant of the arbiter can change. -/
def PartUnit.granted : List PartUnit := [.code, .exchange, .engine, .report]

/-- The units that a command can change; a notice alone is no change of the Exchange Unit here. -/
def Instr.changes : Instr → List PartUnit
  | .blockCompletion .. => [.energy]
  | .calibrationWriteNews _ => [.energy, .settings]
  | .energyHoldEntry => [.energy]
  | .conditionsUnqualifiedNews => [.tamper]
  | .energyWarmStart => [.energy]
  | .secondTick => [.calendar, .supervisor]
  | .friendlyFlagNews _ => [.credit]
  | .calendarWarmStart => [.calendar]
  | .setTime .. => [.calendar]
  | .newTArrival => [.credit]
  | .stagingCopyDone => PartUnit.granted
  | .tariffImageArrival .. => [.calendar]
  | .newTableArrival _ => [.credit]
  | .creditBlockResult _ => [.credit]
  | .creditSecond => [.credit]
  | .emergency _ => [.credit]
  | .topUpRequest _ => [.credit, .code]
  | .serviceStateNewsCredit _ => [.credit, .code, .settings]
  | .creditWarmStart => [.credit]
  | .enterCode .. => [.code]
  | .keyWriteNews => [.code, .settings]
  | .codeWarmStart => []
  | .reasonRequest .. => [.switch]
  | .consent _ => [.switch]
  | .disconnect _ => [.switch]
  | .permit _ => [.switch]
  | .coilReadingRequest _ => []
  | .coilReading _ => [.switch]
  | .driveEnd => [.switch]
  | .settleEnd => [.switch]
  | .loadSenseChange _ => [.switch]
  | .stuckRetry => [.switch]
  | .switchBlockResult _ => [.switch]
  | .trip _ => [.switch]
  | .switchSecond => [.switch]
  | .backoffExpiry => [.switch]
  | .closedTimeExpiry => [.switch]
  | .limitRequest _ => [.code, .switch]
  | .switchHoldEntry => [.switch]
  | .switchWarmStart => [.switch]
  | .lineChange .. => [.tamper]
  | .qualificationTimerExpiry _ => [.tamper]
  | .tamperSecond => [.energy, .tamper]
  | .magnetCountReached => [.energy, .tamper]
  | .tamperBlockResult _ => [.energy, .tamper]
  | .clearRequest _ => [.code, .tamper]
  | .clearTamper .. => [.tamper]
  | .actionMaskNews => [.tamper, .settings]
  | .serviceStateNewsTamper => [.code, .tamper, .settings]
  | .tamperHoldEntry => [.tamper]
  | .tamperWarmStart => [.energy, .tamper]
  | .selfTest .. => [.energy, .tamper]
  | .forcedTimerExpiry => [.energy, .tamper]
  | .injectionDeadline => [.energy, .tamper]
  | .tamperLinkReset => [.energy, .tamper]
  | .holdEntry _ => [.supervisor]
  | .holdReading _ => [.supervisor]
  | .coldStart _ => PartUnit.all
  | .warmStart _ => [.supervisor]
  | .supervisorBlockResult _ => [.supervisor]
  | .overVoltageSet _ => [.supervisor]
  | .overVoltageClear _ => [.supervisor]
  | .sagCountReached _ => [.supervisor]
  | .supervisorSecond .. => [.supervisor]
  | .backupReading .. => [.supervisor]
  | .writeSetting .. => [.settings]
  | .enterService _ => [.settings]
  | .releaseRequest => [.settings]
  | .settingsSecond => [.settings]
  | .periodicSweep => [.settings]
  | .warmStartSweep => [.settings]
  | .integrityTestRequest => [.tamper, .settings]
  | .settingsWarmStart => [.settings]
  | .readAscend _ => [.exchange]
  | .readDescend _ => [.exchange]
  | .readHold _ => [.exchange]
  | .readLineAscend _ => [.exchange]
  | .writeAscend _ => [.exchange]
  | .writeDescend _ => [.exchange]
  | .writeHold _ => [.exchange]
  | .writeLineAscend _ => [.exchange]
  | .invalidCommand .. => [.exchange]
  | .frameWhileClosed .. => [.exchange]
  | .accessGrant => PartUnit.granted
  | .post _ => [.engine]
  | .withdraw _ => [.engine]
  | .release _ => [.engine]
  | .noticeClear _ => [.exchange]
  | .noticeEnable _ => [.exchange]
  | .semaphoreTake _ => [.exchange]
  | .semaphoreGive .. => [.exchange]
  | .registerWriteOther .. => [.exchange]
  | .exchangeHoldEntry => [.exchange]
  | .exchangeWarmStart => [.exchange]
  | .answersWrittenNews => [.exchange]
  | .linkReset => [.exchange]
  | .linkrstnRelease => []
  | .slotCopyDone => PartUnit.granted
  | .ownerAnswer .. => [.engine]
  | .ownerPark _ => [.engine]
  | .relayStateReport .. => [.engine]
  | .answerComplete => PartUnit.granted
  | .stateByteWritten => PartUnit.granted
  | .engineHoldEntry => [.exchange, .engine]
  | .engineWarmStart => [.engine]
  | .engineLinkReset => [.exchange, .engine]
  | .entryArrival _ => [.report]
  | .entryHandling => PartUnit.granted
  | .entryWritten => PartUnit.granted
  | .reportHoldEntry => [.report]
  | .reportWarmStart => [.report]
  | .blockCompletionReport => [.code, .exchange, .report]
  | .publicationDue => [.code, .exchange, .report]
  | .mirrorFreedNews => [.code, .exchange, .report]
  | .publicationEnd => PartUnit.granted
  | .retentionLoss => PartUnit.all

/-- The Exchange Unit but for its notices. -/
def Exchange.mute (x : Exchange) : Exchange := { x with notices := 0 }

/-- Every unit that is not named stands as it stood, the Exchange Unit but for its notices; and so does the queue. -/
structure KeptBut (us : List PartUnit) (s t : State) : Prop where
  energy : .energy ∉ us → t.energy = s.energy
  calendar : .calendar ∉ us → t.calendar = s.calendar
  credit : .credit ∉ us → t.credit = s.credit
  code : .code ∉ us → t.code = s.code
  switch : .switch ∉ us → t.switch = s.switch
  tamper : .tamper ∉ us → t.tamper = s.tamper
  supply : .supervisor ∉ us → t.supply = s.supply
  settings : .settings ∉ us → t.settings = s.settings
  exchange : .exchange ∉ us → t.exchange.mute = s.exchange.mute
  engine : .engine ∉ us → t.engine = s.engine
  report : .report ∉ us → t.report = s.report
  pending : t.pending = s.pending

theorem KeptBut.refl (us : List PartUnit) (s : State) : KeptBut us s s := by constructor <;> simp

theorem KeptBut.ite {us : List PartUnit} {b : Prop} [Decidable b] {s x y : State} (hx : KeptBut us s x) (hy : KeptBut us s y) :
    KeptBut us s (if b then x else y) := by
  split
  · exact hx
  · exact hy

theorem Exchange.mute_eq_iff (x y : Exchange) : x.mute = y.mute ↔
    x.mem = y.mem ∧ x.link = y.link ∧ x.frame = y.frame ∧ x.ignoring = y.ignoring ∧ x.enable = y.enable ∧
      x.mirrorHolder = y.mirrorHolder ∧ x.stageHolder = y.stageHolder ∧ x.linkRequest = y.linkRequest ∧ x.hold = y.hold ∧
      x.answersTold = y.answersTold ∧ x.resetPending = y.resetPending ∧ x.miso = y.miso := by
  simp [Exchange.mute]

@[simp] theorem State.coldStart_pending (s : State) (cell : Nat) : (s.coldStart cell).pending = s.pending := by
  simp [State.coldStart, State.coldUnits]

@[simp] theorem State.loseRetention_pending (s : State) : s.loseRetention.pending = s.pending := rfl

/-- Every command answers a next state, in which the units that it cannot change stand as they stood. -/
theorem exec_keptBut (c : Instr) (s : State) : Ends (KeptBut (Instr.changes c) s) (exec c s) := by
  cases c
  all_goals simp only [exec, execBlockCompletion, execCalibrationWriteNews, execEnergyHoldEntry,
    execConditionsUnqualifiedNews, execEnergyWarmStart, execSecondTick, execFriendlyFlagNews, execCalendarWarmStart,
    execSetTime, execNewTArrival, execStagingCopyDone, execTariffImageArrival, execNewTableArrival, execCreditBlockResult,
    execCreditSecond, execEmergency, execTopUpRequest, execServiceStateNewsCredit, execCreditWarmStart, execEnterCode,
    execKeyWriteNews, execCodeWarmStart, execReasonRequest, execConsent, execDisconnect, execPermit, execCoilReadingRequest,
    execCoilReading, execDriveEnd, execSettleEnd, execLoadSenseChange, execStuckRetry, execSwitchBlockResult, execTrip,
    execSwitchSecond, execBackoffExpiry, execClosedTimeExpiry, execLimitRequest, execSwitchHoldEntry, execSwitchWarmStart,
    execLineChange, execQualificationTimerExpiry, execTamperSecond, execMagnetCountReached, execTamperBlockResult,
    execClearRequest, execClearTamper, execActionMaskNews, execServiceStateNewsTamper, execTamperHoldEntry,
    execTamperWarmStart, execSelfTest, execForcedTimerExpiry, execInjectionDeadline, execTamperLinkReset, execHoldEntry,
    execHoldReading, execColdStart, execWarmStart, execSupervisorBlockResult, execOverVoltageSet, execOverVoltageClear,
    execSagCountReached, execSupervisorSecond, execBackupReading, execWriteSetting, execEnterService, execReleaseRequest,
    execSettingsSecond, execPeriodicSweep, execWarmStartSweep, execIntegrityTestRequest, execSettingsWarmStart,
    execReadAscend, execReadDescend, execReadHold, execReadLineAscend, execWriteAscend, execWriteDescend, execWriteHold,
    execWriteLineAscend, execInvalidCommand, execFrameWhileClosed, execAccessGrant, execPost, execWithdraw, execRelease,
    execNoticeClear, execNoticeEnable, execSemaphoreTake, execSemaphoreGive, execRegisterWriteOther, execExchangeHoldEntry,
    execExchangeWarmStart, execAnswersWrittenNews, execLinkReset, execLinkrstnRelease, execSlotCopyDone, execOwnerAnswer,
    execOwnerPark, execRelayStateReport, execAnswerComplete, execStateByteWritten, execEngineHoldEntry, execEngineWarmStart,
    execEngineLinkReset, execEntryArrival, execEntryHandling, execEntryWritten, execReportHoldEntry, execReportWarmStart,
    execBlockCompletionReport, execPublicationDue, execMirrorFreedNews, execPublicationEnd, execRetentionLoss]
  all_goals repeat' split
  all_goals rw [ends_next]
  all_goals constructor
  all_goals simp [Instr.changes, PartUnit.granted, PartUnit.all, Exchange.mute_eq_iff]

/-! ### The obligations -/

/-- Settles O1: it is the definition of a step on a queue that is not empty. -/
theorem stepRunsFrontCommand : Obligations.StepRunsFrontCommand := fun _ _ _ => rfl

/-- Settles O3: no command's outcome is a stop, and none changes the queue. -/
theorem everyCommandAnswersNext : Obligations.EveryCommandAnswersNext := fun c s => by
  obtain ⟨t, ht, hkept⟩ := exec_keptBut c s
  exact ⟨t, ht, hkept.pending⟩


end Sys2Proof.Machine
end

section
/-! PROOFS. The exchange memory (09_exchange_memory_and_the_link.md): what stores leave and read back, the parts of the Exchange Unit that
no operation on a register or a semaphore touches, and the canonical form that every step keeps. -/

namespace Sys2Proof.Machine

/-! ### Stores -/

/-- A byte of a store reads as it was stored. -/
theorem Memory.read_writeFrom_same (bytes : List Byte) : ∀ (m : Memory) (a i : Nat) (v : Byte), Memory.wf m = true →
    bytes[i]? = some v → Memory.read (Memory.writeFrom m a bytes) (a + i) = v := by
  induction bytes with
  | nil => intro m a i v _ hv; simp at hv
  | cons b bytes ih =>
    intro m a i v hwf hv
    rw [Memory.writeFrom]
    cases i with
    | zero =>
      obtain rfl : b = v := by simpa using hv
      show Memory.read (Memory.writeFrom (Memory.write m a b) (a + 1) bytes) a = b
      rw [Memory.read_writeFrom_other bytes _ (a + 1) a (.inl (by omega))]
      exact Memory.read_write_same m a b hwf
    | succ i =>
      rw [show a + (i + 1) = a + 1 + i by omega]
      exact ih _ (a + 1) i v (Memory.write_wf m a b hwf) (by simpa using hv)

/-! ### What registers, semaphores and link resets leave of the Exchange Unit -/

@[simp] theorem Exchange.setHolder_frame (x : Exchange) (m : Semaphore) (h : Holder) :
    (x.setHolder m h).mem = x.mem ∧ (x.setHolder m h).link = x.link ∧ (x.setHolder m h).frame = x.frame ∧
      (x.setHolder m h).ignoring = x.ignoring ∧ (x.setHolder m h).notices = x.notices ∧ (x.setHolder m h).enable = x.enable ∧
      (x.setHolder m h).linkRequest = x.linkRequest ∧ (x.setHolder m h).hold = x.hold ∧
      (x.setHolder m h).answersTold = x.answersTold ∧ (x.setHolder m h).resetPending = x.resetPending ∧
      (x.setHolder m h).miso = x.miso := by
  cases m <;> simp [Exchange.setHolder]

@[simp] theorem Exchange.linkTake_frame (x : Exchange) (m : Semaphore) :
    (x.linkTake m).mem = x.mem ∧ (x.linkTake m).link = x.link ∧ (x.linkTake m).frame = x.frame ∧
      (x.linkTake m).ignoring = x.ignoring ∧ (x.linkTake m).notices = x.notices ∧ (x.linkTake m).enable = x.enable ∧
      (x.linkTake m).linkRequest = x.linkRequest ∧ (x.linkTake m).hold = x.hold ∧
      (x.linkTake m).answersTold = x.answersTold ∧ (x.linkTake m).resetPending = x.resetPending ∧
      (x.linkTake m).miso = x.miso := by
  unfold Exchange.linkTake
  split <;> simp

@[simp] theorem Exchange.readEffect_frame (x : Exchange) (a : Nat) :
    (x.readEffect a).mem = x.mem ∧ (x.readEffect a).link = x.link ∧ (x.readEffect a).frame = x.frame ∧
      (x.readEffect a).ignoring = x.ignoring ∧ (x.readEffect a).notices = x.notices ∧ (x.readEffect a).enable = x.enable ∧
      (x.readEffect a).linkRequest = x.linkRequest ∧ (x.readEffect a).hold = x.hold ∧
      (x.readEffect a).answersTold = x.answersTold ∧ (x.readEffect a).resetPending = x.resetPending ∧
      (x.readEffect a).miso = x.miso := by
  unfold Exchange.readEffect
  split <;> simp

/-- A byte shifted out moves the frame and shows the byte. -/
@[simp] theorem Exchange.shiftOut_frame (x : Exchange) (f : Frame) (b : Byte) :
    (x.shiftOut f b).mem = x.mem ∧ (x.shiftOut f b).link = x.link ∧
      (x.shiftOut f b).frame = some { f with address := f.walk.next f.address } ∧ (x.shiftOut f b).ignoring = x.ignoring ∧
      (x.shiftOut f b).linkRequest = x.linkRequest ∧ (x.shiftOut f b).hold = x.hold ∧
      (x.shiftOut f b).resetPending = x.resetPending ∧ (x.shiftOut f b).miso = x.miso ++ [b] :=
  ⟨rfl, rfl, rfl, rfl, rfl, rfl, rfl, rfl⟩

@[simp] theorem State.writeRegister_exchange_frame (s : State) (a : Nat) (v : Byte) :
    (s.writeRegister a v).exchange.mem = s.exchange.mem ∧ (s.writeRegister a v).exchange.link = s.exchange.link ∧
      (s.writeRegister a v).exchange.frame = s.exchange.frame ∧ (s.writeRegister a v).exchange.ignoring = s.exchange.ignoring ∧
      (s.writeRegister a v).exchange.linkRequest = s.exchange.linkRequest ∧
      (s.writeRegister a v).exchange.hold = s.exchange.hold ∧
      (s.writeRegister a v).exchange.answersTold = s.exchange.answersTold ∧
      (s.writeRegister a v).exchange.resetPending = s.exchange.resetPending ∧
      (s.writeRegister a v).exchange.miso = s.exchange.miso := by
  have hsem : ∀ m, (s.writeSemaphore m v).exchange = s.exchange ∨ (∃ h, (s.writeSemaphore m v).exchange = s.exchange.setHolder m h) ∨
      (s.writeSemaphore m v).exchange = (s.raise .link).exchange := by
    intro m
    unfold State.writeSemaphore State.linkGive
    split
    · exact .inr (.inr rfl)
    · split
      · exact .inl rfl
      · refine .inr (.inl ⟨.none, ?_⟩)
        dsimp only
        split <;> simp
      · exact .inr (.inr rfl)
  unfold State.writeRegister
  split
  case h_6 => rcases hsem .mirror with h | ⟨d, h⟩ | h <;> simp [h]
  case h_7 => rcases hsem .stage with h | ⟨d, h⟩ | h <;> simp [h]
  all_goals simp [Exchange.clearNotices]

@[simp] theorem State.resetLink_exchange_frame (s : State) :
    s.resetLink.exchange.mem = s.exchange.mem ∧ s.resetLink.exchange.link = s.exchange.link ∧ s.resetLink.exchange.frame = none ∧
      s.resetLink.exchange.ignoring = s.exchange.csnLow ∧ s.resetLink.exchange.linkRequest = none ∧
      s.resetLink.exchange.hold = s.exchange.hold ∧ s.resetLink.exchange.miso = s.exchange.miso := by
  unfold State.resetLink
  dsimp only
  split <;> simp [Exchange.dropFrame]

@[simp] theorem State.openLink_exchange_mem (s : State) : s.openLink.exchange.mem = s.exchange.mem := by
  unfold State.openLink
  dsimp only
  split <;> simp

@[simp] theorem State.tryOpen_exchange_mem (s : State) : s.tryOpen.exchange.mem = s.exchange.mem := by
  unfold State.tryOpen
  split <;> simp

/-! ### The canonical form -/

/-- The exchange memory stands in its canonical form. -/
def State.MemoryFormed (s : State) : Prop := Memory.wf s.exchange.mem = true

theorem State.MemoryFormed.of_mem {s t : State} (hs : s.MemoryFormed) (h : t.exchange.mem = s.exchange.mem) : t.MemoryFormed := by
  rwa [State.MemoryFormed, h]

theorem State.MemoryFormed.of_store {s t : State} (hs : s.MemoryFormed) {a : Nat} {bytes : List Byte}
    (h : t.exchange.mem = Memory.writeFrom s.exchange.mem a bytes) : t.MemoryFormed := by
  rw [State.MemoryFormed, h]
  exact Memory.writeFrom_wf bytes _ a hs

/-- A granted access of the link keeps the canonical form. -/
theorem State.MemoryFormed.linkAccess {s : State} (hs : s.MemoryFormed) : (s.onExchange Exchange.linkAccess).MemoryFormed := by
  simp only [State.MemoryFormed, State.onExchange_exchange, Exchange.linkAccess]
  split
  · exact hs
  · exact hs
  · exact Memory.writeAll_wf _ _ hs

/-- A granted access of the journal writer keeps the canonical form. -/
theorem State.MemoryFormed.journalAccess {s : State} (hs : s.MemoryFormed) : s.journalAccess.MemoryFormed := by
  unfold State.journalAccess
  split
  · exact hs
  · split
    · exact hs.of_mem (by simp)
    · unfold State.writeEntryAccess
      split
      · exact hs.of_store rfl
      · exact hs.of_store rfl
    · exact hs

/-- A granted access of the Order Engine keeps the canonical form. -/
theorem State.MemoryFormed.engineAccess {s : State} (hs : s.MemoryFormed) : s.engineAccess.MemoryFormed := by
  unfold State.engineAccess
  split
  · exact hs
  · exact hs.of_mem (by simp)
  · exact hs.of_mem (by simp)
  · refine State.MemoryFormed.of_mem ?_ (State.drained_frame _).2.2.2.2.2.2.2.2.2.2.2.1
    unfold State.answerAccess
    dsimp only
    split
    · exact hs.of_store rfl
    · exact hs.of_store (by simp; rfl)
  · exact hs.of_store (by simp [State.stateAccess]; rfl)

/-- A granted access of the publisher keeps the canonical form. -/
theorem State.MemoryFormed.publisherAccess {s : State} (hs : s.MemoryFormed) : s.publisherAccess.MemoryFormed := by
  unfold State.publisherAccess
  split
  · exact hs
  · dsimp only
    split
    · exact hs.of_store rfl
    · exact hs.of_store (by simp; rfl)

/-- A grant of the arbiter keeps the canonical form. -/
theorem State.MemoryFormed.grant {s : State} (hs : s.MemoryFormed) : s.grant.MemoryFormed := by
  unfold State.grant
  split
  · exact hs
  · exact hs.linkAccess
  · exact hs.journalAccess
  · exact hs.engineAccess
  · exact hs.publisherAccess

theorem State.MemoryFormed.requestLink {s : State} (hs : s.MemoryFormed) (a : LinkAccess) : (s.requestLink a).MemoryFormed :=
  State.MemoryFormed.grant (hs.of_mem rfl)

theorem State.MemoryFormed.readByte {s : State} (hs : s.MemoryFormed) (f : Frame) : (s.readByte f).MemoryFormed := by
  unfold State.readByte State.readMemoryByte
  dsimp only
  split
  · exact hs.of_mem (by simp)
  · split
    · exact hs.of_mem (by simp)
    · have ht : (if (f.fetchedByte f.address.toNat).isSome then s else s.requestLink (.fetch (f.address.toNat / 4))).MemoryFormed := by
        split
        · exact hs
        · exact hs.requestLink _
      split
      · exact ht
      · exact ht.of_mem rfl

theorem State.MemoryFormed.readBytes {s : State} (hs : s.MemoryFormed) (n : Nat) : (State.readBytes n s).MemoryFormed := by
  induction n generalizing s with
  | zero => exact hs
  | succ n ih =>
    unfold State.readBytes
    split
    · exact hs
    · exact ih (hs.readByte _)

theorem State.MemoryFormed.applyBytes {s : State} (hs : s.MemoryFormed) (cells : List Host.Cell) :
    (s.applyBytes cells).MemoryFormed := by
  have ht : (if cells.any fun c => decide (ownerOf c.1 = .part) then s.raise .link else s).MemoryFormed := by
    split
    · exact hs.of_mem rfl
    · exact hs
  unfold State.applyBytes
  dsimp only
  split
  · exact ht
  · exact ht.requestLink _

theorem State.MemoryFormed.applyGathered {s : State} (hs : s.MemoryFormed) : s.applyGathered.MemoryFormed := by
  unfold State.applyGathered
  split
  · exact hs
  · split
    · exact hs
    · exact hs
    · refine State.MemoryFormed.applyBytes ?_ _
      exact hs.of_mem rfl

theorem State.MemoryFormed.writeByte {s : State} (hs : s.MemoryFormed) (f : Frame) (v : Byte) : (s.writeByte f v).MemoryFormed := by
  unfold State.writeByte
  dsimp only
  split
  · exact hs.of_mem (by simp)
  · split
    · exact hs.of_mem (by simp)
    · exact State.MemoryFormed.applyGathered (hs.of_mem (by simp))

theorem State.MemoryFormed.writeBytes {s : State} (hs : s.MemoryFormed) (vs : List Byte) : (State.writeBytes vs s).MemoryFormed := by
  induction vs generalizing s with
  | nil => exact hs
  | cons v vs ih =>
    unfold State.writeBytes
    split
    · exact hs
    · exact ih (hs.writeByte _ _)

theorem State.MemoryFormed.endSegment {s : State} (hs : s.MemoryFormed) (last : Bool) : (s.endSegment last).MemoryFormed := by
  unfold State.endSegment
  split
  · exact hs.applyGathered.of_mem rfl
  · exact hs

theorem State.MemoryFormed.readFrame {s : State} (hs : s.MemoryFormed) (w : Walk) (g : ReadSegment) : (s.readFrame w g).MemoryFormed := by
  unfold State.readFrame
  repeat' split
  case h_1.isFalse.isTrue =>
    refine (State.MemoryFormed.readBytes ?_ _).endSegment _
    exact hs.of_mem rfl
  case h_3.isFalse.isTrue => exact (hs.readBytes _).endSegment _
  all_goals exact hs.of_mem rfl

theorem State.MemoryFormed.writeFrame {s : State} (hs : s.MemoryFormed) (w : Walk) (g : WriteSegment) :
    (s.writeFrame w g).MemoryFormed := by
  unfold State.writeFrame
  repeat' split
  case h_1.isFalse.isTrue =>
    refine (State.MemoryFormed.writeBytes ?_ _).endSegment _
    exact hs.of_mem rfl
  case h_3.isFalse.isTrue => exact (hs.writeBytes _).endSegment _
  all_goals exact hs.of_mem rfl

/-! ### The rows of frames and grants -/

/-- The rows that are one grant of the arbiter, in a case of their own or in every case. -/
def Instr.grantRows : List Instr :=
  [.accessGrant, .stagingCopyDone, .slotCopyDone, .answerComplete, .stateByteWritten, .entryHandling, .entryWritten, .publicationEnd]

/-- A row of a granted access grants it, or changes nothing (R173). -/
theorem exec_grantRow {c : Instr} (hc : c ∈ Instr.grantRows) (s : State) : exec c s = .next s ∨ exec c s = .next s.grant := by
  simp only [Instr.grantRows, List.mem_cons, List.not_mem_nil, or_false] at hc
  rcases hc with rfl | rfl | rfl | rfl | rfl | rfl | rfl | rfl
  all_goals simp only [exec, execAccessGrant, execStagingCopyDone, execSlotCopyDone, execAnswerComplete, execStateByteWritten,
    execEntryHandling, execEntryWritten, execPublicationEnd]
  all_goals repeat' split
  all_goals simp

@[simp] theorem exec_readRow (w : Walk) (g : ReadSegment) (s : State) : exec (readRow w g) s = .next (s.readFrame w g) := by
  cases w <;> rfl

@[simp] theorem exec_writeRow (w : Walk) (g : WriteSegment) (s : State) : exec (writeRow w g) s = .next (s.writeFrame w g) := by
  cases w <;> rfl

/-- What holds before and after a grant holds after a row of a granted access. -/
theorem ends_grantRow {P : State → Prop} {c : Instr} (hc : c ∈ Instr.grantRows) {s : State} (hs : P s) (hg : P s.grant) :
    Ends P (exec c s) := by
  rcases exec_grantRow hc s with h | h
  · exact ⟨_, h, hs⟩
  · exact ⟨_, h, hg⟩

theorem State.coldStart_memory (s : State) (cell : Nat) : (s.coldStart cell).exchange.mem = [] := by
  simp [State.coldStart, State.coldUnits, Exchange.coldFrom, Exchange.cold]

/-- A command that changes no more of the Exchange Unit than its notices keeps the memory. -/
theorem KeptBut.exchange_mem {us : List PartUnit} {s t : State} (h : KeptBut us s t) (hus : .exchange ∉ us) :
    t.exchange.mem = s.exchange.mem :=
  ((Exchange.mute_eq_iff _ _).1 (h.exchange hus)).1

/-- Every command keeps the canonical form. -/
theorem State.MemoryFormed.exec {s : State} (hs : s.MemoryFormed) (c : Instr) : Ends State.MemoryFormed (exec c s) := by
  by_cases hx : .exchange ∈ Instr.changes c
  case neg =>
    obtain ⟨t, ht, hkept⟩ := exec_keptBut c s
    exact ⟨t, ht, hs.of_mem (hkept.exchange_mem hx)⟩
  by_cases hg : c ∈ Instr.grantRows
  case pos => exact ends_grantRow hg hs hs.grant
  cases c <;> simp only [Instr.grantRows, Instr.changes, PartUnit.granted, List.mem_cons, List.not_mem_nil, reduceCtorEq,
    or_false, or_true, not_true, not_false_eq_true, or_self] at hx hg
  case readAscend g => exact (ends_next _ _).2 (hs.readFrame .ascend g)
  case readDescend g => exact (ends_next _ _).2 (hs.readFrame .descend g)
  case readHold g => exact (ends_next _ _).2 (hs.readFrame .hold g)
  case readLineAscend g => exact (ends_next _ _).2 (hs.readFrame .lineAscend g)
  case writeAscend g => exact (ends_next _ _).2 (hs.writeFrame .ascend g)
  case writeDescend g => exact (ends_next _ _).2 (hs.writeFrame .descend g)
  case writeHold g => exact (ends_next _ _).2 (hs.writeFrame .hold g)
  case writeLineAscend g => exact (ends_next _ _).2 (hs.writeFrame .lineAscend g)
  case coldStart cell =>
    refine Ends.ite ((ends_next _ _).2 hs) ((ends_next _ _).2 ?_)
    rw [State.MemoryFormed, State.coldStart_memory]
    rfl
  case retentionLoss => exact Ends.ite ((ends_next _ _).2 rfl) ((ends_next _ _).2 hs)
  all_goals
    simp only [Machine.exec, execInvalidCommand, execFrameWhileClosed, execNoticeClear, execNoticeEnable, execSemaphoreTake,
      execSemaphoreGive, execRegisterWriteOther, execExchangeHoldEntry, execExchangeWarmStart, execAnswersWrittenNews,
      execLinkReset, execEngineHoldEntry, execEngineLinkReset, execBlockCompletionReport, execPublicationDue,
      execMirrorFreedNews]
    repeat' split
    all_goals exact (ends_next _ _).2 (hs.of_mem (by simp [Exchange.emptyFrame, Exchange.floatBytes, Exchange.dropFrame]))

/-- A step is a command on the queue's rest, or a millisecond of the timers. -/
theorem step_cases {s t : State} (h : step s = .next t) :
    (s.pending = [] ∧ t = s.tickMs) ∨ ∃ c cs, s.pending = c :: cs ∧ exec c { s with pending := cs } = .next t := by
  unfold step at h
  split at h
  case h_1 hp => exact .inl ⟨hp, (Host.Outcome.next.inj h).symm⟩
  case h_2 c cs hp => exact .inr ⟨c, cs, hp, h⟩

/-- What every command and the timers keep, whatever waits in the queue, every step keeps. -/
theorem step_keeps {P : State → Prop} (hqueue : ∀ s cs, P s → P { s with pending := cs }) (htick : ∀ s, P s → P s.tickMs)
    (hexec : ∀ c s, P s → Ends P (exec c s)) {s t : State} (hs : P s) (h : step s = .next t) : P t := by
  rcases step_cases h with ⟨-, rfl⟩ | ⟨c, cs, -, hc⟩
  · exact htick s hs
  · exact (hexec c _ (hqueue s cs hs)).of_eq hc

/-! ### The obligation -/

/-- Settles O4: every command keeps the canonical form, and a store reads back byte by byte. -/
theorem stepKeepsMemoryFormAndStoresReadBack : Obligations.StepKeepsMemoryFormAndStoresReadBack := by
  refine ⟨fun s t hs => ?_, fun m a bytes hm => ⟨?_, fun b hb => ?_, fun i v hv => ?_⟩⟩
  · exact step_keeps (P := State.MemoryFormed) (fun _ _ h => h) (fun s h => h.of_mem (by simp)) (fun c _ h => h.exec c) hs
  · exact Memory.writeFrom_wf bytes m a hm
  · exact Memory.read_writeFrom_other bytes m a b hb
  · exact Memory.read_writeFrom_same bytes m a i v hm hv

end Sys2Proof.Machine
end

section
/-! PROOFS. The Switch Unit (05_supply_switch.md): its operations as equations over the part, in the words `relayArrives`, `operationStarts`
and `stuckJudged` of the statements. -/

namespace Sys2Proof.Machine

/-! ### The reason set -/

@[simp] theorem ReasonSet.isEmpty_iff (r : ReasonSet) : r.isEmpty = true ↔ r = ReasonSet.empty := by
  cases r
  simp [ReasonSet.isEmpty, ReasonSet.empty, and_assoc]

theorem ReasonSet.isEmpty_eq_false_iff (r : ReasonSet) : r.isEmpty = false ↔ r ≠ ReasonSet.empty := by
  rw [← Bool.not_eq_true, ReasonSet.isEmpty_iff]

/-- A set that holds a reason is not empty. -/
theorem ReasonSet.ne_empty_of_has {r : ReasonSet} {x : Reason} (h : r.has x = true) : r ≠ ReasonSet.empty := by
  rintro rfl
  cases x <;> exact absurd h (by decide)

@[simp] theorem ReasonSet.has_empty (x : Reason) : ReasonSet.empty.has x = false := by cases x <;> rfl

theorem ReasonSet.set_true_ne_empty (r : ReasonSet) (x : Reason) : r.set x true ≠ ReasonSet.empty :=
  ReasonSet.ne_empty_of_has (x := x) (by cases x <;> rfl)

theorem Reason.consents_eq (r : Reason) : Reason.consents r = decide (r = .credit ∨ r = .tamper ∨ r = .remote) := by
  cases r <;> rfl

/-! ### Arrivals, operations and STUCK -/

variable (s t : State)

theorem State.arrive_eq (st : RelayState) : s.arrive st = relayArrives s s.switch st := by
  unfold State.arrive relayArrives
  cases st <;> simp [State.onSwitch, State.journal, State.send, State.raise, State.onExchange, Notice.bit]

theorem State.startOp_eq (d : OpDirection) (origin : OpOrigin) : s.startOp d origin = operationStarts s s.switch d origin := by
  cases d <;> rfl

/-- The words of an arrival and of a start read the Switch Unit that they are given alone. -/
theorem relayArrives_onSwitch (f : Switch → Switch) (x : Switch) (st : RelayState) :
    relayArrives (s.onSwitch f) x st = relayArrives s x st := rfl

theorem operationStarts_onSwitch (f : Switch → Switch) (x : Switch) (d : OpDirection) (origin : OpOrigin) :
    operationStarts (s.onSwitch f) x d origin = operationStarts s x d origin := rfl

theorem stuckJudged_onSwitch (f : Switch → Switch) (x : Switch) : stuckJudged (s.onSwitch f) x = stuckJudged s x := rfl

theorem State.stuckCheck_of_stuck (h : s.switch.relay = .stuck) : s.stuckCheck = stuckJudged s s.switch := by
  unfold State.stuckCheck stuckJudged
  simp only [if_pos h, State.arrive_eq, ReasonSet.isEmpty_iff]

theorem State.stuckCheck_of_ne (h : s.switch.relay ≠ .stuck) : s.stuckCheck = s := if_neg h

/-- What R101 leaves in STUCK it leaves there again. -/
theorem stuckJudged_stuck {x : Switch} (h : (stuckJudged s x).switch.relay = .stuck) :
    stuckJudged s x = { s with switch := x } ∧ stuckJudged { s with switch := x } x = { s with switch := x } := by
  revert h
  unfold stuckJudged
  repeat' split
  all_goals simp [relayArrives]

theorem State.stuckCheck_stuckCheck : s.stuckCheck.stuckCheck = s.stuckCheck := by
  by_cases hrelay : s.switch.relay = .stuck
  case neg => rw [s.stuckCheck_of_ne hrelay, s.stuckCheck_of_ne hrelay]
  rw [s.stuckCheck_of_stuck hrelay]
  by_cases hagain : (stuckJudged s s.switch).switch.relay = .stuck
  case neg => exact State.stuckCheck_of_ne _ hagain
  obtain ⟨hstay, hjudge⟩ := stuckJudged_stuck s hagain
  rw [hstay] at hagain ⊢
  exact (State.stuckCheck_of_stuck _ hagain).trans hjudge

/-! ### Reasons added and removed (R89 to R92) -/

/-- The Switch Unit with a reason in its set, and with the consent-required flag of R90. -/
def Switch.withReason (x : Switch) (r : Reason) : Switch :=
  { x with reasons := x.reasons.set r true, consent := x.consent || decide (r = .credit ∨ r = .tamper ∨ r = .remote) }

/-- The Switch Unit with a reason out of its set. -/
def Switch.withoutReason (x : Switch) (r : Reason) : Switch := { x with reasons := x.reasons.set r false }

variable {s t} {r : Reason}

theorem State.addReason_of_has (h : s.switch.reasons.has r = true) : s.addReason r = s := if_pos h

theorem State.addReason_of_not_has (h : s.switch.reasons.has r = false) :
    s.addReason r = if s.switch.hold then s.onSwitch fun x => x.withReason r
      else if s.switch.reasons = ReasonSet.empty then (s.onSwitch fun x => x.withReason r).becameNonEmpty
      else (s.onSwitch fun x => x.withReason r).stuckCheck := by
  simp only [State.addReason, h, Reason.consents_eq, ReasonSet.isEmpty_iff]
  rfl

theorem State.removeReason_of_not_has (h : s.switch.reasons.has r = false) : s.removeReason r = s := by
  simp [State.removeReason, h]

theorem State.removeReason_of_has (h : s.switch.reasons.has r = true) :
    s.removeReason r = if s.switch.hold then s.onSwitch fun x => x.withoutReason r
      else if (s.switch.withoutReason r).reasons = ReasonSet.empty then (s.onSwitch fun x => x.withoutReason r).becameEmpty
      else (s.onSwitch fun x => x.withoutReason r).stuckCheck := by
  simp only [State.removeReason, h, State.onSwitch_switch, ReasonSet.isEmpty_iff]
  rfl

theorem State.openChoice_eq (s : State) :
    s.openChoice = if s.switch.consent then relayArrives s s.switch .ready else operationStarts s s.switch .closing .ordinary := by
  simp only [State.openChoice, State.arrive_eq, State.startOp_eq]

/-- What the addition of a reason to an empty set makes of the relay (R91). -/
theorem State.becameNonEmpty_eq (s : State) : s.becameNonEmpty = match s.switch.relay with
    | .closed => operationStarts s s.switch .opening .ordinary
    | .ready => relayArrives s s.switch .open
    | .closing => s.reverseClosing
    | .stuck => stuckJudged s s.switch
    | .opening => s
    | .open => s := by
  unfold State.becameNonEmpty
  cases h : s.switch.relay <;> simp only [State.startOp_eq, State.arrive_eq]
  exact s.stuckCheck_of_stuck h

/-- What the removal of the last reason makes of the relay (R92). -/
theorem State.becameEmpty_eq (s : State) : s.becameEmpty = match s.switch.relay with
    | .open => if s.switch.consent then relayArrives s s.switch .ready else operationStarts s s.switch .closing .ordinary
    | .stuck => stuckJudged s s.switch
    | .closed => s
    | .opening => s
    | .ready => s
    | .closing => s := by
  unfold State.becameEmpty
  cases h : s.switch.relay <;> simp only [State.openChoice_eq]
  exact s.stuckCheck_of_stuck h

/-- A closing met by a reason in DRIVE is marked; in another phase an opening replaces it (R91). -/
theorem State.reverseClosing_drive {o : Operation} {e n : Nat} (ho : s.switch.operation = some o) (hp : o.phase = .drive e n) :
    s.reverseClosing = s.onSwitch fun x => { x with operation := some { o with reverse := true } } := by
  simp [State.reverseClosing, ho, hp]

theorem State.reverseClosing_other {o : Operation} (ho : s.switch.operation = some o)
    (hp : o.phase = .coilWait ∨ ∃ e, o.phase = .settle e) : s.reverseClosing = operationStarts s s.switch .opening o.origin := by
  rcases hp with hp | ⟨e, hp⟩ <;> simp [State.reverseClosing, ho, hp, State.startOp_eq]

/-- A reason request that stands first in flight leaves what its add or its remove leaves. -/
theorem exec_reasonRequest_sent (base : State) (add : Bool) (r : Reason) :
    exec (.reasonRequest add r) { base with inFlight := .reasonRequest add r :: base.inFlight } =
      .next (if add then base.addReason r else base.removeReason r) := by
  simp [exec, execReasonRequest, State.took, Instr.sentForm]

theorem exec_reasonRequest (s : State) (add : Bool) (r : Reason) :
    exec (.reasonRequest add r) s = .next (if add then ({ s with inFlight := s.inFlight.erase (.reasonRequest add r) } : State).addReason r
      else ({ s with inFlight := s.inFlight.erase (.reasonRequest add r) } : State).removeReason r) := rfl

/-- The add of a reason in every relay state, of a part that has taken its arrival (R89 to R92, R101, R111). -/
theorem State.addReason_cases (b : State) (r : Reason) (h : b.switch.reasons.has r = false) :
    (b.switch.hold = true → b.addReason r = b.onSwitch fun x => x.withReason r) ∧
    (b.switch.hold = false → b.switch.reasons ≠ ReasonSet.empty → b.switch.relay ≠ .stuck →
      b.addReason r = b.onSwitch fun x => x.withReason r) ∧
    (b.switch.hold = false → b.switch.relay = .stuck → b.addReason r = stuckJudged b (b.switch.withReason r)) ∧
    (b.switch.hold = false → b.switch.reasons = ReasonSet.empty →
      b.addReason r = (b.onSwitch fun x => x.withReason r).becameNonEmpty) := by
  rw [State.addReason_of_not_has h]
  refine ⟨fun hh => by simp [hh], fun hh hne hns => ?_, fun hh hst => ?_, fun hh he => by simp [hh, he]⟩
  · rw [if_neg (by simp [hh]), if_neg hne]
    exact State.stuckCheck_of_ne (b.onSwitch fun x => x.withReason r) hns
  · rw [if_neg (by simp [hh])]
    split
    · rw [State.becameNonEmpty_eq]
      simp [hst, Switch.withReason, stuckJudged_onSwitch]
    · exact State.stuckCheck_of_stuck (b.onSwitch fun x => x.withReason r) hst

/-- The remove of a reason in every relay state, of a part that has taken its arrival (R89, R92, R101, R111). -/
theorem State.removeReason_cases (b : State) (r : Reason) (h : b.switch.reasons.has r = true) :
    (b.switch.hold = true → b.removeReason r = b.onSwitch fun x => x.withoutReason r) ∧
    (b.switch.hold = false → b.switch.relay = .stuck → b.removeReason r = stuckJudged b (b.switch.withoutReason r)) ∧
    (b.switch.hold = false → b.switch.relay ≠ .stuck →
      ((b.switch.withoutReason r).reasons ≠ ReasonSet.empty ∨ b.switch.relay ≠ .open →
        b.removeReason r = b.onSwitch fun x => x.withoutReason r) ∧
      ((b.switch.withoutReason r).reasons = ReasonSet.empty → b.switch.relay = .open →
        b.removeReason r = if b.switch.consent then relayArrives b (b.switch.withoutReason r) .ready
          else operationStarts b (b.switch.withoutReason r) .closing .ordinary)) := by
  rw [State.removeReason_of_has h]
  refine ⟨fun hh => by simp [hh], fun hh hst => ?_, fun hh hns => ⟨fun hor => ?_, fun he hopen => ?_⟩⟩
  · rw [if_neg (by simp [hh])]
    split
    · rw [State.becameEmpty_eq]
      simp [hst, Switch.withoutReason, stuckJudged_onSwitch]
    · exact State.stuckCheck_of_stuck (b.onSwitch fun x => x.withoutReason r) hst
  · rw [if_neg (by simp [hh])]
    split
    next he =>
      have hno := hor.resolve_left (fun hne => hne he)
      rw [State.becameEmpty_eq]
      cases hr : b.switch.relay <;> simp_all [Switch.withoutReason]
    next => exact State.stuckCheck_of_ne _ hns
  · rw [if_neg (by simp [hh]), if_pos he, State.becameEmpty_eq]
    simp only [State.onSwitch_switch, Switch.withoutReason, hopen]
    rfl

/-! ### The obligation -/

/-- Settles O26: the branches of the two operations of R89, relay state by relay state. -/
theorem reasonsAddedAndRemoved : Obligations.ReasonsAddedAndRemoved := by
  refine ⟨fun s base r x hbase hx => ?_, fun s base r x hbase hx => ?_⟩
  · have hexec : exec (.reasonRequest true r) s = .next (base.addReason r) := by rw [hbase]; rfl
    have hswitch : s.switch = base.switch := by rw [hbase]
    obtain rfl : x = s.switch.withReason r := hx
    rw [hexec, hswitch]
    refine ⟨fun h => ?_, fun h hh => ?_, fun h hh hne hns => ?_, fun h hh hst => ?_, fun hh he => ?_⟩
    · exact congrArg _ (State.addReason_of_has h)
    · exact congrArg _ ((State.addReason_cases _ r h).1 hh)
    · exact congrArg _ ((State.addReason_cases _ r h).2.1 hh hne hns)
    · exact congrArg _ ((State.addReason_cases _ r h).2.2.1 hh hst)
    · rw [(State.addReason_cases base r (by simp [he])).2.2.2 hh he, State.becameNonEmpty_eq]
      have hrelay : (base.onSwitch fun x => x.withReason r).switch.relay = base.switch.relay := rfl
      rw [hrelay]
      refine ⟨fun hr => by rw [hr]; rfl, fun hr => by rw [hr]; rfl, fun hr => ?_, fun o hr ho => ⟨fun e n hp => ?_, fun hp => ?_⟩⟩
      · rcases hr with hr | hr <;> rw [hr] <;> rfl
      · rw [hr]
        exact congrArg _ (State.reverseClosing_drive (s := base.onSwitch fun x => x.withReason r) ho hp)
      · rw [hr]
        exact congrArg _ (State.reverseClosing_other (s := base.onSwitch fun x => x.withReason r) ho hp)
  · have hexec : exec (.reasonRequest false r) s = .next (base.removeReason r) := by rw [hbase]; rfl
    have hswitch : s.switch = base.switch := by rw [hbase]
    obtain rfl : x = s.switch.withoutReason r := hx
    rw [hexec, hswitch]
    refine ⟨fun h => ?_, fun h hh => ?_, fun h hh hst => ?_, fun h hh hns => ?_⟩
    · exact congrArg _ (State.removeReason_of_not_has h)
    · exact congrArg _ ((State.removeReason_cases _ r h).1 hh)
    · exact congrArg _ ((State.removeReason_cases _ r h).2.1 hh hst)
    · obtain ⟨hstay, hleave⟩ := (State.removeReason_cases base r h).2.2 hh hns
      refine ⟨fun hor => congrArg _ (hstay hor), fun he ho hc => congrArg _ ((hleave he ho).trans (if_pos hc)), fun he ho hc => ?_⟩
      exact congrArg _ ((hleave he ho).trans (if_neg (by simp [hc])))

end Sys2Proof.Machine
end

section
/-! PROOFS. The orders of the Switch Unit, the phases of an operation, the power limit, the delivered seconds, and the unit's HOLD entry and
warm start (05_supply_switch.md). -/

namespace Sys2Proof.Machine

/-! ### Orders (R94, R108, R109) -/

theorem State.consentClosing_eq (s : State) :
    s.consentClosing = if s.switch.hold then s else operationStarts s s.switch .closing .ordinary := by
  simp only [State.consentClosing, State.startOp_eq]

/-- The addition of a reason leaves HOLD as it stands. -/
theorem State.addReason_hold (s : State) (r : Reason) (h : s.switch.hold = true) : (s.addReason r).switch.hold = true := by
  cases hhas : s.switch.reasons.has r
  · rw [(State.addReason_cases s r hhas).1 h]
    exact h
  · rwa [State.addReason_of_has hhas]

/-- The addition of a reason to a relay outside STUCK leaves it outside. -/
theorem State.addReason_relay_ne_stuck (s : State) (r : Reason) (h : s.switch.relay ≠ .stuck) :
    (s.addReason r).switch.relay ≠ .stuck := by
  cases hhas : s.switch.reasons.has r
  case true => rwa [State.addReason_of_has hhas]
  obtain ⟨hhold, hkeep, -, hempty⟩ := State.addReason_cases s r hhas
  cases hh : s.switch.hold
  case true =>
    rw [hhold hh]
    exact h
  by_cases he : s.switch.reasons = ReasonSet.empty
  case neg =>
    rw [hkeep hh he h]
    exact h
  rw [hempty hh he, State.becameNonEmpty_eq]
  cases hr : s.switch.relay <;> simp_all [Switch.withReason, operationStarts, relayArrives]
  unfold State.reverseClosing
  repeat' split
  all_goals simp_all [State.startOp_eq, operationStarts]

/-- R101 changes nothing after the addition of a reason that has judged it. -/
theorem State.stuckCheck_addReason (s : State) (r : Reason) (hh : s.switch.hold = false)
    (h : s.switch.relay ≠ .stuck ∨ s.switch.reasons.has r = false) : (s.addReason r).stuckCheck = s.addReason r := by
  by_cases hst : s.switch.relay = .stuck
  case neg => exact State.stuckCheck_of_ne _ (s.addReason_relay_ne_stuck r hst)
  have hhas := h.resolve_left fun hne => hne hst
  have hjudged : s.addReason r = (s.onSwitch fun x => x.withReason r).stuckCheck :=
    ((State.addReason_cases s r hhas).2.2.1 hh hst).trans
      (State.stuckCheck_of_stuck (s.onSwitch fun x => x.withReason r) hst).symm
  rw [hjudged, State.stuckCheck_stuckCheck]

/-- A DISCONNECT judges by R101 alone a part that stands in STUCK with REMOTE in its set (R108). -/
theorem State.takeDisconnect_of_judged (s : State) (order : OrderId)
    (h : s.switch.relay ≠ .stuck ∨ s.switch.hold = true ∨ s.switch.reasons.has .remote = false) :
    s.takeDisconnect order = (s.addReason .remote).disconnectReply order := by
  unfold State.takeDisconnect
  cases hh : s.switch.hold
  case true => simp [s.addReason_hold .remote hh]
  have hor := h.imp_right fun h => h.resolve_left (by simp [hh])
  simp [s.stuckCheck_addReason .remote hh hor]

/-- Settles O27: CONSENT by its three cases, DISCONNECT and PERMIT by the add and the remove of REMOTE. -/
theorem switchOrders : Obligations.SwitchOrders := by
  refine fun s order => ⟨fun base u hbase => ?_, fun base hbase => ?_, fun base hbase => ?_⟩
  · have hexec : exec (.consent order) s = .next (base.takeConsent order) := by rw [hbase]; rfl
    have hswitch : s.switch = base.switch := by rw [hbase]
    rw [hexec, hswitch]
    refine ⟨fun hready hu => ?_, fun x hopen hset hmode hx hu => ?_, fun hready hlocked => ?_⟩
    · rw [State.takeConsent, if_pos hready, hu, State.consentClosing_eq]
      rfl
    · have hlocked : base.switch.lockedOut = true := by simp [Switch.lockedOut, hopen, hset, hmode]
      rw [State.takeConsent, if_neg (by simp [hopen]), if_pos hlocked, hu, hx, State.consentClosing_eq]
      rfl
    · rw [State.takeConsent, if_neg hready, if_neg (by simpa [Switch.lockedOut, and_assoc] using hlocked)]
      rfl
  · have hexec : exec (.disconnect order) s = .next (base.takeDisconnect order) := by rw [hbase]; rfl
    have hswitch : s.switch = base.switch := by rw [hbase]
    rw [hexec, hswitch]
    refine ⟨base.addReason .remote, exec_reasonRequest_sent base true .remote, fun h => ?_, fun hst hh hhas => ?_⟩
    · rw [State.takeDisconnect_of_judged base order h]
      rfl
    · rw [State.takeDisconnect, State.addReason_of_has hhas, if_neg (by simp [hh]), State.stuckCheck_of_stuck _ hst, stuckJudged,
        if_neg (ReasonSet.ne_empty_of_has hhas)]
      split
      · simp [State.disconnectReply, hst]
        rfl
      · rfl
  · have hexec : exec (.permit order) s = .next (base.takePermit order) := by rw [hbase]; rfl
    exact ⟨base.removeReason .remote, exec_reasonRequest_sent base false .remote, hexec⟩

/-! ### The phases of an operation (R96 to R98) -/

theorem State.opFailed_eq (s : State) (o : Operation) (b : State)
    (hb : b = if o.origin = .ordinary then (s.journal (.relayFault o.direction s.switch.sensedClosed)).raise .fault else s) :
    s.opFailed o = stuckJudged (relayArrives b s.switch .stuck) (relayArrives b s.switch .stuck).switch := by
  unfold State.opFailed
  subst hb
  cases o.origin
  · show ((((s.journal _).raise .fault).arrive .stuck).stuckCheck) = _
    rw [State.arrive_eq, State.stuckCheck_of_stuck _ rfl]
    rfl
  · show (s.arrive .stuck).stuckCheck = _
    rw [State.arrive_eq, State.stuckCheck_of_stuck _ rfl]
    rfl

theorem State.opMatched_opening (s : State) : s.opMatched .opening =
    if s.switch.reasons ≠ ReasonSet.empty then relayArrives s s.switch .open
    else if s.switch.consent then relayArrives s s.switch .ready
    else operationStarts s s.switch .closing .ordinary := by
  simp only [State.opMatched, ReasonSet.isEmpty_iff, State.openChoice_eq, State.arrive_eq, ne_eq, ite_not]

/-- The comparison at the end of SETTLE (R98). -/
theorem State.endSettle_of_settle (s : State) {o : Operation} {e : Nat} (ho : s.switch.operation = some o) (hp : o.phase = .settle e) :
    s.endSettle = s.compareSettled o := by
  simp [State.endSettle, ho, hp]

/-- The end of SETTLE with an operation of which the sensed position is not the one that it drives to. -/
theorem State.compareSettled_of_ne (s : State) (o : Operation) (h : s.pins.loadSense = decide (o.direction = .opening)) :
    s.compareSettled o = if o.attempt < 2 then (s.onSwitch fun x => { x with sensedClosed := s.pins.loadSense }).retryOp o
      else (s.onSwitch fun x => { x with sensedClosed := s.pins.loadSense }).opFailed o := by
  unfold State.compareSettled
  cases hd : o.direction <;> simp [h, hd]

/-- Settles O28: each phase by its end, and a change of LOAD_SENSE by R101. -/
theorem operationPhasesAndLoadSense : Obligations.OperationPhasesAndLoadSense := by
  refine ⟨fun s o ho => ⟨fun cs base duty hbase hp hduty => ?_, fun cs hp => ?_, fun e n hp => ?_, fun hp => ?_, fun hp => ?_,
    fun e x hp hx => ?_⟩, fun s base level hbase => ?_⟩
  · have hexec : exec (.coilReading cs) s = .next (base.takeReading o cs) := by
      rw [hbase]
      exact congrArg Host.Outcome.next (by simp [State.coilTaken, State.took, ho, hp, Instr.sentForm])
    have hswitch : s.switch = base.switch := by rw [hbase]
    have hsetting : s.setting = base.setting := by rw [hbase]; rfl
    have hexchange : s.exchange = base.exchange := by rw [hbase]
    rw [hexec, hswitch, hsetting, hexchange]
    rw [hsetting] at hduty
    subst hduty
    refine ⟨fun hmin => ?_, fun hmin hw => ?_, fun hmin hw => ?_⟩
    · rw [State.takeReading, if_pos hmin]
      rfl
    · rw [State.takeReading, if_neg (by omega), if_pos hw]
    · rw [State.takeReading, if_neg (by omega), if_neg (by simp [hw])]
      rfl
  · refine congrArg Host.Outcome.next ?_
    rw [State.coilTaken]
    simp only [State.took_switch, ho]
    cases hphase : o.phase
    · exact absurd hphase hp
    · rfl
    · rfl
  · refine ⟨fun hrev => congrArg Host.Outcome.next ?_, fun hrev => congrArg Host.Outcome.next ?_⟩
    · simp [State.endDrive, ho, hp, hrev, State.onSwitch]
    · simp [State.endDrive, ho, hp, hrev, State.startOp_eq]
  · refine congrArg Host.Outcome.next ?_
    rw [State.endDrive]
    simp only [ho]
    cases hphase : o.phase
    · rfl
    · exact absurd hphase (hp _ _)
    · rfl
  · refine congrArg Host.Outcome.next ?_
    rw [State.endSettle]
    simp only [ho]
    cases hphase : o.phase
    · rfl
    · rfl
    · exact absurd hphase (hp _)
  · have hexec : exec .settleEnd s = .next (s.compareSettled o) := congrArg Host.Outcome.next (s.endSettle_of_settle ho hp)
    rw [hexec]
    subst hx
    refine ⟨fun hs hd => congrArg Host.Outcome.next ?_, fun hs hd => congrArg Host.Outcome.next ?_, fun hs ha => congrArg Host.Outcome.next ?_, fun hs ha stuck hstuck => congrArg Host.Outcome.next ?_⟩
    · rw [State.compareSettled]
      simp only [State.onSwitch_switch, hs, hd, decide_true, if_true, State.opMatched, State.arrive_eq, relayArrives_onSwitch]
    · rw [State.compareSettled]
      simp only [State.onSwitch_switch, hs, hd, reduceCtorEq, decide_false, if_true, State.opMatched_opening]
      rfl
    · rw [s.compareSettled_of_ne o hs, if_pos ha]
      rfl
    · rw [s.compareSettled_of_ne o hs, if_neg (by omega), hstuck]
      refine (State.opFailed_eq _ o _ rfl).trans ?_
      cases o.origin <;> rfl
  · have hexec : exec (.loadSenseChange level) s = .next (if base.switch.hold then base
        else (base.onSwitch fun x => { x with sensedClosed := level }).stuckCheck) := by rw [hbase]; rfl
    have hswitch : s.switch = base.switch := by rw [hbase]
    rw [hexec]
    refine ⟨fun hh => ?_, fun hh hns => ?_, fun hh hst => ?_, fun ho => ⟨?_, ?_, fun cs => ?_⟩⟩
    · rw [← hswitch, if_pos hh]
    · rw [hswitch] at hh hns ⊢
      rw [if_neg (by simp [hh])]
      exact congrArg Host.Outcome.next (State.stuckCheck_of_ne (base.onSwitch fun x => { x with sensedClosed := level }) hns)
    · rw [hswitch] at hh hst ⊢
      rw [if_neg (by simp [hh])]
      exact congrArg Host.Outcome.next (State.stuckCheck_of_stuck (base.onSwitch fun x => { x with sensedClosed := level }) hst)
    · exact congrArg Host.Outcome.next (by simp [State.endDrive, ho])
    · exact congrArg Host.Outcome.next (by simp [State.endSettle, ho])
    · exact congrArg Host.Outcome.next (by simp [State.coilTaken, ho]; rfl)

/-! ### The power limit (R103, R104, R107) -/

theorem State.trips_iff (s : State) (billed : Nat) : s.trips billed = true ↔ s.switch.relay = .closed ∧
    (s.switch.pLim ≠ 0 ∧ s.switch.pLim * 1250 < billed * 36) ∧ s.setting .limitHold ≤ min 240 (s.switch.limitRun + 1) := by
  simp [State.trips, limitTest, nextRun, and_assoc]

theorem State.testLimit_of_trips (s : State) (billed : Nat) (h : s.trips billed = true) : s.testLimit billed = s.trip billed := by
  rw [State.testLimit, if_pos ((s.trips_iff billed).1 h).1, if_pos h]

/-- A block that makes no trip changes the limit run alone (R103). -/
theorem State.testLimit_of_not_trips (s : State) (billed : Nat) (h : s.trips billed = false) :
    s.testLimit billed = s.onSwitch fun x => { x with
      limitRun := if x.relay = .closed ∧ x.pLim ≠ 0 ∧ x.pLim * 1250 < billed * 36 then min 240 (x.limitRun + 1) else 0 } := by
  unfold State.testLimit
  rw [h]
  by_cases hc : s.switch.relay = .closed
  · by_cases hl : s.switch.pLim ≠ 0 ∧ s.switch.pLim * 1250 < billed * 36
    all_goals simp [State.onSwitch, hc, nextRun, limitTest, hl]
  · simp [State.onSwitch, hc]

/-- The Switch Unit as a trip leaves it before it adds OVER_LIMIT (R104). -/
def Switch.tripped (x : Switch) (backoff : Nat) : Switch :=
  { x with
    limitRun := 0
    trips := min 3 (x.trips + 1)
    mode := if min 3 (x.trips + 1) < 3 then .backoff else .lockout
    backoff := if min 3 (x.trips + 1) < 3 then backoff else x.backoff
    consent := x.consent || decide (3 ≤ min 3 (x.trips + 1)) }

theorem State.trip_eq (s : State) (billed : Nat) :
    s.trip billed = ((s.onSwitch fun x => x.tripped (s.setting .limitBackoff)).addReason .overLimit).send
      (.entryArrival ⟨s.calendar.t, .overLimit (min 3 (s.switch.trips + 1)) (s.switch.tripped (s.setting .limitBackoff)).mode billed
        s.switch.pLim⟩) := by
  have ht : ((s.onSwitch fun x => x.tripped (s.setting .limitBackoff)).addReason .overLimit).calendar.t = s.calendar.t := by simp
  rw [← ht]
  rfl

/-- The end of an evaluation that an owner has carried out (R78). -/
theorem State.codeAccepted_eq (s : State) (balance : Int) : s.codeAccepted balance = codeAcceptedBy s balance := by
  have hrecord : ∀ (x : Code) (n : Nat), (x.record n).lockoutEnd = x.lockoutEnd := by
    intro x n
    unfold Code.record
    dsimp only
    split <;> rfl
  unfold State.codeAccepted codeAcceptedBy
  cases s.code.evaluation
  · rfl
  · simp [State.codeAnswer, State.answer, State.send, State.journal, State.onCode, hrecord]

/-- Settles O29: the limit test, the trip, and a limit request. -/
theorem powerLimit : Obligations.PowerLimit := by
  refine fun s r holds hholds => ⟨fun base hbase => ?_, fun watts base hbase => ?_⟩
  · have hexec : exec (.switchBlockResult r) s = .next (if base.switch.hold then base else base.testLimit r.billed) := by
      rw [hbase]; rfl
    have htrip : exec (.trip r) s = if !base.switch.hold && base.trips r.billed then .next (base.testLimit r.billed) else .next s := by
      rw [hbase]; rfl
    have hswitch : s.switch = base.switch := by rw [hbase]
    have hsetting : s.setting = base.setting := by rw [hbase]; rfl
    have hcalendar : s.calendar = base.calendar := by rw [hbase]
    rw [hswitch] at hholds
    have htrips := (base.trips_iff r.billed).trans (and_congr_right' (and_congr_left' hholds.symm))
    rw [hswitch, hsetting, hcalendar]
    refine ⟨fun hh => ?_, fun hh hc => ?_, fun hh hc hl => ?_, fun hh hc hl hrun => ?_, fun hno => ?_,
      fun c x n hcmd hh hc hl hrun hn hx => ?_⟩
    · rw [hexec, if_pos hh]
    · rw [hexec, if_neg (by simp [hh]), State.testLimit_of_not_trips _ _ (by simp [← Bool.not_eq_true, htrips, hc])]
      simp [State.onSwitch, hc]
    · rw [hexec, if_neg (by simp [hh]), State.testLimit_of_not_trips _ _ (by simp [← Bool.not_eq_true, htrips, hl])]
      rw [hholds] at hl
      simp [State.onSwitch, hc, hl]
    · rw [hexec, if_neg (by simp [hh]), State.testLimit_of_not_trips _ _
        (by rw [← Bool.not_eq_true, htrips]; exact fun h => absurd h.2.2 (by omega))]
      rw [hholds] at hl
      simp [State.onSwitch, hc, hl]
    · rw [htrip, if_neg]
      simpa [htrips, and_assoc] using hno
    · have htrue : base.trips r.billed = true := htrips.2 ⟨hc, hl, hrun⟩
      refine ⟨({ base with switch := x } : State).addReason .overLimit, exec_reasonRequest_sent { base with switch := x } true .overLimit, ?_⟩
      have hc' : exec c s = .next (base.trip r.billed) := by
        rcases hcmd with rfl | rfl
        · rw [hexec, if_neg (by simp [hh]), base.testLimit_of_trips _ htrue]
        · rw [htrip, if_pos (by simp [hh, htrue]), base.testLimit_of_trips _ htrue]
      subst hn hx
      rw [hc', State.trip_eq]
      rfl
  · have hexec : exec (.limitRequest watts) s =
        .next ((base.removeReason .overLimit).codeAccepted (base.removeReason .overLimit).credit.c) := by rw [hbase]; rfl
    refine ⟨base.removeReason .overLimit, exec_reasonRequest_sent base false .overLimit, ?_⟩
    rw [hexec, State.codeAccepted_eq]

/-! ### Delivered seconds (R102, R105, R106) -/

theorem State.stuckSecond_eq (s : State) : s.stuckSecond = stuckSecondPasses s := by
  unfold State.stuckSecond stuckSecondPasses State.stuckRetryTime
  simp only [ReasonSet.isEmpty_iff, State.startOp_eq, ne_eq, ite_not, State.onSwitch_switch, operationStarts_onSwitch]
  rfl

theorem State.switchTick_eq (s : State) : s.switchTick =
    if s.switch.relay = .closed ∧ s.backoffSecond.switch.relay = .closed then closedSecondPasses s.backoffSecond
    else if s.switch.relay = .stuck ∧ s.backoffSecond.switch.relay = .stuck then stuckSecondPasses s.backoffSecond
    else s.backoffSecond := by
  simp only [State.switchTick, State.stuckSecond_eq]
  rfl

/-- Settles O30: the back-off of a second, then the closed time or the STUCK wait. -/
theorem switchSeconds : Obligations.SwitchSeconds := by
  intro s base c backoffEnds closedEnds retryDue hbase hback hclosed hretry
  have hsecond : exec .switchSecond s = .next (if base.switch.hold then base else base.switchTick) := by rw [hbase]; rfl
  have hexpiry : exec .backoffExpiry s = if s.switch.hold = false ∧ s.switch.mode = .backoff ∧ s.switch.backoff ≤ 1 then
      .next base.switchTick else .next s := by rw [hbase]; rfl
  have htime : exec .closedTimeExpiry s = if s.switch.hold = false ∧ s.switch.relay = .closed ∧ s.switch.closedTime + 1 = 600 then
      .next base.switchTick else .next s := by rw [hbase]; rfl
  have hstuck : exec .stuckRetry s = if s.switch.hold = false ∧ s.switch.relay = .stuck ∧ 300 ≤ s.switch.stuckWait + 1 then
      .next base.switchTick else .next s := by rw [hbase]; rfl
  have hswitch : s.switch = base.switch := by rw [hbase]
  rw [hswitch] at hback hclosed hretry hexpiry htime hstuck ⊢
  refine ⟨fun hh => ?_, fun h => ?_, fun h => ?_, fun h => ?_, fun hh hcmd => ⟨base.backoffSecond, ?_, ?_, ?_, ?_⟩⟩
  · rw [hsecond, if_pos hh]
  · rw [hexpiry, if_neg (by rw [← hback]; rcases h with h | h <;> simp [h])]
  · rw [htime, if_neg (by rw [← hclosed]; rcases h with h | h <;> simp [h])]
  · rw [hstuck, if_neg (by rw [← hretry]; rcases h with h | h <;> simp [h])]
  · exact fun hm => if_neg hm
  · exact fun hm hb => (if_pos hm).trans (if_neg (by omega))
  · intro he
    have hends := hback.1 he
    rw [State.backoffSecond, if_pos hends.1, if_pos hends.2]
    exact exec_reasonRequest_sent ({ base with switch := { base.switch with backoff := 0, mode := .none } } : State) false .overLimit
  · rw [← State.switchTick_eq]
    rcases hcmd with rfl | ⟨rfl, he⟩ | ⟨rfl, he⟩ | ⟨rfl, he⟩
    · rw [hsecond, if_neg (by simp [hh])]
    · rw [hexpiry, if_pos ⟨hh, hback.1 he⟩]
    · rw [htime, if_pos ⟨hh, hclosed.1 he⟩]
    · rw [hstuck, if_pos ⟨hh, hretry.1 he⟩]

/-! ### The HOLD entry and the warm start (R111, R112) -/

/-- What stood before the first HOLD entry is filtered, and the entry itself taken (R136). -/
theorem erase_discardBefore {stop : Instr} {drop : Instr → Bool} {before after : List Instr} (h : stop ∉ before) :
    (discardBefore stop drop (before ++ stop :: after)).erase stop = (before.filter fun c => !drop c) ++ after := by
  have hfilter : stop ∉ before.filter fun c => !drop c := fun hmem => h (List.mem_of_mem_filter hmem)
  rw [discardBefore_append stop drop before after h, List.erase_append_right _ hfilter, List.erase_cons_head]

theorem State.resense_eq (s : State) (x : Switch) (hx : x = { s.switch with hold := false, sensedClosed := s.pins.loadSense }) :
    s.resense = if s.pins.loadSense then
        if s.switch.reasons = ReasonSet.empty then relayArrives s x .closed else operationStarts s x .opening .ordinary
      else if s.switch.reasons ≠ ReasonSet.empty then relayArrives s x .open
      else if s.switch.consent then relayArrives s x .ready
      else operationStarts s x .closing .ordinary := by
  subst hx
  unfold State.resense
  simp only [ReasonSet.isEmpty_iff, State.arrive_eq, State.startOp_eq, State.openChoice_eq, ne_eq, ite_not, State.onSwitch_switch,
    relayArrives_onSwitch, operationStarts_onSwitch]
  rfl

/-- Settles O31: the HOLD entry with what it drops, and the re-sense. -/
theorem switchHoldAndWarmStart : Obligations.SwitchHoldAndWarmStart := by
  refine fun s => ⟨⟨_, rfl, ?_, rfl, fun before after hflight hbefore => ?_⟩, fun base x hbase hx => ?_⟩
  · simp [OnlyChanges]
  · simp only [State.onSwitch_inFlight, State.took, State.dropStale, Instr.sentForm, hflight, erase_discardBefore hbefore]
    congr 1
    · funext c
      cases c <;> rfl
    · congr 2
      funext c
      cases c <;> rfl
  · have hexec : exec .switchWarmStart s = .next base.resense := by rw [hbase]; rfl
    have hswitch : s.switch = base.switch := by rw [hbase]
    have hpins : s.pins = base.pins := by rw [hbase]
    rw [hexec, hswitch, hpins]
    rw [hswitch, hpins] at hx
    rw [base.resense_eq x hx]

end Sys2Proof.Machine
end

section
/-! PROOFS. The Code Unit (04_top_up_codes.md): the history of codes, the check, the evaluation of a code, and what waits for it. -/

namespace Sys2Proof.Machine

/-! ### The history of codes (R82, R83) -/

/-- Recording a serial touches the list and the floor alone. -/
theorem Code.record_rest (x : Code) (n : Nat) : x.record n = { x with used := (x.record n).used, floor := (x.record n).floor } := by
  unfold Code.record
  dsimp only
  split <;> rfl

@[simp] theorem Code.record_frame (x : Code) (n : Nat) : (x.record n).failures = x.failures ∧
    (x.record n).lockoutEnd = x.lockoutEnd ∧ (x.record n).evaluation = x.evaluation := by
  rw [Code.record_rest]
  exact ⟨rfl, rfl, rfl⟩

theorem Code.record_of_lt {x : Code} {n : Nat} (h : x.used.length < 32) : x.record n = { x with used := insertSerial n x.used } := by
  have hle : (insertSerial n x.used).length ≤ Config.usedCapacity := by
    rw [length_insertSerial]
    exact h
  exact if_pos hle

/-- The 33 serials of which the smallest leaves the list. -/
theorem Code.record_of_eq {x : Code} {n : Nat} (h : x.used.length = 32) : ∃ m l, insertSerial n x.used = m :: l ∧
    x.record n = { x with used := l, floor := m } := by
  have hlen : (insertSerial n x.used).length = 33 := by rw [length_insertSerial, h]
  match hi : insertSerial n x.used with
  | [] => simp [hi] at hlen
  | m :: l =>
    refine ⟨m, l, rfl, ?_⟩
    have hgt : ¬(insertSerial n x.used).length ≤ Config.usedCapacity := by
      rw [hlen]
      decide
    refine (if_neg hgt).trans ?_
    simp [hi]

/-- What recording an unused serial makes of an ordered history (R82). -/
theorem Code.serialRecorded {x : Code} {n : Nat} (hx : HistoryOrdered x) (hn : n ∉ x.used) : SerialRecorded x n (x.record n) := by
  have hsorted := pairwise_insertSerial n x.used hx.ascending hn
  rcases Nat.lt_or_eq_of_le hx.length with hlt | heq
  · rw [Code.record_of_lt hlt]
    refine ⟨fun _ => ⟨rfl, fun k => mem_insertSerial n k x.used⟩, fun h => by omega, hsorted, ?_, rfl⟩
    show (insertSerial n x.used).length = _
    rw [length_insertSerial]
    omega
  · obtain ⟨m, l, hi, hr⟩ := Code.record_of_eq (n := n) heq
    rw [hi] at hsorted
    obtain ⟨hleast, hl⟩ := List.pairwise_cons.1 hsorted
    have hmem : ∀ k, k = n ∨ k ∈ x.used ↔ k = m ∨ k ∈ l := fun k => by rw [← mem_insertSerial, hi, List.mem_cons]
    have hle : ∀ k, k = n ∨ k ∈ x.used → m ≤ k := fun k hk => by
      rcases (hmem k).1 hk with rfl | hk
      · exact le_rfl
      · exact (hleast k hk).le
    rw [hr]
    refine ⟨fun h => by omega, fun _ => ⟨(hmem m).2 (.inl rfl), hle n (.inl rfl), fun k hk => hle k (.inr hk), fun k => ?_⟩, hl, ?_, rfl⟩
    · rw [hmem k]
      exact ⟨fun hk => ⟨.inr hk, (hleast k hk).ne'⟩, fun ⟨hk, hne⟩ => hk.resolve_left hne⟩
    · have hlen := congrArg List.length hi
      rw [length_insertSerial, List.length_cons] at hlen
      show l.length = _
      omega

/-- An ordered history stays in order when a serial above the floor joins it. -/
theorem SerialRecorded.ordered {x y : Code} {n : Nat} (hx : HistoryOrdered x) (h : SerialRecorded x n y) (hfloor : x.floor < n)
    (hev : x.evaluation = none) : HistoryOrdered y := by
  refine ⟨by rw [h.length]; omega, h.ascending, fun k hk => ?_, fun ev hy => ?_⟩
  · rcases Nat.lt_or_eq_of_le hx.length with hlt | heq
    · obtain ⟨hf, hmem⟩ := h.joins hlt
      rw [hf]
      rcases (hmem k).1 hk with rfl | hk
      · exact hfloor
      · exact hx.above k hk
    · obtain ⟨-, hserial, hleast, hmem⟩ := h.evicts heq
      obtain ⟨hk, hne⟩ := (hmem k).1 hk
      refine lt_of_le_of_ne ?_ (Ne.symm hne)
      rcases hk with rfl | hk
      · exact hserial
      · exact hleast k hk
  · rw [h.rest] at hy
    simp [hev] at hy

/-! ### The check of R70 -/

theorem crc16_append (bytes : List Byte) (b : Byte) : crc16 (bytes ++ [b]) = crcByte (crc16 bytes) b := by
  simp [crc16]

/-- The check's register before each bit of a byte (R70). -/
def crcRegister (r : BitVec 16) (b : Byte) (k : Nat) : BitVec 16 :=
  (([7, 6, 5, 4, 3, 2, 1, 0].take k).foldl (fun r i => crcBit r (b.getLsbD i)) r)

theorem crcBit_eq (r : BitVec 16) (bit : Bool) : crcBit r bit = if r.msb = bit then r <<< 1 else (r <<< 1) ^^^ 0x1021#16 := by
  unfold crcBit
  by_cases h : r.msb = bit <;> simp [h]

/-- Bits are taken from the most significant. -/
theorem crcRegister_succ (r : BitVec 16) (b : Byte) {k : Nat} (hk : k < 8) :
    crcRegister r b (k + 1) = crcBit (crcRegister r b k) (b.getLsbD (7 - k)) := by
  have hlist : [7, 6, 5, 4, 3, 2, 1, 0].take (k + 1) = [7, 6, 5, 4, 3, 2, 1, 0].take k ++ [7 - k] := by
    interval_cases k <;> rfl
  simp only [crcRegister, hlist, List.foldl_append, List.foldl_cons, List.foldl_nil]

theorem beBytes_numberAt (n v : Nat) : numberAt (beBytes n v) 0 n = v % 256 ^ n :=
  numberAt_of_bytes _ 0 n v fun k hk => by rw [Nat.zero_add, beBytes_getD n v k hk]

/-! ### The evaluation of a code (R67 to R78) -/

section
variable (s : State) (order : OrderId) (digits : List Byte)

/-- A code is taken while no evaluation waits, and evaluated in RUN while no HOLD entry is on its way to the engine. -/
theorem exec_enterCode :
    (s.code.evaluation ≠ none → exec (.enterCode order digits) s = .next s) ∧
    (s.code.evaluation = none → s.supply.power = .hold ∨ .engineHoldEntry ∈ s.inFlight →
      exec (.enterCode order digits) s = .next (s.took (.enterCode order digits))) ∧
    (s.code.evaluation = none → s.supply.power = .run → .engineHoldEntry ∉ s.inFlight →
      exec (.enterCode order digits) s = .next ((s.took (.enterCode order digits)).evaluateCode order digits)) := by
  have hexec : exec (.enterCode order digits) s = if s.code.evaluation.isSome then .next s
      else .next (if (s.took (.enterCode order digits)).takesRunOrders then (s.took (.enterCode order digits)).evaluateCode order digits
        else s.took (.enterCode order digits)) := rfl
  rw [hexec, State.took_takesRunOrders _ _ (by simp [Instr.sentForm])]
  refine ⟨fun h => if_pos (Option.isSome_iff_ne_none.2 h), fun h hor => ?_, fun h hrun hno => ?_⟩
  · rw [if_neg (by simp [h]), if_neg]
    rw [State.takesRunOrders_iff]
    rintro ⟨hrun, hno⟩
    rcases hor with hhold | hin
    · simp [hrun] at hhold
    · exact hno hin
  · rw [if_neg (by simp [h]), if_pos ((State.takesRunOrders_iff s).2 ⟨hrun, hno⟩)]

/-- A code that a lockout meets (R72). -/
theorem State.evaluateCode_lockedOut {e : Nat} (he : s.code.lockoutEnd = some e) (ht : s.calendar.t < e) :
    s.evaluateCode order digits = { s with
      code := { s.code with lockoutEnd := some (min e (s.calendar.t + 600)) }
      inFlight := s.inFlight ++
        [.ownerAnswer order .ok (.code .lockedOut 0 0 0 s.credit.c (min (e - s.calendar.t) 600))] } := by
  have hsettled : settledLockout (some e) s.calendar.t = some (min e (s.calendar.t + 600)) := if_neg (by omega)
  simp only [State.evaluateCode, State.onCode, he, hsettled, Option.isSome_some, if_true, State.codeAnswer, State.answer, State.send,
    lockoutRemaining, Config.lockoutSeconds]
  rw [show min (min e (s.calendar.t + 600) - s.calendar.t) 600 = min (e - s.calendar.t) 600 by omega]

/-- Without a lockout that runs, the digits are tested, then the code is judged (R68, R71). -/
theorem State.evaluateCode_unlocked (h : ∀ e, s.code.lockoutEnd = some e → e ≤ s.calendar.t) :
    s.evaluateCode order digits =
      if digits.any fun d => decide (9 < d.toNat) then
        (s.onCode fun x => { x with lockoutEnd := none }).codeAnswer order .malformed 0 0 0 s.credit.c
      else (s.onCode fun x => { x with lockoutEnd := none }).judgeCode order (decimalValue digits) := by
  have hsettled : settledLockout s.code.lockoutEnd s.calendar.t = none := by
    unfold settledLockout
    split
    · rfl
    next e he => exact if_pos (h e he)
  simp only [State.evaluateCode, State.onCode, hsettled, Option.isSome_none, Bool.false_eq_true, if_false]

end

/-- Settles O24: a code by the first two steps of its evaluation, and the arrivals that keep or empty the history. -/
theorem codeLockedOutMalformedOrHistoryKept : Obligations.CodeLockedOutMalformedOrHistoryKept := by
  refine ⟨fun s order digits => ?_, fun s => ⟨fun h => ?_, fun h hw => ?_, rfl⟩⟩
  · obtain ⟨hwaits, hhold, hrun⟩ := exec_enterCode s order digits
    refine ⟨hwaits, hhold, fun e hev hpow hno he ht => ?_, fun hev hpow hno hl hd => ?_⟩
    · rw [hrun hev hpow hno, State.evaluateCode_lockedOut (s.took (.enterCode order digits)) order digits he ht]
      rfl
    · rw [hrun hev hpow hno, State.evaluateCode_unlocked (s.took (.enterCode order digits)) order digits hl, if_pos (by simpa using hd)]
      rfl
  · exact if_pos (Option.isSome_iff_ne_none.2 h)
  · refine (if_neg (by simp [h])).trans (congrArg Host.Outcome.next ?_)
    simp only [State.writeNewsTaken, State.onCode_settings, State.took_settings, hw]
    rfl

/-- The refusal of steps 3 to 8, with the class's own validation written out (R71, R76). -/
theorem State.codeRefusal_eq (s : State) (n : Nat) : s.codeRefusal n =
    if s.settings.fault = true ∨ s.settings.keySet = false then some .keyFault
    else if crc16 (beBytes 8 (n / 2 ^ 16) ++ beBytes 8 (s.setting .meterKey)) ≠ BitVec.ofNat 16 n then some .badCheck
    else if n / 2 ^ 16 % 2 ^ 16 ≠ s.setting .meterNumber % 65536 then some .wrongMeter
    else if 3 < codeClass n then some .unknownClass
    else if codeSerial n ≤ s.code.floor ∨ codeSerial n ∈ s.code.used then some .used
    else if codeClass n = 0 ∧ codeAmount n = 0 then some .invalidAmount
    else if codeClass n = 1 ∧ 65535 < codeAmount n then some .invalidAmount
    else if codeClass n = 2 ∧ (codeAmount n = 0 ∨ 63 < codeAmount n) then some .invalidAmount
    else if codeClass n = 3 ∧ codeAmount n ≠ 0 then some .invalidAmount
    else if codeClass n = 3 ∧ s.settings.service = .commissioning then some .wrongState
    else none := by
  unfold State.codeRefusal expectedCheck codeCheck codeTag
  refine if_congr (by simp) rfl (if_congr Iff.rfl rfl (if_congr Iff.rfl rfl ?_))
  by_cases hclass : 3 < codeClass n
  · rw [if_pos hclass, if_pos hclass]
  rw [if_neg hclass, if_neg hclass]
  refine if_congr Iff.rfl rfl ?_
  have hcases : codeClass n = 0 ∨ codeClass n = 1 ∨ codeClass n = 2 ∨ codeClass n = 3 := by omega
  rcases hcases with h | h | h | h <;> simp [h, classRefusal]

/-- The request of a class that R76 lets pass. -/
theorem classRequest_eq (cls amount : Nat) : classRequest cls amount =
    if cls = 0 then .topUpRequest amount else if cls = 1 then .limitRequest amount
    else if cls = 2 then .clearRequest (BitVec.ofNat 6 amount) else .releaseRequest := by
  match cls with
  | 0 => rfl
  | 1 => rfl
  | 2 => rfl
  | _ + 3 => simp [classRequest]

/-- A refusal without a lockout, and its count (R85, R86). -/
theorem State.judgeCode_some (s : State) (order : OrderId) {n : Nat} {r : CodeOutcome} (hr : s.codeRefusal n = some r) :
    s.judgeCode order n = (if r = .badCheck ∨ r = .wrongMeter then s.countFailure r else s).codeAnswer order r
      (codeClass n) (codeSerial n) (codeAmount n) s.credit.c := by
  simp only [State.judgeCode, hr]

theorem State.judgeCode_none (s : State) (order : OrderId) {n : Nat} (hr : s.codeRefusal n = none) :
    s.judgeCode order n =
      (s.onCode fun x => { x with evaluation := some ⟨order, codeClass n, codeSerial n, codeAmount n⟩ }).send
        (classRequest (codeClass n) (codeAmount n)) := by
  simp only [State.judgeCode, hr]

/-- A failure is counted, and the fifth starts a lockout (R85). -/
theorem State.countFailure_early (s : State) (r : CodeOutcome) (h : s.code.failures < 4) :
    s.countFailure r = s.onCode fun x => { x with failures := x.failures + 1 } := if_pos (Nat.succ_lt_succ h)

theorem State.countFailure_fifth (s : State) (r : CodeOutcome) {stop : Nat} (h : 4 ≤ s.code.failures)
    (hstop : stop = min (s.calendar.t + 600) 4294967295) :
    s.countFailure r = (s.onCode fun x => { x with failures := 0, lockoutEnd := some stop }).journal (.lockout r stop) := by
  have hfifth : ¬s.code.failures + 1 < Config.failureLimit := Nat.not_lt.2 (Nat.succ_le_succ h)
  simp only [State.countFailure, if_neg hfifth, Config.lockoutSeconds, Config.timeMax, ← hstop]

/-- Settles O25: the check bit by bit, then a code by its first failing step. -/
theorem codeEvaluated : Obligations.CodeEvaluated := by
  refine ⟨fun n v => ⟨beBytes_length n v, beBytes_numberAt n v⟩, rfl, fun bytes b => ?_, ?_⟩
  · refine ⟨crcRegister (crc16 bytes) b, rfl, (crc16_append bytes b).symm, fun k hk => ?_⟩
    rw [crcRegister_succ _ _ hk, crcBit_eq]
  intro s order digits n cls serial amount o hev hpow hno hl hd hn hcls hserial hamount ho
  obtain ⟨-, -, hrun⟩ := exec_enterCode s order digits
  subst hcls hserial hamount
  obtain ⟨base, hbase⟩ : ∃ b, b = (s.took (.enterCode order digits)).onCode fun x => { x with lockoutEnd := none } := ⟨_, rfl⟩
  have hfailures : s.code.failures = base.code.failures := by rw [hbase]; rfl
  have htime : s.calendar.t = base.calendar.t := by rw [hbase]; rfl
  have hexec : exec (.enterCode order digits) s = .next (base.judgeCode order n) := by
    rw [hrun hev hpow hno, State.evaluateCode_unlocked (s.took (.enterCode order digits)) order digits hl, if_neg (by simpa using hd),
      hbase, hn]
    rfl
  have hrefusal : base.codeRefusal n = o := by
    rw [ho, State.codeRefusal_eq, hbase]
    rfl
  rw [hexec]
  refine ⟨fun r hr hb hw => ?_, fun r hr hbw hf => ?_, fun r stop hr hbw hf hstop => ?_, fun hr => ?_⟩
  · rw [State.judgeCode_some _ order (hrefusal.trans hr), if_neg (by simp [hb, hw]), hbase]
    rfl
  · rw [State.judgeCode_some _ order (hrefusal.trans hr), if_pos hbw, State.countFailure_early _ r (hfailures ▸ hf), hbase]
    rfl
  · have hrem : min (stop - s.calendar.t) 600 = stop - s.calendar.t := by omega
    rw [State.judgeCode_some _ order (hrefusal.trans hr), if_pos hbw, State.countFailure_fifth _ r (hfailures ▸ hf) (htime ▸ hstop),
      hbase, ← hrem]
    simp only [State.codeAnswer, State.answer, State.send, State.journal, State.onCode, List.append_assoc]
    rfl
  · rw [State.judgeCode_none _ order (hrefusal.trans hr), classRequest_eq, hbase]
    rfl

end Sys2Proof.Machine
end

section
/-! PROOFS. The Credit Unit (03_credit_accounting.md): the evaluation of the credit state, the CREDIT reason, the takings with the debt
floor, emergency credit, top-ups and adoption. -/

namespace Sys2Proof.Machine

/-- Settles O18: the four conditions exclude each other and leave no balance out. -/
theorem creditStateConditions : Obligations.CreditStateConditions := by
  intro c em lowT ec
  unfold creditStateOf
  cases em
  all_goals
    by_cases hlow : (lowT : Int) < c
    · simp [hlow]; omega
    by_cases hpos : 0 < c
    · simp [hlow, hpos]; omega
    by_cases hec : -(ec : Int) < c
    all_goals simp [hlow, hpos, hec]; omega

/-! ### The CREDIT reason and the evaluation (R51, R52, R61, R62) -/

theorem creditCondition_iff (x : Credit) : creditCondition x = true ↔ CreditWanted x x.state := by
  simp [creditCondition, CreditWanted, and_assoc]

theorem deferralCondition_iff (x : Credit) :
    deferralCondition x = true ↔ x.serviceView = .inService ∧ x.state = .exhausted ∧ x.friendlyView = true := by
  simp [deferralCondition, and_assoc]

/-- A re-evaluation of the reason, of a part whose Credit Unit is `x` but for its credit state. -/
theorem State.reevaluateCredit_reasoned (u : State) {x : Credit} {st : CreditState} (hx : u.credit = { x with state := st }) :
    CreditReasoned x st (u.reevaluateCredit false).credit
      (if (u.reevaluateCredit false).credit.requested = x.requested then []
        else [.reasonRequest (u.reevaluateCredit false).credit.requested .credit]) := by
  rw [State.reevaluateCredit_eq, hx]
  refine ⟨rfl, creditCondition_iff _, deferralCondition_iff _, rfl⟩

theorem State.reevaluateCredit_inFlight (u : State) :
    (u.reevaluateCredit false).inFlight = u.inFlight ++ if (u.reevaluateCredit false).credit.requested = u.credit.requested then []
      else [.reasonRequest (u.reevaluateCredit false).credit.requested .credit] := by
  simp [State.reevaluateCredit_eq]

/-- The credit state of an evaluation, with its entry and its notice. -/
theorem State.recordCreditState_recorded (b : State) (cause : CreditCause) : ∃ entry,
    (b.recordCreditState cause).inFlight = b.inFlight ++ entry ∧
    (b.recordCreditState cause).credit = { b.credit with state := (b.recordCreditState cause).credit.state } ∧
    CreditRecorded cause b.credit b (b.recordCreditState cause) entry := by
  obtain ⟨st, hst⟩ : ∃ st, creditStateOf b.credit.c b.credit.em b.calendar.table.lowT b.calendar.table.ec = st := ⟨_, rfl⟩
  rw [State.recordCreditState_eq b cause st hst]
  by_cases hsame : st = b.credit.state
  · subst hsame
    rw [if_pos rfl]
    exact ⟨[], (List.append_nil _).symm, rfl, hst.symm, fun _ => ⟨rfl, rfl⟩, fun h => absurd rfl h⟩
  · rw [if_neg hsame]
    exact ⟨_, rfl, rfl, hst.symm, fun h => absurd h hsame, fun _ => ⟨rfl, rfl⟩⟩

/-- What an evaluation sends and leaves. -/
theorem State.evaluateCredit_evaluated (b : State) (cause : CreditCause) : ∃ sent,
    (b.evaluateCredit cause).inFlight = b.inFlight ++ sent ∧ CreditEvaluated cause b.credit b (b.evaluateCredit cause) sent := by
  obtain ⟨entry, hflight, hcredit, hrec⟩ := b.recordCreditState_recorded cause
  unfold State.evaluateCredit
  dsimp only
  by_cases hsame : (b.recordCreditState cause).credit.state = b.credit.state
  · obtain ⟨rfl, hexchange⟩ := hrec.same hsame
    rw [if_pos hsame]
    refine ⟨[], hflight, hrec.state, fun _ => ⟨?_, rfl, hexchange⟩, fun h => absurd hsame h⟩
    rw [hcredit, hsame]
  · obtain ⟨rfl, hexchange⟩ := hrec.changed hsame
    have hstate : ((b.recordCreditState cause).reevaluateCredit false).credit.state = (b.recordCreditState cause).credit.state := by
      rw [State.reevaluateCredit_eq]
    have hrequested : (b.recordCreditState cause).credit.requested = b.credit.requested := by rw [hcredit]
    have hflight' := (b.recordCreditState cause).reevaluateCredit_inFlight
    have hreason := State.reevaluateCredit_reasoned _ hcredit
    rw [hrequested, hflight, List.append_assoc] at hflight'
    rw [if_neg hsame]
    refine ⟨_, hflight', hstate.trans hrec.state, fun h => absurd (hstate.symm.trans h) hsame, fun _ => ⟨?_, ?_⟩⟩
    · rw [State.reevaluateCredit_eq]
      exact hexchange
    · rw [← hstate] at hreason ⊢
      exact ⟨_, rfl, hreason⟩

/-- An evaluation reads the calendar and the notices of the state before, and speaks of the Credit Unit and the notices after. -/
theorem CreditEvaluated.congr {cause : CreditCause} {x : Credit} {b s t u : State} {sent : List Instr}
    (h : CreditEvaluated cause x b t sent) (hcalendar : s.calendar = b.calendar) (hbefore : s.exchange = b.exchange)
    (hcredit : u.credit = t.credit) (hafter : u.exchange = t.exchange) : CreditEvaluated cause x s u sent := by
  obtain ⟨hstate, hsame, hchanged⟩ := h
  rw [← hcredit] at hstate hsame hchanged
  rw [← hafter] at hsame hchanged
  rw [← hbefore] at hsame hchanged
  rw [← hcalendar] at hstate hchanged
  exact ⟨hstate, hsame, hchanged⟩

theorem CreditRecorded.congr {cause : CreditCause} {x : Credit} {b s t u : State} {entry : List Instr}
    (h : CreditRecorded cause x b t entry) (hcalendar : s.calendar = b.calendar) (hbefore : s.exchange = b.exchange)
    (hstate : u.credit.state = t.credit.state) (hafter : u.exchange = t.exchange) : CreditRecorded cause x s u entry := by
  obtain ⟨hst, hsame, hchanged⟩ := h
  rw [← hstate] at hst hsame hchanged
  rw [← hafter] at hsame hchanged
  rw [← hbefore] at hsame hchanged
  rw [← hcalendar] at hst hchanged
  exact ⟨hst, hsame, hchanged⟩

/-- The evaluation of a part whose Credit Unit an arrival `c` has brought to `x`. -/
theorem State.evaluateCredit_sends (s : State) (c : Instr) (x : Credit) (cause : CreditCause) : ∃ sent,
    OnlyChanges [.credit, .exchange] s (((s.took c).onCredit fun _ => x).evaluateCredit cause) ∧
    Sends c s (((s.took c).onCredit fun _ => x).evaluateCredit cause) sent ∧
    CreditEvaluated cause x s (((s.took c).onCredit fun _ => x).evaluateCredit cause) sent := by
  obtain ⟨sent, hflight, heval⟩ := ((s.took c).onCredit fun _ => x).evaluateCredit_evaluated cause
  refine ⟨sent, ?_, hflight, heval.congr rfl rfl rfl rfl⟩
  simp [OnlyChanges]

/-! ### Takings (R43 to R46) -/

theorem Credit.take_of_le (x : Credit) {df amount : Nat} (h : -(df : Int) ≤ x.c - amount) :
    x.take df amount = { x with c := x.c - amount } := if_pos h

theorem Credit.take_of_lt (x : Credit) {df amount : Nat} (h : x.c - amount < -(df : Int)) :
    x.take df amount = { x with c := -(df : Int), b := x.b + BitVec.ofInt 64 (-(df : Int) - (x.c - amount)) } :=
  if_neg (not_le.2 h)

/-- A taking, with the floor as a maximum. -/
theorem Credit.take_eq (x : Credit) (df amount : Nat) : x.take df amount = { x with
    c := max (x.c - amount) (-(df : Int))
    b := x.b + BitVec.ofInt 64 (max (x.c - amount) (-(df : Int)) - (x.c - amount)) } := by
  by_cases h : -(df : Int) ≤ x.c - amount
  · rw [x.take_of_le h, max_eq_left h]
    simp
  · have h := not_le.1 h
    rw [x.take_of_lt h, max_eq_right h.le]

/-- Settles O19: the charge of a block, and its evaluation. -/
theorem blockResultCharged : Obligations.BlockResultCharged := by
  intro s r sum due hsum hdue
  have hexec : exec (.creditBlockResult r) s = .next (if due = 0 then
      (s.took (.creditBlockResult r)).onCredit fun x => { x with q := sum % 1000000000 }
    else ((s.took (.creditBlockResult r)).onCredit fun _ =>
      ({ s.credit with q := sum % 1000000000 } : Credit).take s.calendar.table.df due).evaluateCredit .block) := by
    subst hdue hsum
    rfl
  rw [hexec]
  refine ⟨fun h0 => ?_, fun hpos hle => ?_, fun hpos hlt => ?_⟩
  · rw [if_pos h0, Nat.mod_eq_of_lt (by omega)]
    rfl
  · rw [if_neg hpos.ne', Credit.take_of_le { s.credit with q := sum % 1000000000 } hle]
    obtain ⟨sent, hspec⟩ := s.evaluateCredit_sends (.creditBlockResult r) _ .block
    exact ⟨_, sent, rfl, hspec⟩
  · rw [if_neg hpos.ne', Credit.take_of_lt { s.credit with q := sum % 1000000000 } hlt]
    obtain ⟨sent, hspec⟩ := s.evaluateCredit_sends (.creditBlockResult r) _ .block
    exact ⟨_, sent, rfl, hspec⟩

/-- The lump of the hours crossed. -/
theorem lump_eq {hour last sc : Nat} (h : last < hour) : (((hour - last) * sc : Nat) : Int) = ((hour : Int) - last) * sc := by
  push_cast [Nat.cast_sub h.le]
  rfl

theorem Credit.chargeHours_of_le (x : Credit) {hour df sc : Nat} (h : hour ≤ x.hLast) : x.chargeHours hour df sc = x :=
  if_neg (not_lt.2 h)

theorem Credit.chargeHours_of_lt (x : Credit) {hour df sc : Nat} (h : x.hLast < hour) :
    x.chargeHours hour df sc = { x.take df ((hour - x.hLast) * sc) with hLast := hour } := if_pos h

/-- Settles O20: the hour rule of a second and of a new T. -/
theorem hourRuleCharges : Obligations.HourRuleCharges := by
  intro s c hour lump hc hhour hlump
  have hexec : exec c s = .next (if s.credit.hLast < hour then
      ((s.took c).onCredit fun _ => s.credit.chargeHours hour s.calendar.table.df s.calendar.table.sc).evaluateCredit .hour
    else s.took c) := by
    subst hhour
    rcases hc with rfl | rfl <;> rfl
  have hsent : c.sentForm = c := by rcases hc with rfl | rfl <;> rfl
  rw [hexec]
  refine ⟨fun h => ?_, fun h hle => ?_, fun h hlt => ?_⟩
  · rw [if_neg (not_lt.2 h), State.took, hsent]
  all_goals
    rw [← lump_eq h] at hlump
    subst hlump
    rw [if_pos h, Credit.chargeHours_of_lt _ h]
  · rw [Credit.take_of_le _ hle]
    obtain ⟨sent, hspec⟩ := s.evaluateCredit_sends c _ .hour
    exact ⟨_, sent, rfl, hspec⟩
  · rw [Credit.take_of_lt _ hlt]
    obtain ⟨sent, hspec⟩ := s.evaluateCredit_sends c _ .hour
    exact ⟨_, sent, rfl, hspec⟩

/-! ### Emergency credit and top-ups (R53 to R56) -/

/-- An evaluation leaves of the Credit Unit all but the state, the request and the deferral flag. -/
theorem CreditEvaluated.unit {cause : CreditCause} {x : Credit} {s t : State} {sent : List Instr} (h : CreditEvaluated cause x s t sent) :
    t.credit = { x with state := t.credit.state, requested := t.credit.requested, deferral := t.credit.deferral } := by
  by_cases hsame : t.credit.state = x.state
  · obtain ⟨hx, -, -⟩ := h.same hsame
    rw [hx]
  · obtain ⟨-, asked, -, hreason⟩ := h.changed hsame
    exact hreason.unit

theorem State.drawAllowed_iff (s : State) : s.drawAllowed = true ↔ (s.credit.state = .low ∨ s.credit.state = .exhausted) ∧
    s.credit.ea = true ∧ -(s.calendar.table.ec : Int) < s.credit.c := by
  simp [State.drawAllowed, and_assoc]

/-- Settles O21: a draw that is accepted, and one that is not. -/
theorem emergencyDrawn : Obligations.EmergencyDrawn := by
  intro s order ok hok
  rw [← s.drawAllowed_iff] at hok
  have hallowed : (s.took (.emergency order)).drawAllowed = s.drawAllowed := rfl
  refine ⟨fun h => ?_, fun h => ?_⟩
  · obtain ⟨b, hb⟩ : ∃ b, b = (((s.took (.emergency order)).onCredit fun x => { x with em := true, ea := false }).journal
        (.emergency s.credit.c s.calendar.table.ec)) := ⟨_, rfl⟩
    have hexec : exec (.emergency order) s = .next ((b.evaluateCredit .emergency).answer order .ok
        (b.evaluateCredit .emergency).credit.emergencyData) := by
      rw [hb]
      exact congrArg Host.Outcome.next (if_pos (hallowed.trans (hok.1 h)))
    obtain ⟨sent, hflight, heval⟩ := b.evaluateCredit_evaluated .emergency
    have hunit := heval.unit
    rw [hexec]
    have hdata : (b.evaluateCredit .emergency).credit.emergencyData =
        .emergency (b.evaluateCredit .emergency).credit.state false true s.credit.c := by
      rw [hunit, hb]
      rfl
    rw [hdata]
    refine ⟨_, sent, rfl, by simp [OnlyChanges, hb], ?_, ?_⟩
    · rw [Sends, State.answer_inFlight, hflight, hb]
      simp [Instr.sentForm]
    · have hcredit : b.credit = { s.credit with em := true, ea := false } := by rw [hb]; rfl
      rw [← hcredit]
      refine heval.congr ?_ ?_ rfl rfl <;> rw [hb] <;> rfl
  · exact congrArg Host.Outcome.next (if_neg fun hd => h (hok.2 (hallowed.symm.trans hd)))

theorem Credit.topUp_eq (x : Credit) (amount : Nat) {sum : Int} (hsum : sum = x.c + amount * 1000) : x.topUp amount = { x with
    c := sum
    em := x.em && !decide (0 < sum)
    ea := x.ea || (x.em && decide (0 < sum)) } := by
  subst hsum
  unfold Credit.topUp
  dsimp only
  cases hem : x.em <;> by_cases hpos : 0 < x.c + (amount : Int) * 1000 <;> simp [hpos]

/-- Settles O22: a top-up over and within the cap, and the record of its serial. -/
theorem topUpTaken : Obligations.TopUpTaken := by
  intro s amount ev sum hev hsum
  have hexec : exec (.topUpRequest amount) s = .next (if (10000000000 : Int) < sum then
      (s.took (.topUpRequest amount)).codeOverCap s.credit.c
    else codeAcceptedBy (((s.took (.topUpRequest amount)).onCredit fun _ => s.credit.topUp amount).evaluateCredit .topUp)
      (((s.took (.topUpRequest amount)).onCredit fun _ => s.credit.topUp amount).evaluateCredit .topUp).credit.c) := by
    rw [hsum, ← State.codeAccepted_eq]
    rfl
  rw [hexec]
  refine ⟨fun hover => ?_, fun hordered => Code.serialRecorded hordered (hordered.waiting ev hev).2, fun hle => ?_⟩
  · rw [if_pos hover]
    simp only [State.codeOverCap, State.took_code, hev]
    rfl
  · obtain ⟨sent, -, hsends, heval⟩ := s.evaluateCredit_sends (.topUpRequest amount) (s.credit.topUp amount) .topUp
    obtain ⟨u, hu⟩ : ∃ u, u = ((s.took (.topUpRequest amount)).onCredit fun _ => s.credit.topUp amount).evaluateCredit .topUp := ⟨_, rfl⟩
    have hcode : u.code = s.code := by simp [hu]
    have hcalendar : u.calendar = s.calendar := by simp [hu]
    rw [if_neg (not_lt.2 hle), ← hu]
    rw [← hu] at hsends heval
    rw [Credit.topUp_eq _ _ hsum] at heval
    have hc : u.credit.c = sum := by rw [heval.unit]
    rw [Sends] at hsends
    have haccepted : codeAcceptedBy u u.credit.c = { u with
        code := { s.code.record ev.serial with failures := 0, evaluation := none }
        inFlight := u.inFlight ++ [.entryArrival ⟨s.calendar.t, .code ev.cls ev.serial ev.amount⟩,
          .ownerAnswer ev.order .ok (.code .accepted ev.cls ev.serial ev.amount sum
            (lockoutRemaining s.code.lockoutEnd s.calendar.t))] } := by
      rw [codeAcceptedBy, hcode, hcalendar, hc]
      simp only [hev]
    refine ⟨_, sent, rfl, ?_, ?_, ?_, ?_, ?_⟩ <;> rw [haccepted]
    · simp [OnlyChanges, hu]
    · exact hc
    · rw [Sends]
      simp only [hsends, List.append_assoc]
    · exact heval.congr rfl rfl rfl rfl

/-! ### Views, tables and the warm start (R58 to R62, R66) -/

theorem Credit.clampFloor_eq (x : Credit) (df : Nat) : x.clampFloor df = { x with
    c := max x.c (-(df : Int))
    b := x.b + BitVec.ofInt 64 (max x.c (-(df : Int)) - x.c) } := by
  unfold Credit.clampFloor
  split
  next h => rw [max_eq_right h.le]
  next h =>
    rw [max_eq_left (not_lt.1 h)]
    simp

theorem State.reevaluateCredit_true (u : State) : (u.reevaluateCredit true).credit = (u.reevaluateCredit false).credit ∧
    (u.reevaluateCredit true).inFlight = u.inFlight ++ [.reasonRequest (u.reevaluateCredit true).credit.requested .credit] := by
  simp [State.reevaluateCredit_eq]

@[simp] theorem State.reevaluateCredit_exchange_state (u : State) (resend : Bool) :
    (u.reevaluateCredit resend).exchange = u.exchange ∧ (u.reevaluateCredit resend).credit.state = u.credit.state := by
  simp [State.reevaluateCredit_eq]

/-- A view replaced, and the reason re-evaluated (R60, R61). -/
theorem State.reevaluateCredit_sends (s : State) (c : Instr) (x : Credit) : ∃ sent,
    OnlyChanges [.credit] s (((s.took c).onCredit fun _ => x).reevaluateCredit false) ∧
    Sends c s (((s.took c).onCredit fun _ => x).reevaluateCredit false) sent ∧
    CreditReasoned x x.state (((s.took c).onCredit fun _ => x).reevaluateCredit false).credit sent := by
  refine ⟨_, by simp [OnlyChanges], State.reevaluateCredit_inFlight _, ?_⟩
  exact State.reevaluateCredit_reasoned ((s.took c).onCredit fun _ => x) rfl

/-- Settles O23: the views, a new table and the warm start. -/
theorem creditViewsTablesAndWarmStart : Obligations.CreditViewsTablesAndWarmStart := by
  refine ⟨fun s => ⟨fun f => ?_, fun v hw => ?_⟩, fun s => ⟨fun f => ?_, ?_⟩⟩
  · obtain ⟨sent, hspec⟩ := s.reevaluateCredit_sends (.friendlyFlagNews f) { s.credit with friendlyView := f }
    exact ⟨_, sent, rfl, hspec⟩
  · obtain ⟨sent, hspec⟩ := s.reevaluateCredit_sends (.serviceStateNewsCredit v) { s.credit with serviceView := v }
    refine ⟨_, sent, congrArg Host.Outcome.next ?_, hspec⟩
    simp only [State.serviceNewsTaken, State.reevaluateCredit_frame, State.onCredit_settings, State.took_settings, hw]
    rfl
  · obtain ⟨b, hb⟩ : ∃ b, b = (s.took (.newTableArrival f)).onCredit fun x => x.clampFloor s.calendar.table.df := ⟨_, rfl⟩
    obtain ⟨entry, hflight, hcredit, hrec⟩ := b.recordCreditState_recorded .tariff
    obtain ⟨v, hv⟩ : ∃ v, v = (b.recordCreditState .tariff).onCredit fun x => x.view f := ⟨_, rfl⟩
    have hexec : exec (.newTableArrival f) s = .next (v.reevaluateCredit false) := by rw [hv, hb]; rfl
    have hvcredit : v.credit = { b.credit with
        friendlyView := f.getD s.credit.friendlyView, state := (b.recordCreditState .tariff).credit.state } := by
      rw [hv, State.onCredit_credit, hcredit, hb]
      cases f
      · show _ = _
        simp [Credit.view, Credit.clampFloor_eq]
      · rfl
    have hvflight : v.inFlight = b.inFlight ++ entry := by rw [hv]; exact hflight
    have hvexchange : v.exchange = (b.recordCreditState .tariff).exchange := by rw [hv]; rfl
    have hvstate : v.credit.state = (b.recordCreditState .tariff).credit.state := by rw [hvcredit]
    have hvrequested : v.credit.requested = b.credit.requested := by rw [hvcredit]
    have hbflight : b.inFlight = s.inFlight.erase (Instr.newTableArrival f).sentForm := by rw [hb]; rfl
    have hsent := v.reevaluateCredit_inFlight
    rw [hvflight, hvrequested, List.append_assoc, hbflight] at hsent
    rw [hexec]
    refine ⟨_, b.credit, entry, _, rfl, ?_, ?_, ?_, hsent, ?_⟩
    · simp [OnlyChanges, hv, hb]
    · rw [hb]
      exact s.credit.clampFloor_eq _
    · refine hrec.congr ?_ ?_ (by simp [hvstate]) (by simp [hvexchange]) <;> rw [hb] <;> rfl
    · rw [(State.reevaluateCredit_exchange_state v false).2, hvstate]
      exact State.reevaluateCredit_reasoned v hvcredit
  · obtain ⟨b, hb⟩ : ∃ b, b = (s.took .creditWarmStart).onCredit fun x =>
      x.chargeHours (hourOf s.calendar.t) s.calendar.table.df s.calendar.table.sc := ⟨_, rfl⟩
    obtain ⟨entry, hflight, hcredit, hrec⟩ := b.recordCreditState_recorded .hour
    have hexec : exec .creditWarmStart s = .next ((b.recordCreditState .hour).reevaluateCredit true) := by rw [hb]; rfl
    have hbcredit : b.credit = s.credit.chargeHours (s.calendar.t / 3600) s.calendar.table.df s.calendar.table.sc := by rw [hb]; rfl
    have hrequested : (b.recordCreditState .hour).credit.requested = b.credit.requested := by rw [hcredit]
    obtain ⟨hsame, hsends⟩ := State.reevaluateCredit_true (b.recordCreditState .hour)
    rw [hexec]
    refine ⟨_, b.credit, entry, rfl, ?_, fun h => ?_, fun lump h hlump => ?_, ?_, ?_, ?_⟩
    · simp [OnlyChanges, hb]
    · rw [hbcredit, Credit.chargeHours_of_le _ h]
    · rw [← lump_eq h] at hlump
      subst hlump
      rw [hbcredit, Credit.chargeHours_of_lt _ h, Credit.take_eq]
    · refine hrec.congr ?_ ?_ (by simp) (by simp) <;> rw [hb] <;> rfl
    · rw [Sends, hsends, hflight, hb]
      exact List.append_assoc _ _ _
    · rw [hsame, (State.reevaluateCredit_exchange_state _ false).2]
      exact State.reevaluateCredit_reasoned _ hcredit

end Sys2Proof.Machine
end

section
/-! PROOFS. The Energy Unit (01_energy_measurement.md): the channels and the registers of a block, its qualification counters, and the
unit's starts. -/

namespace Sys2Proof.Machine

/-! ### Channels and registers -/

/-- A metered block, with its block result sent to four units and its completion reported. -/
theorem exec_blockCompletion_result (s : State) (sL sN : Int) (sV : Nat) (hrun : s.supply.power = .run)
    (hmetered : s.energy.settling = false) :
    exec (.blockCompletion sL sN sV) s = .next (s.recordBlock (s.meterBlock sL sN sV)) :=
  (exec_blockCompletion s sL sN sV).trans (exec_blockCompletion_metered s sL sN sV hrun hmetered)

theorem energyUnit_eq : Config.energyUnit = 2 ^ 32 := rfl

theorem billingChannel_of_le {aL aN : Int} (h : aN.natAbs ≤ aL.natAbs) : billingChannel aL aN = .line := if_pos h

theorem billingChannel_of_lt {aL aN : Int} (h : aL.natAbs < aN.natAbs) : billingChannel aL aN = .neutral := if_neg (not_le.2 h)

/-- Settles O11: each channel by its count, the rest by the fields of a metered block. -/
theorem blockEnergiesAndRegisters : Obligations.BlockEnergiesAndRegisters := by
  intro s sL sN aL aN sV limit hrun hmetered haL haN hlimit
  subst hlimit
  obtain ⟨hrL, hrN, hchannel, hbilled, hdir, hmagL, hmagN, hrelay, hreg, hfwd, hrev, hset, -⟩ :=
    s.meterBlock_fields sL sN aL aN sV _ _ haL.symm haN.symm rfl rfl _ rfl
  rw [energyUnit_eq] at hmagL hmagN
  obtain ⟨hcreepL, hcountL, hdirL⟩ := countChannel_spec aL s.energy.rL (s.setting .creep)
  obtain ⟨hcreepN, hcountN, hdirN⟩ := countChannel_spec aN s.energy.rN (s.setting .creep)
  refine ⟨_, (s.meterBlock sL sN sV).2, (countChannel aL s.energy.rL (s.setting .creep)).energy,
    (countChannel aN s.energy.rN (s.setting .creep)).energy, exec_blockCompletion_result s sL sN sV hrun hmetered,
    by simp [OnlyChanges], s.recordBlock_inFlight _, ?_⟩
  rw [State.recordBlock_energy, hrL, hrN]
  refine ⟨hcreepL, hcountL, hcreepN, hcountN, fun hle => ?_, fun hlt => ?_, hmagL, hmagN, hrelay, hreg, hfwd, hrev,
    hset.trans hmetered⟩
  · rw [billingChannel_of_le hle] at hchannel hbilled hdir
    rw [if_pos rfl] at hbilled hdir
    exact ⟨hchannel, hbilled, hdir.trans hdirL⟩
  · rw [billingChannel_of_lt hlt] at hchannel hbilled hdir
    rw [if_neg nofun] at hbilled hdir
    exact ⟨hchannel, hbilled, hdir.trans hdirN⟩

/-! ### Qualification -/

/-- A counter rises on its raw condition and falls to 0 without it (R19). -/
theorem Qualifier.update_count (q : Qualifier) (raw : Bool) :
    (raw = true → (q.update raw).count = min 255 (q.count + 1)) ∧ (raw = false → (q.update raw).count = 0) := by
  cases raw <;> simp [Qualifier.update]

/-- The forced count of a forced condition rises at every block (R20). -/
theorem Qualifier.update_forced (q : Qualifier) (raw : Bool) : (q.update raw).forced = q.forced ∧
    (q.update raw).forcedCount = if q.forced then min 255 (q.forcedCount + 1) else q.forcedCount := ⟨rfl, rfl⟩

theorem Qualifier.report_iff (q : Qualifier) (threshold : Nat) : ((q.report threshold).qualified = true ↔ threshold ≤ q.count) ∧
    ((q.report threshold).testQualified = true ↔ q.forced = true ∧ threshold ≤ q.forcedCount) := by
  simp [Qualifier.report]

theorem rawImbalance_iff (mL mN imbT imbFloor : Nat) : rawImbalance mL mN imbT imbFloor = true ↔
    64 * ((mL - mN) + (mN - mL)) > imbT * max mL mN ∧ imbFloor ≤ max mL mN / 2 ^ 32 := by
  have hgap : max mL mN - min mL mN = (mL - mN) + (mN - mL) := by omega
  rw [rawImbalance, Bool.and_eq_true, decide_eq_true_iff, decide_eq_true_iff, hgap, energyUnit_eq]

theorem rawReverse_iff (d : Direction) (billed revFloor : Nat) :
    rawReverse d billed revFloor = true ↔ d = .reverse ∧ revFloor ≤ billed := by
  simp [rawReverse]

theorem rawBypass_iff (relay : RelayState) (billed bypassFloor : Nat) :
    rawBypass relay billed bypassFloor = true ↔ (relay = .open ∨ relay = .ready) ∧ bypassFloor ≤ billed := by
  simp [rawBypass]

/-- Settles O12: each counter by its raw condition, each report by its counter. -/
theorem blockQualificationCounters : Obligations.BlockQualificationCounters := by
  intro s sL sN sV mL mN hrun hmetered hmL hmN
  obtain ⟨qi, qr, qb, hqi, hqr, hqb, hblock⟩ :=
    s.meterBlock_eq sL sN sV _ _ _ _ _ _ _ rfl rfl rfl rfl rfl rfl rfl
  rw [← hmL, ← hmN] at hqi
  refine ⟨_, (s.meterBlock sL sN sV).2, exec_blockCompletion_result s sL sN sV hrun hmetered, s.recordBlock_inFlight _, ?_⟩
  rw [State.recordBlock_energy, hblock]
  dsimp only
  rw [← rawImbalance_iff, ← rawReverse_iff, ← rawBypass_iff]
  simp only [Bool.not_eq_true]
  refine ⟨fun h => ?_, fun h => ?_, fun h => ?_, fun h => ?_, fun h => ?_, fun h => ?_, fun q q' hq => ?_,
    (qi.report_iff _).1, (qr.report_iff _).1, (qb.report_iff _).1, (qi.report_iff _).2, (qr.report_iff _).2, (qb.report_iff _).2⟩
  · exact hqi ▸ (Qualifier.update_count _ _).1 h
  · exact hqi ▸ (Qualifier.update_count _ _).2 h
  · exact hqr ▸ (Qualifier.update_count _ _).1 h
  · exact hqr ▸ (Qualifier.update_count _ _).2 h
  · exact hqb ▸ (Qualifier.update_count _ _).1 h
  · exact hqb ▸ (Qualifier.update_count _ _).2 h
  · simp only [List.mem_cons, Prod.mk.injEq, List.not_mem_nil, or_false] at hq
    rcases hq with ⟨rfl, rfl⟩ | ⟨rfl, rfl⟩ | ⟨rfl, rfl⟩
    · rw [hqi]; exact Qualifier.update_forced _ _
    · rw [hqr]; exact Qualifier.update_forced _ _
    · rw [hqb]; exact Qualifier.update_forced _ _

/-! ### Starts and calibration -/

theorem State.writeNewsTaken_of_none (s : State) (n : Neighbour) (h : s.settings.waiting = none) : s.writeNewsTaken n = s := by
  simp only [State.writeNewsTaken, h]

theorem State.serviceNewsTaken_of_none (s : State) (credit : Bool) (h : s.settings.waiting = none) : s.serviceNewsTaken credit = s := by
  simp only [State.serviceNewsTaken, h]

/-- Settles O13: the HOLD entry, the warm start and the calibration news of a unit that no write waits for. -/
theorem energyStartsAndCalibration : Obligations.EnergyStartsAndCalibration := by
  refine fun s => ⟨rfl, rfl, fun hw => ⟨?_, ?_⟩⟩
  · exact congrArg Host.Outcome.next (State.writeNewsTaken_of_none
      ((s.took (.calibrationWriteNews .line)).onEnergy fun x => { x with rL := 0 }) .energy hw)
  · exact congrArg Host.Outcome.next (State.writeNewsTaken_of_none
      ((s.took (.calibrationWriteNews .neutral)).onEnergy fun x => { x with rN := 0 }) .energy hw)

end Sys2Proof.Machine
end

section
/-! PROOFS. The Calendar Unit (02_meter_time_and_the_tariff_table.md): ticks, the band and the friendly windows, and SET TIME. -/

namespace Sys2Proof.Machine

/-! ### Ticks (R25 to R27, R30) -/

/-- In HOLD a tick is one second of T and of the HOLD reading timer. -/
theorem State.tick_of_hold (s : State) (h : s.supply.power = .hold) : s.tick =
    (s.onCalendar Calendar.advance).onSupply fun x => { x with holdTimer := min (x.holdTimer + 1) Config.holdReadingSeconds } := by
  simp only [State.tick, State.onCalendar_supply, h]

/-- Settles O14: a tick by the power state, and the re-evaluation of a warm start. -/
theorem meterTimeAdvancesAndReevaluates : Obligations.MeterTimeAdvancesAndReevaluates := by
  refine ⟨fun s => ⟨fun hret hrun => ?_, fun hret hhold => ?_, fun hret => if_neg (by simp [hret])⟩, fun s => ?_⟩
  · have hexec : exec .secondTick s = .next ((s.onCalendar Calendar.advance).reevaluate.deliverSecond) := by
      refine (if_pos hret).trans (congrArg Host.Outcome.next ?_)
      simp only [State.tick, State.onCalendar_supply, hrun]
    refine ⟨_, hexec, by simp [OnlyChanges], ?_, ?_⟩
    · rw [State.reevaluate_eq]
      rfl
    · rw [State.reevaluate_eq]
      simp only [State.deliverSecond, State.send, List.append_assoc]
      rfl
  · exact (if_pos hret).trans (congrArg Host.Outcome.next (s.tick_of_hold hhold))
  · refine ⟨_, rfl, by simp [OnlyChanges], ?_, ?_⟩
    · rw [State.reevaluate_eq]
      rfl
    · rw [State.reevaluate_eq]
      rfl

/-! ### The band and the friendly flag (R28, R29, R31) -/

/-- The last switch point at or below a second. -/
theorem bandBy_of_last {before after : List SwitchPoint} {p : SwitchPoint} {sec : Nat} (hp : p.second ≤ sec)
    (hafter : ∀ q ∈ after, sec < q.second) : bandBy (before ++ p :: after) sec = some p.band := by
  have hnone : after.filter (fun q => decide (q.second ≤ sec)) = [] :=
    List.filter_eq_nil_iff.2 fun q hq => by simpa using hafter q hq
  simp [bandBy, hp, hnone]

theorem bandBy_of_none {points : List SwitchPoint} {sec : Nat} (h : ∀ q ∈ points, sec < q.second) : bandBy points sec = none := by
  have hnone : points.filter (fun q => decide (q.second ≤ sec)) = [] :=
    List.filter_eq_nil_iff.2 fun q hq => by simpa using h q hq
  simp [bandBy, hnone]

theorem windowActive_iff (x : Window) (w sec : Nat) : windowActive x w sec = true ↔
    (x.start < x.stop ∧ x.mask.getLsbD w = true ∧ x.start ≤ sec ∧ sec < x.stop) ∨
    (x.stop < x.start ∧ ((x.start ≤ sec ∧ x.mask.getLsbD w = true) ∨ (sec < x.stop ∧ x.mask.getLsbD ((w + 6) % 7) = true))) := by
  rcases Nat.lt_trichotomy x.start x.stop with h | h | h
  · simp [windowActive, h, h.not_gt, and_assoc]
  · simp [windowActive, h]
  · simp [windowActive, h, h.not_gt, weekdayBefore]

/-- Settles O15: the band by the schedule of the day or of the day before, the flag by the windows. -/
theorem bandAndFriendlyFlagOfTheTable : Obligations.BandAndFriendlyFlagOfTheTable := by
  intro table t w yesterday sec hw hy hsec
  have hband : bandAt table t = match bandBy (scheduleOf table w) sec with
      | some b => b
      | none =>
        match (scheduleOf table yesterday).getLast? with
        | some p => p.band
        | none => 0 := by
    subst hy hw hsec
    rfl
  refine ⟨fun before after p hpoints hp hafter => ?_, fun before p hnone hlast => ?_, ?_⟩
  · have htoday : scheduleOf table w = before ++ p :: after := hpoints
    rw [hband, htoday, bandBy_of_last hp hafter]
  · have hyesterday : scheduleOf table yesterday = before ++ [p] := hlast
    rw [hband, show bandBy (scheduleOf table w) sec = none from bandBy_of_none hnone, hyesterday]
    simp
  · have hflag : friendlyAt table t = table.windows.any fun x => windowActive x w sec := by
      subst hw hsec
      rfl
    rw [hflag, List.any_eq_true]
    simp only [windowActive_iff, hy]

/-! ### SET TIME (R33 to R35, R37) -/

/-- An order that its owner takes in RUN alone stays untaken in HOLD and while a HOLD entry is on its way to the engine. -/
theorem State.took_takesRunOrders_false (s : State) (c : Instr) (hc : c.sentForm ≠ .engineHoldEntry)
    (h : s.supply.power = .hold ∨ .engineHoldEntry ∈ s.inFlight) : (s.took c).takesRunOrders = false := by
  rw [State.took_takesRunOrders s c hc, ← Bool.not_eq_true, State.takesRunOrders_iff]
  rintro ⟨hrun, hno⟩
  rcases h with h | h
  · simp [hrun] at h
  · exact hno h

theorem State.took_takesRunOrders_true (s : State) (c : Instr) (hc : c.sentForm ≠ .engineHoldEntry) (hrun : s.supply.power = .run)
    (hno : .engineHoldEntry ∉ s.inFlight) : (s.took c).takesRunOrders = true := by
  rw [State.took_takesRunOrders s c hc, State.takesRunOrders_iff]
  exact ⟨hrun, hno⟩

/-- The calendar that stands after T is set. -/
def Calendar.setTo (x : Calendar) (t : Nat) : Calendar :=
  { x with t := t, band := bandAt x.table t, friendly := friendlyAt x.table t }

/-- An applied set (R35). -/
theorem State.applySet_of_ne (s : State) {d : Int} (h : d ≠ 0) {new : Nat} (hnew : new = ((s.calendar.t : Int) + d).toNat) :
    s.applySet d = { s with
      calendar := s.calendar.setTo new
      inFlight := s.inFlight ++ ([.entryArrival ⟨new, .time s.calendar.t d⟩, .newTArrival] ++
        if (s.calendar.setTo new).friendly = s.calendar.friendly then [] else
          [.friendlyFlagNews (s.calendar.setTo new).friendly]) } := by
  subst hnew
  rw [State.applySet, if_neg h, State.reevaluate_eq]
  simp only [State.journal, State.send, State.onCalendar, List.append_assoc]
  rfl

theorem State.applySet_zero (s : State) : s.applySet 0 = s := if_pos rfl

theorem State.setTime_commissioning (s : State) (order : OrderId) (target : BitVec 32) (h : s.settings.service = .commissioning)
    {d : Int} (hd : d = (target.toNat : Int) - (s.calendar.t : Int)) :
    s.setTime order target = (s.applySet d).answer order .ok (.setTime d d (s.applySet d).calendar.allowance) := by
  simp only [State.setTime, h, ← hd]

/-- The calendar with the allowance renewed and charged (R34, R35). -/
def Calendar.charged (x : Calendar) (applied : Int) : Calendar :=
  { x.renewed with allowance := x.renewed.allowance - applied.natAbs }

theorem State.setTime_inService (s : State) (order : OrderId) (target : BitVec 32) (h : s.settings.service = .inService)
    {requested applied : Int} (hrequested : requested = (target.toNat : Int) - (s.calendar.t : Int))
    (happlied : applied = limitedDelta s.calendar.renewed.t s.calendar.renewed.allowance requested) :
    s.setTime order target = ((s.onCalendar fun x => x.charged applied).applySet applied).answer order .ok
      (.setTime requested applied ((s.onCalendar fun x => x.charged applied).applySet applied).calendar.allowance) := by
  subst hrequested happlied
  simp only [State.setTime, h]
  rfl

theorem clampInt_eq {low high : Int} (h : low ≤ high) (x : Int) : clampInt low high x = max low (min high x) := by
  unfold clampInt
  split
  · omega
  · split <;> omega

theorem limitedDelta_eq (t allowance : Nat) (requested : Int) :
    limitedDelta t allowance requested = max (-(t : Int)) (min (4294967295 - (t : Int))
      (max (-(allowance : Int)) (min (allowance : Int) (max (-300) (min 300 requested))))) := by
  unfold limitedDelta
  simp only [Config.orderLimit, Config.timeMax]
  rw [clampInt_eq (by omega), clampInt_eq (by omega), clampInt_eq (by omega)]
  rfl

theorem Calendar.renewed_eq (x : Calendar) {allowance day : Nat}
    (h : if x.allowanceDay < x.t / 86400 then allowance = 900 ∧ day = x.t / 86400
      else allowance = x.allowance ∧ day = x.allowanceDay) :
    x.renewed = { x with allowance := allowance, allowanceDay := day } := by
  unfold Calendar.renewed
  by_cases hd : x.allowanceDay < x.t / 86400
  · rw [if_pos hd] at h
    obtain ⟨rfl, rfl⟩ := h
    exact if_pos hd
  · rw [if_neg hd] at h
    obtain ⟨rfl, rfl⟩ := h
    exact if_neg hd

/-- Settles O16: an order that is not taken, one in COMMISSIONING, and one within the limits of IN_SERVICE. -/
theorem timeSetInCommissioningAndInService : Obligations.TimeSetInCommissioningAndInService := by
  refine ⟨fun s order target h => ?_, fun s order target d hrun hno hservice hd => ?_,
    fun s order target requested d1 d2 applied allowance day hrun hno hservice ht hrequested hrenew hd1 hd2 happlied => ?_⟩
  · refine congrArg Host.Outcome.next (if_neg ?_)
    rw [s.took_takesRunOrders_false _ (by simp [Instr.sentForm]) h]
    decide
  all_goals
    have hexec : exec (.setTime order target) s = .next ((s.took (.setTime order target)).setTime order target) :=
      congrArg Host.Outcome.next (if_pos (s.took_takesRunOrders_true _ (by simp [Instr.sentForm]) hrun hno))
    rw [hexec]
  · rw [State.setTime_commissioning (s.took (.setTime order target)) order target hservice hd]
    refine ⟨fun h0 => ?_, fun hne => ⟨_, rfl, ?_⟩⟩
    · rw [h0, State.applySet_zero]
      rfl
    · have hnew : target.toNat = (((s.took (.setTime order target)).calendar.t : Int) + d).toNat := by
        show _ = ((s.calendar.t : Int) + d).toNat
        omega
      rw [State.applySet_of_ne _ hne hnew]
      refine ⟨by simp [OnlyChanges], rfl, ?_⟩
      rw [Sends, State.answer_inFlight]
      simp only [List.append_assoc]
      rfl
  · have hrenewed := s.calendar.renewed_eq hrenew
    have hlimited : applied = limitedDelta (s.took (.setTime order target)).calendar.renewed.t
        (s.took (.setTime order target)).calendar.renewed.allowance requested := by
      show _ = limitedDelta s.calendar.renewed.t s.calendar.renewed.allowance requested
      rw [hrenewed, limitedDelta_eq, happlied, hd2, hd1]
    obtain ⟨b, hb⟩ : ∃ b, b = (s.took (.setTime order target)).onCalendar fun x => x.charged applied := ⟨_, rfl⟩
    have hcalendar : b.calendar = { s.calendar with allowance := allowance - applied.natAbs, allowanceDay := day } := by
      rw [hb]
      show s.calendar.charged applied = _
      rw [Calendar.charged, hrenewed]
    have hflight : b.inFlight = s.inFlight.erase (.setTime order target) := by rw [hb]; rfl
    have hcharge : allowance - applied.natAbs + applied.natAbs = allowance := by omega
    rw [State.setTime_inService (s.took (.setTime order target)) order target hservice hrequested hlimited, ← hb]
    by_cases h0 : applied = 0
    · subst h0
      rw [State.applySet_zero]
      refine ⟨_, rfl, ?_⟩
      simp only [State.answer_calendar, hcalendar]
      refine ⟨by simp [OnlyChanges, hb], by simp, ht, hcharge, trivial, trivial, trivial, fun _ => ⟨trivial, trivial, ?_⟩, fun hne => absurd rfl hne⟩
      rw [Sends, State.answer_inFlight, hflight]
      rfl
    · obtain ⟨new, hnew⟩ : ∃ new : Nat, (new : Int) = s.calendar.t + applied := ⟨((s.calendar.t : Int) + applied).toNat, by omega⟩
      have hto : new = ((b.calendar.t : Int) + applied).toNat := by
        rw [hcalendar]
        show new = ((s.calendar.t : Int) + applied).toNat
        omega
      rw [State.applySet_of_ne _ h0 hto]
      refine ⟨_, rfl, by simp [OnlyChanges, hb], ?_⟩
      simp only [State.answer_calendar, Calendar.setTo, hcalendar]
      refine ⟨hnew, by omega, hcharge, trivial, trivial, trivial, fun h => absurd h h0, fun _ => ⟨trivial, trivial, ?_⟩⟩
      rw [Sends, State.answer_inFlight]
      simp only [hflight, List.append_assoc]
      rfl

end Sys2Proof.Machine
end

section
/-! PROOFS. The adoption of a tariff (02_meter_time_and_the_tariff_table.md, R39 and R40): the ordered checks of an image, and the table that
an image holds (09_exchange_memory_and_the_link.md, R188). -/

namespace Sys2Proof.Machine

/-! ### Fields of an image -/

theorem beNat_append (bytes : List Byte) (b : Byte) : beNat (bytes ++ [b]) = beNat bytes * 256 + b.toNat := by
  simp [beNat]

/-- A field that lies within the bytes is the number that they spell there. -/
theorem fieldNat_eq_numberAt {bytes : List Byte} {offset n : Nat} (h : offset + n ≤ bytes.length) :
    fieldNat bytes offset n = numberAt bytes offset n := by
  induction n with
  | zero => simp [fieldNat, fieldBytes, numberAt, beNat]
  | succ n ih =>
    have hlt : n < (bytes.drop offset).length := by
      rw [List.length_drop]
      omega
    have hget : (bytes.drop offset)[n] = bytes.getD (offset + n) 0 := by
      rw [List.getElem_drop, List.getD_eq_getElem _ _ (by omega)]
    rw [numberAt, ← ih (by omega), fieldNat, fieldBytes, List.take_succ_eq_append_getElem hlt, beNat_append, hget]
    rfl

theorem numberAt_lt (bytes : List Byte) (offset n : Nat) : numberAt bytes offset n < 256 ^ n := by
  induction n with
  | zero => simp [numberAt]
  | succ n ih =>
    have hb := (bytes.getD (offset + n) 0).isLt
    rw [numberAt, pow_succ]
    omega

/-! ### The ordered checks (R39) -/

/-- The outcome of an item's check: none where no element fails, else the item with its first failing element. -/
structure Checks (item : Nat) (fails : Nat → Prop) (r : Option (Nat × Nat)) : Prop where
  none : (∀ i, ¬fails i) → r = none
  some : ∀ i, fails i → (∀ k, k < i → ¬fails k) → r = some (item, i)

theorem failsAt_checks {item count : Nat} {p : Nat → Bool} {fails : Nat → Prop} (h : ∀ i, fails i ↔ i < count ∧ p i = true) :
    Checks item fails (failsAt item p count) := by
  refine ⟨fun hnone => ?_, fun i hi hfirst => ?_⟩
  · have hfind : (List.range count).find? p = none :=
      List.find?_eq_none.2 fun i hi hp => hnone i ((h i).2 ⟨List.mem_range.1 hi, hp⟩)
    rw [failsAt, hfind]
    rfl
  · have hfind : (List.range count).find? p = some i := by
      obtain ⟨hlt, hp⟩ := (h i).1 hi
      refine List.find?_range_eq_some.2 ⟨hp, List.mem_range.2 hlt, fun k hk => ?_⟩
      rw [Bool.not_eq_true']
      exact Bool.eq_false_iff.2 fun hpk => hfirst k hk ((h k).2 ⟨hk.trans hlt, hpk⟩)
    rw [failsAt, hfind]
    rfl

theorem failsIf_checks {item : Nat} {p : Bool} {fails : Nat → Prop} (h : ∀ i, fails i ↔ i = 0 ∧ p = true) :
    Checks item fails (failsIf item p) := by
  refine ⟨fun hnone => if_neg fun hp => hnone 0 ((h 0).2 ⟨rfl, hp⟩), fun i hi _ => ?_⟩
  obtain ⟨rfl, hp⟩ := (h i).1 hi
  exact if_pos hp

/-- From item `low` on, the outcome of the checks is the first failing item with the first element that fails it. -/
structure FirstFault (fails : Nat → Nat → Prop) (low : Nat) (r : Option (Nat × Nat)) : Prop where
  none : (∀ j k, low ≤ j → ¬fails j k) → r = none
  some : ∀ item index, low ≤ item → fails item index →
    (∀ j k, low ≤ j → j < item ∨ (j = item ∧ k < index) → ¬fails j k) → r = some (item, index)

/-- An item's check comes before those of the later items, which are made once it has passed. -/
theorem FirstFault.cons {fails : Nat → Nat → Prop} {low : Nat} {a r : Option (Nat × Nat)} (ha : Checks low (fails low) a)
    (hr : (∀ k, ¬fails low k) → FirstFault fails (low + 1) r) : FirstFault fails low (a <|> r) := by
  refine ⟨fun h => ?_, fun item index hlow hfails hfirst => ?_⟩
  · have hpass : ∀ k, ¬fails low k := fun k => h low k le_rfl
    rw [ha.none hpass, (hr hpass).none fun j k hj => h j k (by omega)]
    rfl
  · rcases Nat.lt_or_eq_of_le hlow with hlt | rfl
    · have hpass : ∀ k, ¬fails low k := fun k => hfirst low k le_rfl (.inl hlt)
      rw [ha.none hpass, (hr hpass).some item index hlt hfails fun j k hj => hfirst j k (by omega)]
      rfl
    · rw [ha.some index hfails fun k hk => hfirst low k le_rfl (.inr ⟨rfl, hk⟩)]
      rfl

theorem FirstFault.last {fails : Nat → Nat → Prop} {low : Nat} {a : Option (Nat × Nat)} (ha : Checks low (fails low) a)
    (hlast : ∀ j k, low < j → ¬fails j k) : FirstFault fails low a := by
  refine ⟨fun h => ha.none fun k => h low k le_rfl, fun item index hlow hfails hfirst => ?_⟩
  rcases Nat.lt_or_eq_of_le hlow with hlt | rfl
  · exact absurd hfails (hlast item index hlt)
  · exact ha.some index hfails fun k hk => hfirst low k le_rfl (.inr ⟨rfl, hk⟩)

section
variable {image : List Byte} (hlen : image.length = 256)
include hlen

theorem pointFails_iff {base i : Nat} (h : base + 4 * i + 4 ≤ 256) : pointFails image base i = true ↔ PointFails image base i := by
  unfold pointFails PointFails imageSecond imageBand Config.daySeconds
  rw [fieldNat_eq_numberAt (by omega), fieldNat_eq_numberAt (by omega), fieldNat_eq_numberAt (by omega)]
  simp [or_assoc]

theorem windowFails_iff {i : Nat} (h : i < 4) : windowFails image i = true ↔ WindowFails image i := by
  unfold windowFails WindowFails imageStart imageStop imageMask Config.daySeconds
  rw [fieldNat_eq_numberAt (by omega), fieldNat_eq_numberAt (by omega), fieldNat_eq_numberAt (by omega)]
  simp [or_assoc]

/-- The check of an item of R39, once the item before it has passed; the items 3, 5 and 7 read the count that it bounds. -/
theorem imageChecks :
    Checks 1 (ItemFails image 1) (failsAt 1 (fun i => decide (16777215 < fieldNat image (4 * i) 4)) 4) ∧
    Checks 2 (ItemFails image 2) (failsIf 2 (decide (fieldNat image 0x10 1 < 1) || decide (8 < fieldNat image 0x10 1))) ∧
    ((∀ k, ¬ItemFails image 2 k) → Checks 3 (ItemFails image 3) (failsAt 3 (pointFails image 0x14) (fieldNat image 0x10 1))) ∧
    Checks 4 (ItemFails image 4) (failsIf 4 (decide (fieldNat image 0x34 1 < 1) || decide (8 < fieldNat image 0x34 1))) ∧
    ((∀ k, ¬ItemFails image 4 k) → Checks 5 (ItemFails image 5) (failsAt 5 (pointFails image 0x38) (fieldNat image 0x34 1))) ∧
    Checks 6 (ItemFails image 6) (failsIf 6 (decide (4 < fieldNat image 0x58 1))) ∧
    ((∀ k, ¬ItemFails image 6 k) → Checks 7 (ItemFails image 7) (failsAt 7 (windowFails image) (fieldNat image 0x58 1))) ∧
    Checks 8 (ItemFails image 8) (failsIf 8 (decide (6 < fieldNat image 0x7C 1) || decide (127 < fieldNat image 0x7D 1))) ∧
    Checks 9 (ItemFails image 9) (failsIf 9 (decide (16777215 < fieldNat image 0x80 4) ||
      decide (1000000000 < fieldNat image 0x84 4) || decide (1000000000 < fieldNat image 0x88 4))) ∧
    Checks 10 (ItemFails image 10) (failsIf 10 (decide (fieldNat image 0x88 4 < fieldNat image 0x8C 4))) := by
  have hfield : ∀ offset n, offset + n ≤ 256 → fieldNat image offset n = numberAt image offset n :=
    fun offset n h => fieldNat_eq_numberAt (by omega)
  rw [hfield 0x10 1 (by omega), hfield 0x34 1 (by omega), hfield 0x58 1 (by omega), hfield 0x7C 1 (by omega),
    hfield 0x7D 1 (by omega), hfield 0x80 4 (by omega), hfield 0x84 4 (by omega), hfield 0x88 4 (by omega), hfield 0x8C 4 (by omega)]
  refine ⟨failsAt_checks fun i => ?_, failsIf_checks fun i => ?_, fun h2 => failsAt_checks fun i => ?_, failsIf_checks fun i => ?_,
    fun h4 => failsAt_checks fun i => ?_, failsIf_checks fun i => ?_, fun h6 => failsAt_checks fun i => ?_, failsIf_checks fun i => ?_,
    failsIf_checks fun i => ?_, failsIf_checks fun i => ?_⟩
  · refine and_congr_right fun hi => ?_
    rw [hfield (4 * i) 4 (by omega), decide_eq_true_iff]
  · simp [ItemFails]
  · refine and_congr_right fun hi => (pointFails_iff hlen ?_).symm
    have hcount : ¬(0 = 0 ∧ (numberAt image 16 1 < 1 ∨ 8 < numberAt image 16 1)) := h2 0
    omega
  · simp [ItemFails]
  · refine and_congr_right fun hi => (pointFails_iff hlen ?_).symm
    have hcount : ¬(0 = 0 ∧ (numberAt image 52 1 < 1 ∨ 8 < numberAt image 52 1)) := h4 0
    omega
  · simp [ItemFails]
  · refine and_congr_right fun hi => (windowFails_iff hlen ?_).symm
    have hcount : ¬(0 = 0 ∧ 4 < numberAt image 88 1) := h6 0
    omega
  · simp [ItemFails]
  · simp [ItemFails, or_assoc]
  · simp [ItemFails]

/-- The fault of an image is its first failing item with the first element that fails it. -/
theorem imageFault_first : FirstFault (ItemFails image) 1 (imageFault image) := by
  obtain ⟨h1, h2, h3, h4, h5, h6, h7, h8, h9, h10⟩ := imageChecks hlen
  have hlast : ∀ j k, 10 < j → ¬ItemFails image j k := by
    intro j k hj h
    unfold ItemFails at h
    split at h <;> omega
  exact .cons h1 fun _ => .cons h2 fun p2 => .cons (h3 p2) fun _ => .cons h4 fun p4 => .cons (h5 p4) fun _ => .cons h6 fun p6 =>
    .cons (h7 p6) fun _ => .cons h8 fun _ => .cons h9 fun _ => .last h10 hlast

end

/-! ### The table that an image holds (R188, R32) -/

section
variable {image : List Byte}

/-- The counts of an image that passes the checks. -/
theorem image_counts (hpass : ∀ j k, ¬ItemFails image j k) : (1 ≤ numberAt image 16 1 ∧ numberAt image 16 1 ≤ 8) ∧ (1 ≤ numberAt image 52 1 ∧ numberAt image 52 1 ≤ 8) ∧
    numberAt image 88 1 ≤ 4 := by
  have h2 : ¬(0 = 0 ∧ (numberAt image 16 1 < 1 ∨ 8 < numberAt image 16 1)) := hpass 2 0
  have h4 : ¬(0 = 0 ∧ (numberAt image 52 1 < 1 ∨ 8 < numberAt image 52 1)) := hpass 4 0
  have h6 : ¬(0 = 0 ∧ 4 < numberAt image 88 1) := hpass 6 0
  omega

/-- A schedule that passes the checks is the one that the image holds, and lies in range. -/
theorem imageSchedule_read (hlen : image.length = 256) {base count : Nat} (hcount : 1 ≤ count ∧ count ≤ 8) (hbase : base + 32 ≤ 256)
    (hpoints : ∀ i, i < count → ¬PointFails image base i) :
    ScheduleRead image base count (imageSchedule image base count) ∧ ScheduleInRange (imageSchedule image base count) := by
  have hsecond : ∀ i, i < count → imageSecond image base i = numberAt image (base + 4 * i) 3 := fun i hi =>
    fieldNat_eq_numberAt (by omega)
  have hband : ∀ i, i < count → imageBand image base i = numberAt image (base + 4 * i + 3) 1 := fun i hi =>
    fieldNat_eq_numberAt (by omega)
  have hok : ∀ i, i < count → numberAt image (base + 4 * i) 3 < 86400 ∧ numberAt image (base + 4 * i + 3) 1 < 4 ∧
      (0 < i → numberAt image (base + 4 * (i - 1)) 3 < numberAt image (base + 4 * i) 3) := fun i hi => by
    have hp := hpoints i hi
    unfold PointFails at hp
    omega
  have hascend : ∀ j, j < count → ∀ i, i < j → imageSecond image base i < imageSecond image base j := by
    intro j
    induction j with
    | zero => omega
    | succ j ih =>
      intro hj i hi
      have hstep : imageSecond image base j < imageSecond image base (j + 1) := by
        rw [hsecond j (by omega), hsecond (j + 1) hj]
        exact (hok (j + 1) hj).2.2 (by omega)
      rcases Nat.lt_or_eq_of_le (Nat.le_of_lt_succ hi) with hlt | rfl
      · exact (ih (by omega) i hlt).trans hstep
      · exact hstep
  refine ⟨⟨by simp [imageSchedule], fun i p hp => ?_⟩, by simp [imageSchedule, hcount.1], by simp [imageSchedule, hcount.2], fun p hp => ?_, ?_⟩
  · simp only [imageSchedule, List.getElem?_map, Option.map_eq_some_iff] at hp
    obtain ⟨k, hk, rfl⟩ := hp
    obtain ⟨hi, rfl⟩ := List.getElem?_eq_some_iff.1 hk
    simp only [List.length_range] at hi
    simp only [List.getElem_range, Fin.val_ofNat]
    refine ⟨hsecond i hi, ?_⟩
    rw [hband i hi, Nat.mod_eq_of_lt (hok i hi).2.1]
  · simp only [imageSchedule, List.mem_map, List.mem_range] at hp
    obtain ⟨i, hi, rfl⟩ := hp
    have := (hok i hi).1
    simp only [hsecond i hi]
    omega
  · simp only [imageSchedule, List.pairwise_map]
    refine List.pairwise_iff_getElem.2 fun i j hi hj hij => ?_
    simp only [List.length_range] at hj
    simpa using hascend j hj i hij

/-- The table of an image that passes the checks. -/
theorem imageTariff_read (hlen : image.length = 256) (hpass : ∀ j k, ¬ItemFails image j k) :
    TableRead image (imageTariff image) ∧ TariffInRange (imageTariff image) := by
  obtain ⟨hwork, hrest, hwindows⟩ := image_counts hpass
  have hfield : ∀ offset n, offset + n ≤ 256 → fieldNat image offset n = numberAt image offset n :=
    fun offset n h => fieldNat_eq_numberAt (by omega)
  have hrate : ∀ i : Fin 4, (imageTariff image).rates[i] = numberAt image (4 * i.val) 4 := by
    intro i
    fin_cases i <;> exact hfield _ _ (by decide)
  have h1 : ∀ i : Fin 4, ¬(i.val < 4 ∧ 16777215 < numberAt image (4 * i.val) 4) := fun i => hpass 1 i.val
  have h8 : ¬(0 = 0 ∧ (6 < numberAt image 124 1 ∨ 127 < numberAt image 125 1)) := hpass 8 0
  have h9 : ¬(0 = 0 ∧ (16777215 < numberAt image 128 4 ∨ 1000000000 < numberAt image 132 4 ∨ 1000000000 < numberAt image 136 4)) :=
    hpass 9 0
  have h10 : ¬(0 = 0 ∧ numberAt image 136 4 < numberAt image 140 4) := hpass 10 0
  have hwin : ∀ i, i < numberAt image 88 1 → ¬WindowFails image i := fun i hi hw => hpass 7 i ⟨hi, hw⟩
  obtain ⟨hworkRead, hworkRange⟩ := imageSchedule_read hlen (base := 20) hwork (by omega) fun i hi hp => hpass 3 i ⟨hi, hp⟩
  obtain ⟨hrestRead, hrestRange⟩ := imageSchedule_read hlen (base := 56) hrest (by omega) fun i hi hp => hpass 5 i ⟨hi, hp⟩
  have hstart : ∀ i, i < 4 → imageStart image i = numberAt image (92 + 8 * i) 3 := fun i hi => hfield _ _ (by omega)
  have hstop : ∀ i, i < 4 → imageStop image i = numberAt image (92 + 8 * i + 3) 3 := fun i hi => hfield _ _ (by omega)
  have hmask : ∀ i, i < 4 → imageMask image i = numberAt image (92 + 8 * i + 6) 1 := fun i hi => hfield _ _ (by omega)
  have hworkday : (imageTariff image).workday = imageSchedule image 20 (numberAt image 16 1) := by
    rw [← hfield 16 1 (by omega)]; rfl
  have hrestDay : (imageTariff image).restDay = imageSchedule image 56 (numberAt image 52 1) := by
    rw [← hfield 52 1 (by omega)]; rfl
  have hwindow : (imageTariff image).windows = (List.range (numberAt image 88 1)).map fun i =>
      ⟨imageStart image i, imageStop image i, BitVec.ofNat 7 (imageMask image i)⟩ := by
    rw [← hfield 88 1 (by omega)]; rfl
  have hw0 : (imageTariff image).w0 = numberAt image 124 1 := hfield _ _ (by omega)
  have hrestMask : (imageTariff image).restMask.toNat = numberAt image 125 1 % 2 ^ 7 := by
    rw [← hfield 125 1 (by omega)]; rfl
  have hsc : (imageTariff image).sc = numberAt image 128 4 := hfield _ _ (by omega)
  have hlow : (imageTariff image).lowT = numberAt image 132 4 := hfield _ _ (by omega)
  have hdf : (imageTariff image).df = numberAt image 136 4 := hfield _ _ (by omega)
  have hec : (imageTariff image).ec = numberAt image 140 4 := hfield _ _ (by omega)
  refine ⟨⟨hrate, hworkday ▸ hworkRead, hrestDay ▸ hrestRead, ?_, fun i v hv => ?_, hw0, ?_, hsc, hlow, hdf, hec⟩,
    ⟨fun i => ?_, hworkday ▸ hworkRange, hrestDay ▸ hrestRange, ?_, fun v hv => ?_, by omega, by omega, by omega, by omega, by omega⟩⟩
  · simp [hwindow]
  · simp only [hwindow, List.getElem?_map, Option.map_eq_some_iff] at hv
    obtain ⟨k, hk, rfl⟩ := hv
    obtain ⟨hi, rfl⟩ := List.getElem?_eq_some_iff.1 hk
    simp only [List.length_range] at hi
    simp only [List.getElem_range, BitVec.toNat_ofNat]
    have hok := hwin i hi
    unfold WindowFails at hok
    refine ⟨hstart i (by omega), hstop i (by omega), ?_⟩
    rw [hmask i (by omega), Nat.mod_eq_of_lt (by omega)]
  · rw [hrestMask, Nat.mod_eq_of_lt (by omega)]
  · have hi := h1 i
    rw [hrate i]
    omega
  · simpa [hwindow] using hwindows
  · simp only [hwindow, List.mem_map, List.mem_range] at hv
    obtain ⟨i, hi, rfl⟩ := hv
    have hok := hwin i hi
    unfold WindowFails at hok
    simp only [hstart i (by omega), hstop i (by omega)]
    omega

end

/-- Settles O17: an image that is not taken, one refused at its first fault, and one adopted. -/
theorem tariffImageRefusedOrAdopted : Obligations.TariffImageRefusedOrAdopted := by
  intro s order image hlen
  obtain ⟨hnone, hsome⟩ := imageFault_first hlen
  have hexec : s.supply.power = .run → .engineHoldEntry ∉ s.inFlight →
      exec (.tariffImageArrival order image) s = .next ((s.took (.tariffImageArrival order image)).takeImage order image) :=
    fun hrun hno => congrArg Host.Outcome.next (if_pos (s.took_takesRunOrders_true _ (by simp [Instr.sentForm]) hrun hno))
  refine ⟨fun h => congrArg Host.Outcome.next (if_neg ?_), fun item index hrun hno hfails hfirst => ?_, fun hrun hno hpass => ?_⟩
  · rw [s.took_takesRunOrders_false _ (by simp [Instr.sentForm]) h]
    decide
  · have hitem : 1 ≤ item := by
      rcases item with _ | n
      · exact hfails.elim
      · omega
    rw [hexec hrun hno]
    simp only [State.takeImage, hsome item index hitem hfails fun j k _ h => hfirst j k h]
    rfl
  · obtain ⟨hread, hrange⟩ := imageTariff_read hlen hpass
    rw [hexec hrun hno]
    simp only [State.takeImage, hnone fun j k _ => hpass j k]
    refine ⟨_, rfl, by simp [OnlyChanges], hread, hrange, rfl, ?_⟩
    rw [Sends, State.answer_inFlight]
    simp only [State.journal, State.send, List.append_assoc]
    rfl

end Sys2Proof.Machine
end

section
/-! PROOFS. The words of the Tamper Unit (06_tamper_detection.md): source records, the TAMPER reason, occurrences, injections and clears. -/

namespace Sys2Proof.Machine

/-! ### Source records -/

theorem Source.ofNumber_index (i : Source) : Source.ofNumber i.index.val = some i := by
  cases i <;> rfl

theorem Source.index_inj {i j : Source} (h : i.index = j.index) : i = j := by
  have hsome : some i = some j := by
    rw [← Source.ofNumber_index, ← Source.ofNumber_index, h]
  exact Option.some.inj hsome

@[simp] theorem Tamper.record_setRecord_same (x : Tamper) (i : Source) (r : SourceRecord) : (x.setRecord i r).record i = r :=
  Vector.getElem_set_self i.index.isLt

theorem Tamper.record_setRecord_ne (x : Tamper) {i j : Source} (r : SourceRecord) (h : j ≠ i) :
    (x.setRecord i r).record j = x.record j :=
  Vector.getElem_set_ne i.index.isLt j.index.isLt fun he => h (Source.index_inj (Fin.ext he.symm))

theorem Tamper.record_setRecord (x : Tamper) (i j : Source) (r : SourceRecord) :
    (x.setRecord i r).record j = if j = i then r else x.record j := by
  by_cases h : j = i
  · rw [if_pos h, h, Tamper.record_setRecord_same]
  · rw [if_neg h, Tamper.record_setRecord_ne x r h]

theorem Source.mem_all (i : Source) : i ∈ Source.all := by
  cases i <;> decide

/-! ### The TAMPER reason -/

theorem State.tamperCondition_iff (s : State) : s.tamperCondition = true ↔
    ∃ i : Source, (s.tamper.record i).latch = true ∧ (s.effectiveMask i).testBit 0 = true := by
  simp [State.tamperCondition, maskLock, List.any_eq_true, Source.mem_all]

theorem State.reevaluateTamper_reasoned (s : State) : TamperReasoned s (s.reevaluateTamper false) := by
  rw [State.reevaluateTamper]
  by_cases h : s.tamperCondition = s.tamper.requested
  · rw [if_neg (by simp [h])]
    exact ⟨by rw [← h]; exact s.tamperCondition_iff, by simp⟩
  · rw [if_pos (by simp [h])]
    exact ⟨s.tamperCondition_iff, by simp [State.send, State.onTamper, h]⟩

/-- At a warm start the request goes out whether or not it agrees. -/
theorem State.reevaluateTamper_true (s : State) : s.reevaluateTamper true = { s with
    tamper := { s.tamper with requested := s.tamperCondition }
    inFlight := s.inFlight ++ [.reasonRequest s.tamperCondition .tamper] } := rfl

/-! ### Occurrences -/

theorem State.perform_eq (s : State) (mask time : Nat) (e : Event) : s.perform mask time e = { s with
    exchange := if mask.testBit 2 then { s.exchange with notices := s.exchange.notices ||| 0x08#8 } else s.exchange
    inFlight := s.inFlight ++ if mask.testBit 1 then [.entryArrival ⟨time, e⟩] else [] } := by
  rw [State.perform, maskJournal, maskNotice]
  by_cases hj : mask.testBit 1 = true <;> by_cases hn : mask.testBit 2 = true <;>
    simp [hj, hn, State.journalAt, State.send, State.raise, State.onExchange, Notice.bit]

theorem State.recordOccurrence_standby {s : State} (h : s.tamper.hold = true) :
    OccurrenceRecorded .case s (s.recordOccurrence .case) [] := by
  have heq : s.recordOccurrence .case = s.onTamper fun x => (x.setRecord .case ((x.record .case).occur s.calendar.t)).setRecord .case
      ((((x.setRecord .case ((x.record .case).occur s.calendar.t))).record .case).standbyMark s.calendar.t) := by
    rw [State.recordOccurrence]
    exact if_pos ⟨rfl, h⟩
  rw [heq]
  exact {
    record := by
      rw [if_pos (⟨rfl, h⟩ : Source.case = .case ∧ s.tamper.hold = true)]
      simp only [State.onTamper, Tamper.record_setRecord_same, SourceRecord.standbyMark, SourceRecord.occur]
      cases (s.tamper.record .case).standby <;> rfl
    others := fun j hj => by
      simp only [State.onTamper, Tamper.record_setRecord_ne _ _ hj]
    inHold := fun _ _ => ⟨rfl, rfl⟩
    entryMade := fun hn => absurd ⟨rfl, h⟩ hn
    noticeSet := fun hn => absurd ⟨rfl, h⟩ hn
    rest := by simp [State.onTamper, Tamper.setRecord] }

theorem State.recordOccurrence_actions {i : Source} {s : State} (h : ¬(i = .case ∧ s.tamper.hold = true)) :
    ∃ entry, OccurrenceRecorded i s (s.recordOccurrence i) entry := by
  obtain ⟨v, hv⟩ : ∃ v : Tamper, v = s.tamper.setRecord i ((s.tamper.record i).occur s.calendar.t) := ⟨_, rfl⟩
  have heq : s.recordOccurrence i = ({ s with tamper := v } : State).perform (s.effectiveMask i) s.calendar.t
      (.tamper i false false (v.values i).1 (v.values i).2) := by
    rw [State.recordOccurrence, hv]
    exact if_neg h
  have hothers : ∀ j, j ≠ i → v.record j = s.tamper.record j := fun j hj => by
    rw [hv]
    exact Tamper.record_setRecord_ne _ _ hj
  have hi : v.record i = (s.tamper.record i).occur s.calendar.t := by
    rw [hv, Tamper.record_setRecord_same]
  have hreports : v.imbalance = s.tamper.imbalance ∧ v.reverseFlow = s.tamper.reverseFlow ∧ v.bypass = s.tamper.bypass := by
    rw [hv]
    exact ⟨rfl, rfl, rfl⟩
  obtain ⟨himb, hrev, hbyp⟩ := hreports
  rw [heq, State.perform_eq]
  exact ⟨if (s.effectiveMask i).testBit 1 then
      [.entryArrival ⟨s.calendar.t, .tamper i false false (v.values i).1 (v.values i).2⟩] else [], {
    record := by
      rw [if_neg h]
      exact hi
    others := hothers
    inHold := fun hc hh => absurd ⟨hc, hh⟩ h
    entryMade := fun _ => by
      cases i <;> simp only [Tamper.values, hi, SourceRecord.occur, himb, hrev, hbyp]
    noticeSet := fun _ => rfl
    rest := by subst hv; rfl }⟩

theorem State.recordOccurrence_recorded (s : State) (i : Source) :
    ∃ entry, OccurrenceRecorded i s (s.recordOccurrence i) entry := by
  by_cases h : i = .case ∧ s.tamper.hold = true
  · obtain ⟨rfl, hh⟩ := h
    exact ⟨[], State.recordOccurrence_standby hh⟩
  · exact State.recordOccurrence_actions h

theorem State.occur_occurred (s : State) (i : Source) : Occurred i s (s.occur i) := by
  obtain ⟨entry, hrec⟩ := s.recordOccurrence_recorded i
  refine ⟨s.recordOccurrence i, entry, hrec, ?_⟩
  rw [State.occur]
  by_cases h : i = .case ∧ s.tamper.hold = true
  · rw [if_pos h, if_pos h]
  · rw [if_neg h, if_neg h]
    exact State.reevaluateTamper_reasoned _

theorem Tamper.absorbs_iff (x : Tamper) (i : Source) :
    x.absorbs i = true ↔ x.hold = false ∧ ∃ j, x.injection = some j ∧ j.target = i := by
  cases h : x.injection <;> simp [Tamper.absorbs, h]

theorem State.qualify_takenAsReal (s : State) (i : Source) : TakenAsReal i s (s.qualify i) :=
  ⟨fun h => if_pos ((Tamper.absorbs_iff _ _).mpr h), fun h => by
    rw [State.qualify, if_neg fun hb => h ((Tamper.absorbs_iff _ _).mp hb)]
    exact s.occur_occurred i⟩

/-! ### Injections -/

theorem Tamper.qualified_iff (x : Tamper) (i : Source) : x.qualified i = true ↔ RealQualified x i := by
  cases i <;> simp [Tamper.qualified, RealQualified]

theorem Energy.force_eq (x : Energy) (i : Source) (on : Bool) : x.force i on = forcedTo x on i := by
  cases i <;> rfl

theorem State.withdrawInjection_withdrawn (s : State) : InjectionWithdrawn s s.withdrawInjection := by
  refine ⟨fun hnone => by rw [State.withdrawInjection, hnone], fun j u hj hu => ?_⟩
  have heq : s.withdrawInjection = if (s.tamper.record j.target).active then u
      else if s.tamper.qualified j.target then u.occur j.target else u := by
    obtain ⟨target, _, _, _, _, _⟩ := j
    rw [State.withdrawInjection, hj, hu, ← Energy.force_eq]
    cases target <;> rfl
  constructor
  · intro hq hact
    rw [heq, if_neg (by simp [hact]), if_pos ((Tamper.qualified_iff _ _).mpr hq)]
    exact u.occur_occurred _
  · intro hn
    rw [heq]
    by_cases hact : (s.tamper.record j.target).active = true
    · rw [if_pos hact]
    · rw [if_neg hact, if_neg fun hq => hn ⟨(Tamper.qualified_iff _ _).mp hq, by simpa using hact⟩]

theorem State.testOccurrence_testOccurred (s : State) (j : Injection) : TestOccurred j s (s.testOccurrence j) := by
  have heq : s.testOccurrence j = State.withdrawInjection { s with
      inFlight := s.inFlight ++ [.entryArrival ⟨s.calendar.t, .tamper j.target true false j.timer 0⟩,
        .ownerAnswer j.order .ok (.testOk j.target.index.val j.timer s.calendar.t)] } := by
    rw [State.testOccurrence]
    simp only [State.journal, State.answer, State.send, List.append_assoc]
    rfl
  rw [heq]
  exact State.withdrawInjection_withdrawn _

/-! ### Block reports -/

/-- The sources whose condition the block reports bring. -/
theorem State.compareReport_compared (s : State) {i : Source} (hi : i = .imbalance ∨ i = .reverse ∨ i = .bypass) :
    ReportCompared i s (s.compareReport i) := by
  have hrep : (s.tamper.report i).qualified = true ↔ RealQualified s.tamper i := by
    obtain rfl | rfl | rfl := hi <;> rfl
  rw [State.compareReport]
  by_cases hq : RealQualified s.tamper i
  · rw [if_pos (hrep.mpr hq)]
    by_cases hact : (s.tamper.record i).active = true
    · rw [if_pos hact]
      exact ⟨fun _ h => absurd hact (by simp [h]), fun h => absurd hq h, fun _ => rfl⟩
    · rw [if_neg hact]
      exact ⟨fun _ _ => s.qualify_takenAsReal i, fun h => absurd hq h, fun h => absurd (h.mp hq) hact⟩
  · rw [if_neg fun h => hq (hrep.mp h)]
    by_cases hact : (s.tamper.record i).active = true
    · rw [if_pos hact]
      exact ⟨fun h => absurd h hq, fun _ _ => rfl, fun h => absurd (h.mpr hact) hq⟩
    · rw [if_neg hact]
      exact ⟨fun h => absurd h hq, fun _ h => absurd h hact, fun _ => rfl⟩

theorem State.compareReports_compared (s : State) : ReportsCompared s s.compareReports :=
  ⟨_, _, s.compareReport_compared (.inl rfl), State.compareReport_compared _ (.inr (.inl rfl)),
    State.compareReport_compared _ (.inr (.inr rfl))⟩

/-! ### Clears -/

theorem flagSum_testBit (i : Source) : ∀ a b c d e g : Bool,
    (flagNat a + 2 * flagNat b + 4 * flagNat c + 8 * flagNat d + 16 * flagNat e + 32 * flagNat g).testBit i.index.val =
      match i with
      | .case => a
      | .terminal => b
      | .magnet => c
      | .imbalance => d
      | .reverse => e
      | .bypass => g := by
  cases i <;> decide

theorem sourceBits_testBit (f : Source → Bool) (i : Source) : (sourceBits f).testBit i.index.val = f i := by
  rw [sourceBits, flagSum_testBit]
  cases i <;> rfl

theorem Tamper.latches_getLsbD (x : Tamper) (i : Source) : x.latches.getLsbD i.index.val = (x.record i).latch := by
  rw [Tamper.latches, BitVec.getLsbD_ofNat, sourceBits_testBit]
  simp

/-- One source's latch cleared, where it is named. -/
def Tamper.clearLatch (x : Tamper) (named : Source → Bool) (i : Source) : Tamper :=
  if named i then x.setRecord i { x.record i with latch := false } else x

theorem Tamper.clearLatches_eq (x : Tamper) (mask : BitVec 6) : x.clearLatches mask =
    Source.all.foldl (fun y i => y.clearLatch (fun k => mask.getLsbD k.index.val) i) x := rfl

theorem Tamper.clearLatch_record (x : Tamper) (named : Source → Bool) (i j : Source) : (x.clearLatch named j).record i =
    if i = j ∧ named i = true then { x.record i with latch := false } else x.record i := by
  rw [Tamper.clearLatch]
  by_cases hij : i = j
  · subst hij
    cases hm : named i <;> simp
  · cases hm : named j <;> simp [hij, Tamper.record_setRecord_ne]

theorem Tamper.clearLatch_fold_record (named : Source → Bool) (l : List Source) (x : Tamper) (i : Source) :
    (l.foldl (fun y j => y.clearLatch named j) x).record i =
      if i ∈ l ∧ named i = true then { x.record i with latch := false } else x.record i := by
  induction l generalizing x with
  | nil => simp
  | cons j l ih =>
    rw [List.foldl_cons, ih, Tamper.clearLatch_record]
    by_cases hij : i = j
    · cases hm : named i <;> simp [hij]
    · simp [hij]

theorem Tamper.clearLatches_record (x : Tamper) (mask : BitVec 6) (i : Source) : (x.clearLatches mask).record i =
    if mask.getLsbD i.index.val then { x.record i with latch := false } else x.record i := by
  rw [Tamper.clearLatches_eq, Tamper.clearLatch_fold_record]
  simp [Source.mem_all]

theorem Tamper.clearLatch_fold_rest (named : Source → Bool) (l : List Source) (x : Tamper) :
    l.foldl (fun y j => y.clearLatch named j) x =
      { x with records := (l.foldl (fun y j => y.clearLatch named j) x).records } := by
  induction l generalizing x with
  | nil => rfl
  | cons j l ih =>
    rw [List.foldl_cons, ih, Tamper.clearLatch]
    split <;> rfl

theorem State.reoccurOne_again (s : State) (mask : BitVec 6) (i : Source) : OccursAgain mask i s (s.reoccurOne mask i) := by
  refine ⟨fun hm hact => ?_, fun hn => ?_⟩
  · rw [State.reoccurOne, hm, hact]
    exact s.recordOccurrence_recorded i
  · rw [State.reoccurOne, if_neg (by simpa using hn)]

theorem State.clearSources_cleared (s : State) (byOrder : Bool) (mask : BitVec 6) :
    SourcesCleared byOrder mask s (s.clearSources byOrder mask) := by
  refine ⟨s.tamper.latches &&& mask, _, _, _, _, _, _, _, fun i => ?_, fun i => s.tamper.clearLatches_record mask i, ?_,
    State.reoccurOne_again _ mask .case, State.reoccurOne_again _ mask .terminal, State.reoccurOne_again _ mask .magnet,
    State.reoccurOne_again _ mask .imbalance, State.reoccurOne_again _ mask .reverse, State.reoccurOne_again _ mask .bypass,
    State.reevaluateTamper_reasoned _⟩
  · rw [BitVec.getLsbD_and, Tamper.latches_getLsbD, Bool.and_comm]
  · exact congrArg (fun x : Tamper => { s with
      tamper := x
      inFlight := s.inFlight ++ [Instr.entryArrival ⟨s.calendar.t, .tamperCleared byOrder mask (s.tamper.latches &&& mask)⟩] })
      (Tamper.clearLatch_fold_rest (fun k => mask.getLsbD k.index.val) Source.all s.tamper)

end Sys2Proof.Machine
end

section
/-! PROOFS. The arrivals of the Tamper Unit (06_tamper_detection.md): lines, seconds, block results, clears, HOLD and the warm start,
injections. -/

namespace Sys2Proof.Machine

/-! ### Lines -/

theorem State.lineTaken_iff (s : State) (l : Line) :
    s.lineTaken l = true ↔ s.supply.retention = true ∧ (l = .case ∨ s.tamper.hold = false) := by
  simp [State.lineTaken]

theorem Tamper.line_setLine (x : Tamper) (l : Line) (g : LineStage) : (x.setLine l g).line l = g := by
  cases l <;> rfl

/-- An unchanged stage put back. -/
theorem Tamper.setLine_line (x : Tamper) (l : Line) : x.setLine l (x.line l) = x := by
  cases l <;> rfl

theorem Tamper.setLine_record (x : Tamper) (l : Line) (g : LineStage) (i : Source) : (x.setLine l g).record i = x.record i := by
  cases l <;> rfl

/-- Settles O32, by the level that the line goes to and the stage that it leaves. -/
theorem linesQualify : Obligations.LinesQualify := by
  intro s l taken htaken
  refine ⟨fun base x tampered hbase hx => ?_, fun ht hl hstage => ?_, fun hn => ?_⟩
  · have hexec : exec (.lineChange l tampered) s =
        .next (if s.lineTaken l then { base with tamper := s.tamper.moveLine l tampered } else base) := by
      rw [hbase]
      rfl
    have hmoved : taken → exec (.lineChange l tampered) s = .next { base with tamper := s.tamper.moveLine l tampered } :=
      fun ht => by rw [hexec, if_pos ((s.lineTaken_iff l).mpr (htaken.mp ht))]
    refine ⟨fun hn => ?_, fun ht htam hstage => ?_, fun ht htam hstage => ?_, fun ht htam hstage => ?_, fun ht htam hstage => ?_⟩
    · rw [hexec, if_neg fun h => hn (htaken.mpr ((s.lineTaken_iff l).mp h))]
    · rw [hmoved ht, htam, Tamper.moveLine, if_pos rfl, LineStage.enter, if_pos hstage]
    · rw [hmoved ht, htam, Tamper.moveLine, if_pos rfl, LineStage.enter, if_neg hstage, Tamper.setLine_line, hbase]
    · rw [hmoved ht, htam, hx, Tamper.moveLine, if_neg Bool.false_ne_true, if_neg hstage]
    · rw [hmoved ht, htam, hx, Tamper.moveLine, if_neg Bool.false_ne_true, if_pos hstage, Tamper.deactivate, Tamper.setLine_record]
  · have heq : s.lineExpiry l = State.qualify { s with tamper := s.tamper.setLine l ⟨.qualified, 50⟩ } (Line.source l) :=
      if_pos ⟨hstage, (s.lineTaken_iff l).mpr (htaken.mp ht), hl⟩
    exact ⟨_, congrArg Host.Outcome.next heq, State.qualify_takenAsReal _ _⟩
  · exact congrArg Host.Outcome.next
      (if_neg fun ⟨hstage, htake, hl⟩ => hn ⟨htaken.mpr ((s.lineTaken_iff l).mp htake), hl, hstage⟩)

/-! ### Seconds -/

theorem Tamper.magnetReached_iff (x : Tamper) : x.magnetReached = true ↔
    (x.magnetLine.stage = .pending ∧ 2 ≤ x.magnetLine.timer + 1) ∨
      ∃ j, x.injection = some j ∧ j.target = .magnet ∧ j.stage = .pending ∧ 2 ≤ j.forcedTimer + 1 := by
  cases h : x.injection <;> simp [Tamper.magnetReached, h, Config.magnetSeconds, and_assoc]

/-- Settles O33, by the two branches of the real line's second and of the forced stage's. -/
theorem magnetSecondsCounted : Obligations.MagnetSecondsCounted := by
  intro s base c reached hbase hreached
  have htamper : s.tamper = base.tamper := by rw [hbase]
  have hsecond : exec .tamperSecond s = .next (if s.tamper.hold then base else base.tamperSecond) := by
    rw [hbase]
    rfl
  refine ⟨fun hh => by rw [hsecond, if_pos hh], fun hh hc => ?_⟩
  have hexec : exec c s = .next base.tamperSecond := by
    obtain rfl | ⟨rfl, hr⟩ := hc
    · rw [hsecond, if_neg (by simp [hh])]
    · have hb : (!s.tamper.hold && s.tamper.magnetReached) = true := by
        rw [hh, (Tamper.magnetReached_iff _).mpr (hreached.mp hr)]
        rfl
      rw [hbase]
      exact if_pos hb
  rw [htamper]
  refine ⟨_, hexec, base.magnetSecond, fun hst => if_neg hst, fun hst hlt => ?_, fun hst hle => ?_, fun hn => ?_,
    fun j x hj htarget hstage hx => ⟨fun hlt => ?_, fun hle => ?_⟩⟩
  · rw [State.magnetSecond, if_pos hst, if_pos (show _ < Config.magnetSeconds from hlt)]
    rfl
  · rw [State.magnetSecond, if_pos hst, if_neg (show ¬_ < Config.magnetSeconds from Nat.not_lt.mpr hle)]
    exact State.qualify_takenAsReal _ _
  · rw [State.tamperSecond, State.forcedMagnetSecond]
    cases hj : base.magnetSecond.tamper.injection with
    | none => rfl
    | some j => exact if_neg fun ⟨htarget, hstage⟩ => hn ⟨j, hj, htarget, hstage⟩
  · rw [hx, State.tamperSecond, State.forcedMagnetSecond, hj]
    simp [htarget, hstage, hlt, Config.magnetSeconds, State.onTamper]
  · have heq : base.tamperSecond = ({ base.magnetSecond with
        tamper := { base.magnetSecond.tamper with injection := some x } } : State).testOccurrence x := by
      rw [hx, State.tamperSecond, State.forcedMagnetSecond, hj]
      have hnlt : ¬j.forcedTimer + 1 < 2 := by omega
      simp [htarget, hstage, hnlt, Config.magnetSeconds, State.onTamper]
    rw [heq]
    exact State.testOccurrence_testOccurred _ _

/-! ### Block results -/

theorem BlockReport.replace_eq (b : BlockReport) (q : Bool) (a c : Nat) : b.replace q a c =
    if q = true then (if b.qualified = true then b else ⟨true, a, c⟩) else { b with qualified := false } := rfl

/-- Settles O34: the test occurrence first, then the three reports. -/
theorem blockReportsTaken : Obligations.BlockReportsTaken := by
  intro s r
  refine ⟨fun base hbase => ?_, ⟨_, rfl, State.compareReports_compared _⟩⟩
  have htamper : s.tamper = base.tamper := by rw [hbase]
  have hexec : exec (.tamperBlockResult r) s = .next (if s.tamper.hold then base else base.tamperBlock r) := by
    rw [hbase]
    rfl
  refine ⟨fun hh => by rw [hexec, if_pos hh], fun hh => ?_⟩
  rw [htamper]
  refine ⟨base.tamperBlock r, by rw [hexec, if_neg (by simp [hh])], base.blockTest r, fun hno => ?_, fun j hj htest => ?_,
    State.compareReports_compared _⟩
  · rw [State.blockTest]
    cases hj : base.tamper.injection with
    | none => rfl
    | some j => exact if_neg (by simp [hno j hj])
  · have heq : base.blockTest r = base.testOccurrence j := by
      rw [State.blockTest, hj]
      exact if_pos htest
    rw [heq]
    exact base.testOccurrence_testOccurred j

/-! ### Clears -/

theorem or_three_testBit (m k : Nat) : (m ||| 3).testBit k = (m.testBit k || decide (k < 2)) := by
  have h3 : (3 : Nat).testBit k = decide (k < 2) := by
    rw [show (3 : Nat) = 2 ^ 2 - 1 from rfl, Nat.testBit_two_pow_sub_one]
  rw [Nat.testBit_or, h3]

theorem State.effectiveMask_testBit (s : State) (i : Source) (k : Nat) : (s.effectiveMask i).testBit k =
    ((s.setting i.maskSetting).testBit k || decide (i = .case ∧ s.settings.service = .inService ∧ k < 2)) := by
  rw [State.effectiveMask]
  by_cases h : i = .case ∧ s.settings.service = .inService
  · rw [if_pos h, or_three_testBit]
    simp [h]
  · rw [if_neg h, decide_eq_false fun ⟨hi, hs, _⟩ => h ⟨hi, hs⟩, Bool.or_false]

/-- Settles O35: the mask bit by bit, and the clear of a code and of an order. -/
theorem sourcesClearedByCodeAndOrder : Obligations.SourcesClearedByCodeAndOrder := by
  intro s
  refine ⟨fun i k => ?_, fun mask => ?_, fun order mask base hbase => ?_⟩
  · rw [s.effectiveMask_testBit]
    cases i <;> rfl
  · exact ⟨_, rfl, _, State.clearSources_cleared _ false mask, State.codeAccepted_eq _ _⟩
  · have hexec : exec (.clearTamper order mask) s = .next (base.clearOrder order mask) := by
      rw [hbase]
      rfl
    have hservice : s.settings.service = base.settings.service := by rw [hbase]
    rw [hexec, hservice]
    refine ⟨fun hs => ?_, fun hs hm => ?_, fun hs hne hle => ?_⟩
    · rw [State.clearOrder, if_pos hs]
      rfl
    · rw [State.clearOrder, if_neg (by simp [hs]), if_pos hm]
      rfl
    · have heq : base.clearOrder order mask = (base.clearSources true (mask.setWidth 6)).answer order .ok
          (.clearTamper (mask.setWidth 6) (base.clearSources true (mask.setWidth 6)).tamper.latches) := by
        rw [State.clearOrder, if_neg (by simp [hs]), if_neg fun h => h.elim hne (by omega)]
      exact ⟨_, hexec.trans (congrArg Host.Outcome.next heq), _, _, State.clearSources_cleared _ true _, Tamper.latches_getLsbD _, rfl⟩

/-! ### HOLD and the warm start -/

theorem Tamper.restLines_record (x : Tamper) (i : Source) : x.restLines.record i =
    if i = .terminal ∨ i = .magnet then { x.record i with active := false } else x.record i := by
  rw [Tamper.restLines, Tamper.deactivate, Tamper.deactivate, Tamper.record_setRecord, Tamper.record_setRecord,
    Tamper.record_setRecord]
  cases i <;> rfl

/-- A qualified CASE that an injection absorbs stands without its active bit: its standby occurrence is owed (R133). -/
def Tamper.owesCase (x : Tamper) : Bool := x.absorbs .case && x.qualified .case && !(x.record .case).active

theorem Tamper.owesCase_iff (x : Tamper) : x.owesCase = true ↔ x.hold = false ∧
    (∃ j, x.injection = some j ∧ j.target = .case) ∧ x.caseLine.stage = .qualified ∧ (x.record .case).active = false := by
  rw [Tamper.owesCase, Bool.and_eq_true, Bool.and_eq_true, Tamper.absorbs_iff, Tamper.qualified_iff, Bool.not_eq_true']
  simp only [RealQualified, and_assoc]

theorem State.tamperHold_eq (s : State) : s.tamperHold =
    if s.tamper.owesCase then (s.onTamper Tamper.restLines).occur .case else s.onTamper Tamper.restLines := rfl

/-- What the Tamper Unit's HOLD entry leaves before any occurrence that it owes. -/
def State.tamperRested (s : State) : State :=
  ((s.dropStale .tamperHoldEntry Instr.tamperStale).took .tamperHoldEntry).onTamper Tamper.restLines

theorem exec_tamperHoldEntry (s : State) : exec .tamperHoldEntry s =
    .next (if s.tamper.owesCase then s.tamperRested.occur .case else s.tamperRested) := rfl

theorem State.standbyActions_some {s : State} {m : StandbyMark} (h : (s.tamper.record .case).standby = some m) :
    s.standbyActions = { s with
      tamper := s.tamper.setRecord .case { s.tamper.record .case with standby := none }
      exchange := if (s.effectiveMask .case).testBit 2 then
          { s.exchange with notices := s.exchange.notices ||| 0x08#8 } else s.exchange
      inFlight := s.inFlight ++ if (s.effectiveMask .case).testBit 1 then
          [.entryArrival ⟨m.time, .tamper .case false true m.number (s.tamper.record .case).last⟩] else [] } := by
  rw [State.standbyActions, h]
  simp only [State.perform_eq, State.onTamper]

theorem State.standbyActions_none {s : State} (h : (s.tamper.record .case).standby = none) : s.standbyActions = s := by
  rw [State.standbyActions, h]

/-- Settles O36, with the standby occurrence of an absorbed CASE, and the warm start step by step. -/
theorem tamperHoldAndWarmStart : Obligations.TamperHoldAndWarmStart := by
  intro s
  refine ⟨⟨_, exec_tamperHoldEntry s, s.tamperRested, fun before after hf hn => ?_, rfl, s.tamper.restLines_record,
    fun h => ?_, fun h => ?_⟩, ?_⟩
  · have hdrop := erase_discardBefore (drop := Instr.tamperStale) (after := after) hn
    rw [← hf] at hdrop
    refine hdrop.trans ?_
    congr 1
    refine congrArg (fun p => before.filter p) (funext fun c => ?_)
    cases c <;> rfl
  · rw [if_pos ((Tamper.owesCase_iff _).mpr h)]
    exact State.occur_occurred _ _
  · rw [if_neg fun hb => h ((Tamper.owesCase_iff _).mp hb)]
  · obtain ⟨base, hbase⟩ : ∃ base : State, base = { s with
        tamper := { s.tamper with hold := false }, inFlight := s.inFlight.erase .tamperWarmStart } := ⟨_, rfl⟩
    have hexec : exec .tamperWarmStart s = .next ((base.standbyActions.withdrawInjection.reevaluateTamper true).onTamper
        fun x => x.resumeLines (base.standbyActions.withdrawInjection.reevaluateTamper true).pins) := by
      rw [hbase]
      rfl
    have hrecord : s.tamper.record .case = base.tamper.record .case := by
      rw [hbase]
      rfl
    have hmask : s.effectiveMask .case = base.effectiveMask .case := by
      rw [hbase]
      rfl
    have hexchange : s.exchange = base.exchange := by rw [hbase]
    have hpins : base.standbyActions.withdrawInjection.pins = s.pins := by
      rw [hbase]
      simp
    refine ⟨_, hexec, base, base.standbyActions, base.standbyActions.withdrawInjection, hbase,
      fun hnone => State.standbyActions_none (hrecord ▸ hnone), fun m hm => ?_, State.withdrawInjection_withdrawn _,
      State.tamperCondition_iff _, ?_⟩
    · rw [hrecord, hmask, hexchange]
      exact State.standbyActions_some (hrecord ▸ hm)
    · rw [State.reevaluateTamper_true, ← hpins]
      rfl

/-! ### Injections -/

/-- Settles O37: SELF TEST check by check, then each end of an injection. -/
theorem injectionsStandAndEnd : Obligations.InjectionsStandAndEnd := by
  intro s
  refine ⟨fun order target base hbase => ?_, fun h => ?_, fun j x hh hj hstage htarget hx => ?_, fun h => ?_, fun j hh hj => ?_,
    ⟨_, rfl, State.withdrawInjection_withdrawn _⟩⟩
  · have hexec : exec (.selfTest order target) s = .next (base.selfTest order target.toNat) := by
      rw [hbase]
      rfl
    have htamper : s.tamper = base.tamper := by rw [hbase]
    have henergy : s.energy = base.energy := by rw [hbase]
    have hsetting : s.setting .imbBlocks = base.setting .imbBlocks := by
      rw [hbase]
      rfl
    rw [hexec, htamper, henergy, hsetting]
    refine ⟨fun h => ?_, fun j h hj => ?_, fun h hnone => ?_, fun i h hnone hact => ?_, fun i h hnone hact => ?_⟩
    · rw [State.selfTest, if_pos h]
      rfl
    · rw [State.selfTest, if_neg (by omega), hj]
      rfl
    · rw [State.selfTest, if_neg (by omega), hnone, h]
      rfl
    · have hsix : ¬6 < i.index.val := by omega
      rw [h, State.selfTest, if_neg hsix, hnone]
      simp only [Source.ofNumber_index, hact]
      rfl
    · have hsix : ¬6 < i.index.val := by omega
      rw [h, State.selfTest, if_neg hsix, hnone]
      simp only [Source.ofNumber_index, hact]
      cases i <;> rfl
  · refine congrArg Host.Outcome.next ?_
    rw [State.forcedExpiry]
    cases hj : s.tamper.injection with
    | none => rfl
    | some j =>
      refine if_neg fun hb => ?_
      simp only [Injection.forcedRunning, Bool.and_eq_true, decide_eq_true_eq, Bool.not_eq_true'] at hb
      obtain ⟨⟨hstage, htarget⟩, hhold⟩ := hb
      obtain hh | hno := h
      · exact absurd hh (by simp [hhold])
      · exact (hno j hj).elim (fun h => h hstage) htarget
  · have heq : s.forcedExpiry = State.testOccurrence { s with tamper := { s.tamper with injection := some x } } x := by
      rw [State.forcedExpiry, hj, hx]
      exact if_pos (by simp [Injection.forcedRunning, hstage, htarget, hh])
    exact ⟨_, congrArg Host.Outcome.next heq, State.testOccurrence_testOccurred _ _⟩
  · refine congrArg Host.Outcome.next ?_
    rw [State.deadlineExpiry]
    cases hj : s.tamper.injection with
    | none => rfl
    | some j =>
      obtain hh | hno := h
      · exact if_pos hh
      · exact absurd (hno.symm.trans hj) (by simp)
  · have heq : s.deadlineExpiry =
        (s.answer j.order .failed (.testFailed j.target.index.val j.deadline)).withdrawInjection := by
      rw [State.deadlineExpiry, hj]
      exact if_neg (by simp [hh])
    exact ⟨_, congrArg Host.Outcome.next heq, State.withdrawInjection_withdrawn _⟩

end Sys2Proof.Machine
end

section
/-! PROOFS. The Supply Supervisor (07_supervision_and_power_states.md): HOLD, the warm and the cold start, the loss of retention, the
voltage judgements and the readings. -/

namespace Sys2Proof.Machine

/-! ### Readings of the backup cell -/

theorem State.readCell_of_le {s : State} {cell : Nat} (h : s.setting .bcLow ≤ cell) :
    s.readCell cell = { s with supply := { s.supply with backupLow := false } } :=
  if_neg (Nat.not_lt.mpr h)

theorem State.readCell_of_low {s : State} {cell : Nat} (h : cell < s.setting .bcLow) (hl : s.supply.backupLow = true) :
    s.readCell cell = s := by
  rw [State.readCell, if_pos h, if_pos hl]

theorem State.readCell_of_first {s : State} {cell : Nat} (h : cell < s.setting .bcLow) (hl : s.supply.backupLow = false) :
    s.readCell cell = { s with
      supply := { s.supply with backupLow := true }
      exchange := { s.exchange with notices := s.exchange.notices ||| 0x40#8 }
      inFlight := s.inFlight ++ [.entryArrival ⟨s.calendar.t, .backupLow cell (s.setting .bcLow)⟩] } := by
  rw [State.readCell, if_pos h, if_neg (by simp [hl])]
  rfl

/-- The three outcomes of a reading in one. -/
theorem State.readCell_eq (s : State) (cell : Nat) : s.readCell cell = { s with
    supply := { s.supply with backupLow := decide (cell < s.setting .bcLow) }
    exchange := if cell < s.setting .bcLow ∧ s.supply.backupLow = false then
        { s.exchange with notices := s.exchange.notices ||| 0x40#8 } else s.exchange
    inFlight := s.inFlight ++ if cell < s.setting .bcLow ∧ s.supply.backupLow = false then
        [.entryArrival ⟨s.calendar.t, .backupLow cell (s.setting .bcLow)⟩] else [] } := by
  by_cases h : cell < s.setting .bcLow
  · cases hl : s.supply.backupLow with
    | true =>
      rw [State.readCell_of_low h hl, if_neg (by simp), if_neg (by simp), decide_eq_true h, ← hl, List.append_nil]
    | false =>
      rw [State.readCell_of_first h hl, if_pos ⟨h, rfl⟩, if_pos ⟨h, rfl⟩, decide_eq_true h]
  · rw [State.readCell_of_le (Nat.not_lt.mp h), if_neg fun hb => h hb.1, if_neg fun hb => h hb.1, decide_eq_false h,
      List.append_nil]

theorem State.readCellInHold_eq (s : State) (cell : Nat) : s.readCellInHold cell =
    { s with supply := { s.supply with doubt := s.supply.doubt || decide (cell < s.setting .bcRetain) } } := by
  rw [State.readCellInHold]
  by_cases h : cell < s.setting .bcRetain
  · rw [if_pos h, decide_eq_true h, Bool.or_true]
    rfl
  · rw [if_neg h, decide_eq_false h, Bool.or_false]

/-! ### HOLD and the warm start -/

theorem State.enterHold_eq (s : State) (cell : Nat) : s.enterHold cell = { s with
    supply := { s.supply with
      power := .hold
      holdStart := s.calendar.t
      overVoltageCount := 0
      sagCount := 0
      holdTimer := 0
      doubt := s.supply.doubt || decide (cell < s.setting .bcRetain) }
    inFlight := (s.inFlight.filter fun c => !Instr.supervisorStale c) ++
      [.energyHoldEntry, .switchHoldEntry, .tamperHoldEntry, .exchangeHoldEntry, .engineHoldEntry, .reportHoldEntry] } := by
  rw [State.enterHold, State.readCellInHold_eq]
  simp only [State.handHoldEntry, State.send, List.append_assoc]
  rfl

theorem State.sweepOnDoubt_eq (s : State) : s.sweepOnDoubt = { s with
    supply := { s.supply with doubt := false }
    inFlight := s.inFlight ++ if s.supply.doubt = true then [.warmStartSweep] else [] } := by
  rw [State.sweepOnDoubt]
  cases h : s.supply.doubt with
  | true => rfl
  | false =>
    rw [if_neg Bool.false_ne_true, if_neg Bool.false_ne_true, List.append_nil, ← h]

theorem State.enterRun_eq (s : State) (cell : Nat) : s.enterRun cell = { s with
    supply := { s.supply with
      power := .run, backupLow := decide (cell < s.setting .bcLow), backupCount := 0, doubt := false }
    exchange := if cell < s.setting .bcLow ∧ s.supply.backupLow = false then
        { s.exchange with notices := s.exchange.notices ||| 0x40#8 } else s.exchange
    inFlight := s.inFlight ++
      [.entryArrival ⟨s.calendar.t, .power s.supply.doubt s.supply.holdStart (s.calendar.t - s.supply.holdStart)⟩] ++
      (if cell < s.setting .bcLow ∧ s.supply.backupLow = false then
        [.entryArrival ⟨s.calendar.t, .backupLow cell (s.setting .bcLow)⟩] else []) ++
      (if s.supply.doubt = true then [.warmStartSweep] else []) ++
      [.reasonRequest s.supply.overVoltage .overVoltage, .energyWarmStart, .calendarWarmStart, .creditWarmStart,
        .codeWarmStart, .switchWarmStart, .tamperWarmStart, .settingsWarmStart, .exchangeWarmStart, .engineWarmStart,
        .reportWarmStart] } := by
  rw [State.enterRun, State.readCell_eq, State.sweepOnDoubt_eq]
  simp only [State.handWarmStart, State.send, State.onSupply, State.journalPower, State.journal, List.append_assoc]
  rfl

/-- Settles O38, by the power state and the retention mark. -/
theorem holdAndWarmStart : Obligations.HoldAndWarmStart := by
  refine ⟨fun s base cell low inst => ⟨fun hbase => ⟨fun hp => ?_, fun hp => ?_⟩, fun hbase hlow => ⟨fun hr => ?_, fun hr hp => ?_,
    fun hr hp => ?_⟩⟩, fun s cell => ⟨fun hp hr ht => ?_, fun hn => if_neg hn⟩⟩
  · rw [hbase]
    exact congrArg Host.Outcome.next (if_neg (by simp [State.onPins, hp]))
  · have heq : exec (.holdEntry cell) s = .next (base.enterHold cell) := by
      rw [hbase]
      exact congrArg Host.Outcome.next (if_pos hp)
    have hkept : (fun c => !Instr.supervisorStale c) = fun c => match c with
        | .supervisorBlockResult _ => false
        | .supervisorSecond _ _ => false
        | .coilReadingRequest _ => false
        | _ => true := by
      funext c
      cases c <;> rfl
    rw [heq, State.enterHold_eq, hkept, hbase]
    rfl
  · exact if_neg (by simp [hr])
  · rw [hbase]
    exact (if_pos hr).trans (congrArg Host.Outcome.next (if_neg (by simp [State.onPins, hp])))
  · have heq : exec (.warmStart cell) s = .next (base.enterRun cell) := by
      rw [hbase]
      exact (if_pos hr).trans (congrArg Host.Outcome.next (if_pos hp))
    obtain rfl : low = (cell < s.setting .bcLow) := propext hlow
    obtain rfl : inst = Nat.decLt cell (s.setting .bcLow) := Subsingleton.elim _ _
    rw [heq, State.enterRun_eq, hbase]
    rfl
  · refine (if_pos ⟨hp, hr, ht⟩).trans (congrArg Host.Outcome.next ?_)
    rw [State.readCellInHold_eq]
    rfl

/-! ### The cold start and the loss of retention -/

theorem State.resetLink_of_no_holder {s : State} (h : s.exchange.mirrorHolder ≠ .link) : s.resetLink = { s with
    exchange := { s.exchange.dropFrame with
      notices := 0
      enable := 0
      mirrorHolder := Holder.freed s.exchange.mirrorHolder
      stageHolder := Holder.freed s.exchange.stageHolder
      resetPending := true }
    inFlight := s.inFlight ++ [.engineLinkReset, .tamperLinkReset] } := by
  rw [State.resetLink]
  dsimp only
  rw [if_neg h]
  simp only [State.send, State.onExchange, List.append_assoc]
  rfl

/-- What a cold start leaves, but for the reading and the opening of the link. -/
theorem State.coldStart_eq (s : State) (cell : Nat) : s.coldStart cell = { s.coldUnits with
    supply := { Supply.cold with backupLow := decide (cell < State.reset.setting .bcLow) }
    exchange := { Exchange.cold with
      ignoring := s.exchange.csnLow
      miso := s.exchange.miso
      notices := if decide (cell < State.reset.setting .bcLow) && !s.pins.linkrstn then 0x40#8 else 0
      resetPending := s.pins.linkrstn }
    inFlight := (if cell < State.reset.setting .bcLow then
        [.entryArrival ⟨0, .backupLow cell (State.reset.setting .bcLow)⟩] else []) ++
      if s.pins.linkrstn then [.engineLinkReset, .tamperLinkReset] else [] } := by
  have hsetting : s.coldUnits.setting .bcLow = State.reset.setting .bcLow := rfl
  rw [State.coldStart, State.openLink]
  obtain ⟨u, hu⟩ : ∃ u : State, u = (s.coldUnits.readCell cell).onExchange fun x => { x with link := .open } := ⟨_, rfl⟩
  have hpins : u.pins.linkrstn = s.pins.linkrstn := by
    rw [hu]
    simp [State.coldUnits]
  have hholder : u.exchange.mirrorHolder ≠ .link := by
    rw [hu]
    simp [State.coldUnits, Exchange.coldFrom, Exchange.cold]
  rw [← hu]
  dsimp only
  rw [hpins]
  by_cases h : cell < State.reset.setting .bcLow
  · have hread : s.coldUnits.readCell cell = _ := State.readCell_of_first (hsetting ▸ h) rfl
    have hnotices : s.coldUnits.exchange.notices ||| 0x40#8 = 0x40#8 := BitVec.zero_or
    rw [if_pos h, decide_eq_true h]
    cases hl : s.pins.linkrstn with
    | true =>
      rw [if_pos rfl, State.resetLink_of_no_holder hholder, hu, hread]
      rfl
    | false =>
      rw [if_neg Bool.false_ne_true, hu, hread, hnotices]
      rfl
  · have hread : s.coldUnits.readCell cell = _ := State.readCell_of_le (hsetting ▸ Nat.not_lt.mp h)
    rw [if_neg h, decide_eq_false h]
    cases hl : s.pins.linkrstn with
    | true =>
      rw [if_pos rfl, State.resetLink_of_no_holder hholder, hu, hread]
      rfl
    | false =>
      rw [if_neg Bool.false_ne_true, hu, hread]
      rfl

/-- Settles O39: each unit in turn. -/
theorem coldStartAndLossOfRetention : Obligations.ColdStartAndLossOfRetention := by
  refine ⟨fun s cell => ⟨fun hr => if_pos hr, fun hr => ?_⟩, fun s => ⟨fun hn => if_neg hn, fun hp hr => ?_⟩⟩
  · refine ⟨_, if_neg (by simp [hr]), decide (cell < State.reset.setting .bcLow), by simp, ?_⟩
    rw [State.coldStart_eq]
    refine ⟨rfl, rfl, rfl, rfl, rfl, rfl, rfl, rfl, rfl, rfl, rfl, rfl, rfl, ?_⟩
    simp only [decide_eq_true_eq]
    rfl
  · refine ⟨_, if_pos ⟨hp, hr⟩, rfl, rfl, rfl, rfl, rfl, rfl, rfl, rfl, rfl, rfl, rfl, rfl, rfl, rfl, rfl, fun n => rfl, rfl⟩

/-! ### Voltage -/

theorem State.voltageTest_iff (s : State) (u : Nat) : s.voltageTest u = true ↔
    if s.supply.overVoltage = true then u + s.setting .uHyst < s.setting .uHigh else s.setting .uHigh < u := by
  rw [State.voltageTest]
  split <;> exact decide_eq_true_iff

theorem State.sagTest_iff (s : State) (u : Nat) : s.sagTest u = true ↔
    if s.supply.sag = true then s.setting .uLow ≤ u else u < s.setting .uLow := by
  rw [State.sagTest]
  split <;> exact decide_eq_true_iff

theorem State.voltageChanges_of {s : State} {u : Nat} (hp : s.supply.power = .run) (ht : s.voltageTest u = true)
    (hle : s.supply.voltageLimit ≤ s.supply.overVoltageCount + 1) : s.voltageChanges u = true := by
  simp [State.voltageChanges, hp, ht, hle]

theorem State.sagChanges_of {s : State} {u : Nat} (hp : s.supply.power = .run) (ht : s.sagTest u = true)
    (hle : 8 ≤ s.supply.sagCount + 1) : s.sagChanges u = true := by
  simp [State.sagChanges, hp, ht, hle, Config.sagBlocks]

theorem State.judgeVoltage_of_not {s : State} {u : Nat} (h : ¬s.voltageTest u = true) :
    s.judgeVoltage u = { s with supply := { s.supply with overVoltageCount := 0 } } := if_neg h

theorem State.judgeVoltage_of_counted {s : State} {u : Nat} (h : s.voltageTest u = true)
    (hlt : s.supply.overVoltageCount + 1 < s.supply.voltageLimit) :
    s.judgeVoltage u = { s with supply := { s.supply with overVoltageCount := s.supply.overVoltageCount + 1 } } :=
  (if_pos h).trans (if_pos hlt)

theorem State.judgeVoltage_of_reached {s : State} {u : Nat} (h : s.voltageTest u = true)
    (hle : s.supply.voltageLimit ≤ s.supply.overVoltageCount + 1) : s.judgeVoltage u = { s with
      supply := { s.supply with overVoltage := !s.supply.overVoltage, overVoltageCount := 0 }
      inFlight := s.inFlight ++ [.reasonRequest (!s.supply.overVoltage) .overVoltage,
        .entryArrival ⟨s.calendar.t, .overVoltage (!s.supply.overVoltage) u (s.setting .uHigh)⟩] } := by
  rw [State.judgeVoltage, if_pos h, if_neg (Nat.not_lt.mpr hle)]
  simp only [State.changeVoltage, State.journal, State.send, List.append_assoc]
  rfl

/-- What the over-voltage judgement leaves of the sag judgement's operands. -/
theorem State.judgeVoltage_rest (s : State) (u : Nat) : (s.judgeVoltage u).supply.sag = s.supply.sag ∧
    (s.judgeVoltage u).supply.sagCount = s.supply.sagCount ∧ (s.judgeVoltage u).settings = s.settings ∧
    (s.judgeVoltage u).calendar = s.calendar := by
  rw [State.judgeVoltage]
  split
  · split <;> exact ⟨rfl, rfl, rfl, rfl⟩
  · exact ⟨rfl, rfl, rfl, rfl⟩

theorem State.judgeSag_of_not {s : State} {u : Nat} (h : ¬s.sagTest u = true) :
    s.judgeSag u = { s with supply := { s.supply with sagCount := 0 } } := if_neg h

theorem State.judgeSag_of_counted {s : State} {u : Nat} (h : s.sagTest u = true) (hlt : s.supply.sagCount + 1 < 8) :
    s.judgeSag u = { s with supply := { s.supply with sagCount := s.supply.sagCount + 1 } } :=
  (if_pos h).trans (if_pos hlt)

theorem State.judgeSag_of_reached {s : State} {u : Nat} (h : s.sagTest u = true) (hle : 8 ≤ s.supply.sagCount + 1) :
    s.judgeSag u = { s with
      supply := { s.supply with sag := !s.supply.sag, sagCount := 0 }
      inFlight := s.inFlight ++ if s.supply.sag = true then [] else
        [.entryArrival ⟨s.calendar.t, .sag u (s.setting .uLow)⟩] } := by
  rw [State.judgeSag, if_pos h, if_neg (show ¬_ < Config.sagBlocks from Nat.not_lt.mpr hle), State.changeSag]
  cases hs : s.supply.sag with
  | true => simp [State.onSupply]
  | false => rfl

theorem exec_supervisorBlockResult (r : BlockResult) (s : State) : exec (.supervisorBlockResult r) s =
    .next (if s.supply.power = .run then (s.took (.supervisorBlockResult r)).judgeBlock r.voltage
      else s.took (.supervisorBlockResult r)) := rfl

/-- The rows of the counts are the block results at which they are reached. -/
theorem exec_countRow {c : Instr} {s : State} {r : BlockResult} (hp : s.supply.power = .run)
    (hc : c = .supervisorBlockResult r ∨
      (c = .overVoltageSet r ∧ s.supply.overVoltage = false ∧ s.voltageChanges r.voltage = true) ∨
      (c = .overVoltageClear r ∧ s.supply.overVoltage = true ∧ s.voltageChanges r.voltage = true) ∨
      (c = .sagCountReached r ∧ s.sagChanges r.voltage = true)) :
    exec c s = .next ((s.took (.supervisorBlockResult r)).judgeBlock r.voltage) := by
  obtain rfl | ⟨rfl, ho, hch⟩ | ⟨rfl, ho, hch⟩ | ⟨rfl, hch⟩ := hc
  · rw [exec_supervisorBlockResult, if_pos hp]
  · exact if_pos ⟨ho, hch⟩
  · exact if_pos ⟨ho, hch⟩
  · exact if_pos hch

/-! ### Seconds -/

theorem exec_supervisorSecond (coil cell : Nat) (s : State) : exec (.supervisorSecond coil cell) s =
    .next (if s.supply.power = .run then (s.took (.supervisorSecond coil cell)).superviseSecond coil cell
      else s.took (.supervisorSecond coil cell)) := rfl

theorem exec_backupReading {coil cell : Nat} {s : State} (hp : s.supply.power = .run) (hle : 3600 ≤ s.supply.backupCount + 1) :
    exec (.backupReading coil cell) s = .next ((s.took (.supervisorSecond coil cell)).superviseSecond coil cell) :=
  if_pos ⟨hp, hle⟩

theorem State.superviseSecond_counted {s : State} {coil cell : Nat} (hlt : s.supply.backupCount + 1 < 3600) :
    s.superviseSecond coil cell = { s with
      supply := { s.supply with backupCount := s.supply.backupCount + 1 }, inFlight := s.inFlight ++ [.coilReading coil] } :=
  if_pos hlt

theorem State.superviseSecond_read {s : State} {coil cell : Nat} (hle : 3600 ≤ s.supply.backupCount + 1) :
    s.superviseSecond coil cell = State.readCell { s with
      supply := { s.supply with backupCount := 0 }, inFlight := s.inFlight ++ [.coilReading coil] } cell :=
  if_neg (Nat.not_lt.mpr hle)

theorem exec_hour {coil cell : Nat} {c : Instr} {s : State} (hp : s.supply.power = .run) (hle : 3600 ≤ s.supply.backupCount + 1)
    (hc : c = .supervisorSecond coil cell ∨ c = .backupReading coil cell) : exec c s = .next (State.readCell { s with
      supply := { s.supply with backupCount := 0 }
      inFlight := s.inFlight.erase (.supervisorSecond 0 0) ++ [.coilReading coil] } cell) := by
  have hexec : exec c s = .next ((s.took (.supervisorSecond coil cell)).superviseSecond coil cell) := by
    obtain rfl | rfl := hc
    · rw [exec_supervisorSecond, if_pos hp]
    · exact exec_backupReading hp hle
  rw [hexec, State.superviseSecond_read (show 3600 ≤ (s.took _).supply.backupCount + 1 from hle)]
  rfl

/-- Settles O41: over-voltage, then sag, and the readings of a second and of a request. -/
theorem voltageJudgedAndSupplyRead : Obligations.VoltageJudgedAndSupplyRead := by
  refine ⟨fun s base r c high sag n hbase hhigh hn hsag => ⟨fun hp => ?_, fun hp hc => ?_⟩,
    fun s base coil cell c hbase => ⟨fun hp => ?_, fun hp hlt => ?_, fun hp hle hc => ⟨fun hcell => ?_, fun hcell hl => ?_,
      fun hcell hl => ?_⟩, fun hp hn => ?_, fun h => ?_⟩⟩
  · rw [exec_supervisorBlockResult, if_neg (by simp [hp]), hbase]
    rfl
  · have hhigh' : high ↔ s.voltageTest r.voltage = true := hhigh.trans (s.voltageTest_iff _).symm
    have hsag' : sag ↔ s.sagTest r.voltage = true := hsag.trans (s.sagTest_iff _).symm
    have hlimit : n = s.supply.voltageLimit := hn
    have hexec : exec c s = .next ((s.took (.supervisorBlockResult r)).judgeBlock r.voltage) := by
      refine exec_countRow hp ?_
      obtain rfl | ⟨rfl, ho, hh, hle⟩ | ⟨rfl, ho, hh, hle⟩ | ⟨rfl, hs, hle⟩ := hc
      · exact .inl rfl
      · exact .inr (.inl ⟨rfl, ho, State.voltageChanges_of hp (hhigh'.mp hh) (hlimit ▸ hle)⟩)
      · exact .inr (.inr (.inl ⟨rfl, ho, State.voltageChanges_of hp (hhigh'.mp hh) (hlimit ▸ hle)⟩))
      · exact .inr (.inr (.inr ⟨rfl, State.sagChanges_of hp (hsag'.mp hs) hle⟩))
    have hjudge : exec c s = .next (base.judgeBlock r.voltage) := by
      rw [hexec, hbase]
      rfl
    have htest : s.voltageTest r.voltage = base.voltageTest r.voltage := by
      rw [hbase]
      rfl
    have hsupply : s.supply = base.supply := by rw [hbase]
    have hsetting : ∀ i, s.setting i = base.setting i := fun i => by
      rw [hbase]
      rfl
    have hcalendar : s.calendar = base.calendar := by rw [hbase]
    obtain ⟨u, hu⟩ : ∃ u, u = base.judgeVoltage r.voltage := ⟨_, rfl⟩
    obtain ⟨hrsag, hrcount, hrsettings, hrcalendar⟩ := base.judgeVoltage_rest r.voltage
    rw [← hu] at hrsag hrcount hrsettings hrcalendar
    have husetting : base.setting .uLow = u.setting .uLow := by rw [State.setting, State.setting, hrsettings]
    have hsagTest : s.sagTest r.voltage = u.sagTest r.voltage := by
      rw [State.sagTest, State.sagTest, hsupply, hrsag, hsetting, husetting]
    rw [htest] at hhigh'
    rw [hsagTest] at hsag'
    rw [hsupply] at hlimit ⊢
    refine ⟨u.judgeSag r.voltage, by rw [hjudge, hu]; rfl, u, fun hno => ?_, fun hh hlt => ?_, fun hh hle => ?_, fun hno => ?_,
      fun hs hlt => ?_, fun hs hle => ?_⟩
    · rw [hu]
      exact State.judgeVoltage_of_not fun ht => hno (hhigh'.mpr ht)
    · rw [hu]
      exact State.judgeVoltage_of_counted (hhigh'.mp hh) (hlimit ▸ hlt)
    · rw [hu, hsetting, hcalendar]
      exact State.judgeVoltage_of_reached (hhigh'.mp hh) (hlimit ▸ hle)
    · exact State.judgeSag_of_not fun ht => hno (hsag'.mpr ht)
    · rw [← hrcount] at hlt ⊢
      exact State.judgeSag_of_counted (hsag'.mp hs) hlt
    · rw [← hrcount] at hle
      rw [← hrsag, hcalendar, ← hrcalendar, hsetting, husetting]
      exact State.judgeSag_of_reached (hsag'.mp hs) hle
  · rw [exec_supervisorSecond, if_neg (by simp [hp]), hbase]
    rfl
  · rw [exec_supervisorSecond, if_pos hp, hbase]
    exact congrArg Host.Outcome.next (State.superviseSecond_counted hlt)
  · rw [exec_hour hp hle hc, State.readCell_of_le (by exact hcell), hbase]
  · rw [exec_hour hp hle hc, State.readCell_of_low (by exact hcell) (by exact hl), hbase]
  · rw [exec_hour hp hle hc, State.readCell_of_first (by exact hcell) (by exact hl), hbase]
    simp only [List.append_assoc]
    rfl
  · have hin : Instr.switchHoldEntry ∉ s.inFlight.erase (.coilReadingRequest 0) := fun h => hn (List.mem_of_mem_erase h)
    exact congrArg Host.Outcome.next (if_pos ⟨hp, hin⟩)
  · refine congrArg Host.Outcome.next (if_neg fun hb => ?_)
    obtain ⟨hp, hin⟩ := hb
    obtain hp' | hmem := h
    · exact absurd (hp'.symm.trans hp) (by decide)
    · exact hin ((List.mem_erase_of_ne (by simp [Instr.sentForm])).mpr hmem)

end Sys2Proof.Machine
end

section
/-! PROOFS. The Settings Unit (08_service_state_and_protected_settings.md): the check word and the sweeps, a write and its wait, the service
state, and the lock of R152. -/

namespace Sys2Proof.Machine

/-! ### The table and the check word -/

theorem checkStream_eq (x : Settings) : checkStream x = x.stream x.keySet := by
  rw [checkStream, Settings.stream]
  cases x.keySet <;> rfl

theorem Settings.computed_eq (x : Settings) : x.computed = crc16 (checkStream x) := by
  rw [checkStream_eq, Settings.computed]
  cases x.keySet <;> rfl

theorem SettingId.row_of_table (k : Nat) (x : SettingId) (low high value : Nat)
    (h : settingsTable[k]? = some (x, low, high, value)) : x.index.val = k ∧ x.row.low = low ∧ x.row.high = high := by
  have hall : ∀ k < 27, ∀ r, settingsTable[k]? = some r → r.1.index.val = k ∧ r.1.row.low = r.2.1 ∧ r.1.row.high = r.2.2.1 := by
    intro k hk
    interval_cases k <;> (intro r hr; obtain rfl := Option.some.inj hr; exact ⟨rfl, rfl, rfl⟩)
  have hk : k < 27 := (List.getElem?_eq_some_iff.mp h).1
  exact hall k hk _ h

/-- The chunks of the check word's stream. -/
def streamChunks (x : Settings) : List (Nat × Nat) :=
  (1, flagNat x.keySet) :: SettingId.all.map fun i => (i.row.width, x.values[i.index])

theorem checkStream_chunks (x : Settings) : checkStream x = chunkBytes (streamChunks x) := by
  have hflag : beBytes 1 (flagNat x.keySet) = [byteOf (flagNat x.keySet)] := by cases x.keySet <;> rfl
  rw [checkStream_eq, Settings.stream, streamChunks, chunkBytes, List.flatMap_cons, ← List.flatMap_def, List.flatMap_map, hflag]
  rfl

/-- Bytes that are consecutive numbers are laid out by the fields that name them all. -/
theorem LaidOut.of_all_chunks {base size : Nat} {fields : List (Nat × Nat × Int)} {cs : List (Nat × Nat)}
    (hs : (chunkBytes cs).length = size) (hf : fields = (placed base cs).map fun g => (g.1, g.2.1, (g.2.2 : Int))) :
    LaidOut base size fields (chunkBytes cs) := by
  refine LaidOut.of_chunks base size fields cs hs (fun f hm => ?_) fun g hg => .inr ⟨g.2.2, ?_⟩
  · rw [hf] at hm
    obtain ⟨g, hg, rfl⟩ := List.mem_map.mp hm
    exact ⟨g.2.2, hg, rfl⟩
  · rw [hf]
    exact List.mem_map.mpr ⟨g, hg, rfl⟩

theorem checkStream_laidOut (x : Settings) : LaidOut 0 57 (streamFields x) (checkStream x) := by
  rw [checkStream_chunks]
  refine LaidOut.of_all_chunks ?_ ?_
  · simp [chunkBytes, streamChunks, SettingId.all, SettingId.row]
  · rw [streamFields, bitsNumber, bitsNumber]
    rfl

/-! ### Sweeps -/

theorem State.sweep_swept {after : Prop} {k : SweepKind} (hk : after ↔ k = .afterWrite) (s : State) : Swept after s (s.sweep k) := by
  rw [State.sweep]
  simp only [Settings.computed_eq]
  constructor
  · intro hne hf
    rw [if_pos hne, if_neg (by simp [hf])]
    rfl
  · intro hne hf
    rw [if_pos hne, if_pos hf]
  · intro heq hf ha
    rw [if_neg (not_not.mpr heq), if_pos ⟨hf, hk.mp ha⟩]
    rfl
  · intro heq hn
    rw [if_neg (not_not.mpr heq), if_neg fun ⟨hf, ha⟩ => hn ⟨hf, hk.mpr ha⟩]

/-- A sweep changes the fault flag alone of the settings. -/
theorem State.sweep_settings (s : State) (k : SweepKind) :
    ∃ fault, (s.sweep k).settings = { s.settings with fault := fault } := by
  rw [State.sweep]
  dsimp only
  split
  · split
    · exact ⟨_, rfl⟩
    · exact ⟨_, rfl⟩
  · split
    · exact ⟨_, rfl⟩
    · exact ⟨_, rfl⟩

/-! ### Writing a setting -/

theorem SettingId.low_le_high (x : SettingId) : x.row.low ≤ x.row.high := by
  cases x <;> decide

theorem SettingRow.clamp_eq {r : SettingRow} (h : r.low ≤ r.high) (v : Nat) : SettingRow.clamp r v = max r.low (min r.high v) := by
  rw [SettingRow.clamp]
  split
  · omega
  · split <;> omega

theorem SettingId.ofId_id (x : SettingId) : SettingId.ofId (x.index.val + 1) = some x := by
  cases x <;> rfl

theorem SettingId.ofId_none {n : Nat} (h : n = 0 ∨ 27 < n) : SettingId.ofId n = none := by
  rw [SettingId.ofId]
  split
  · rfl
  · exact List.getElem?_eq_none (show 27 ≤ n - 1 by omega)

theorem Settings.stored_eq (x : Settings) (i : SettingId) (v : Nat) {y : Settings} (hv : y.values = x.values.set i.index v)
    (hk : y.keySet = (x.keySet || decide (i = .meterKey))) (hc : y.checkWord = crc16 (checkStream y))
    (hy : y = { x with values := y.values, keySet := y.keySet, checkWord := y.checkWord }) : x.stored i v = y := by
  rw [hy, hc, Settings.stored, ← hv, ← hk, Settings.computed_eq]
  rfl

/-- The unit with nothing waiting. -/
def State.freed (s : State) : State := { s with settings := { s.settings with waiting := none } }

theorem State.finishWrite_eq (s : State) (order : OrderId) (x : SettingId) (clamped : Bool) (applied : Nat) :
    s.finishWrite order x clamped applied = (s.freed.sweep .afterWrite).send
      (.ownerAnswer order .ok (.setting x clamped (s.freed.sweep .afterWrite).settings.fault applied)) := rfl

theorem exec_writeSetting {s : State} (order : OrderId) (id : Byte) (value : BitVec 64) (h : s.settings.waiting = none) :
    exec (.writeSetting order id value) s = .next ((s.took (.writeSetting order id value)).writeSetting order id value) :=
  if_pos (by rw [State.settingsFree, h]; rfl)

theorem State.freed_of_free {s : State} (h : s.settings.waiting = none) : s.freed = s := by
  obtain ⟨_, _, _, _, _, _, _, ⟨_, _, _, _, _, _, _, _⟩, _, _, _, _, _, _⟩ := s
  cases h
  rfl

theorem State.writeTo_unknown {s : State} {order : OrderId} {x : SettingId} {v applied : Nat} {y : Settings}
    (hc : SettingRow.clamp x.row v = applied) (hy : s.settings.stored x applied = y) (hx : SettingId.news x = none) :
    s.writeTo order x v = State.finishWrite { s with settings := y } order x (decide (applied ≠ v)) applied := by
  rw [State.writeTo, hc, hx, ← hy]
  rfl

theorem State.writeTo_told {s : State} {order : OrderId} {x : SettingId} {v applied : Nat} {y : Settings} {n : Neighbour} {c : Instr}
    (hc : SettingRow.clamp x.row v = applied) (hy : s.settings.stored x applied = y) (hx : SettingId.news x = some (n, c)) :
    s.writeTo order x v = { s with
      settings := { y with waiting := some (.write order x (decide (applied ≠ v)) applied n) }
      inFlight := s.inFlight ++ [c] } := by
  rw [State.writeTo, hc, hx, ← hy]
  rfl

/-- Settles O42: the table, the stream, and a write check by check. -/
theorem settingWritten : Obligations.SettingWritten := by
  refine ⟨SettingId.row_of_table, checkStream_laidOut, fun s base order id value hfree hbase => ?_⟩
  have hexec : exec (.writeSetting order id value) s = .next (base.writeSetting order id value) := by
    rw [exec_writeSetting order id value hfree, hbase]
    rfl
  have hsettings : s.settings = base.settings := by rw [hbase]
  rw [hexec, hsettings]
  refine ⟨fun hs => ?_, fun hs hid => ?_, fun x applied y news hs hid happ hv hk hc hy hnews => ?_⟩
  · rw [State.writeSetting, if_pos hs]
    rfl
  · rw [State.writeSetting, if_neg (by simp [hs]), SettingId.ofId_none hid]
    rfl
  · have hclamp : SettingRow.clamp x.row value.toNat = applied := by
      rw [happ, SettingRow.clamp_eq (SettingId.low_le_high x)]
    have hstored : base.settings.stored x applied = y := Settings.stored_eq _ _ _ hv hk hc hy
    have hwaiting : y.waiting = none := by
      rw [hy]
      exact hsettings ▸ hfree
    have hwrite : base.writeSetting order id value = base.writeTo order x value.toNat := by
      rw [State.writeSetting, if_neg (by simp [hs]), hid, SettingId.ofId_id]
    have hx : SettingId.news x = news := by
      rw [hnews]
      cases x <;> rfl
    rw [hwrite]
    refine ⟨fun hnone => ?_, fun n c hsome => ?_⟩
    · rw [State.writeTo_unknown hclamp hstored (hx.trans hnone)] at hwrite
      rw [hwrite] at hexec
      have hfreed : State.freed { base with settings := y } = { base with settings := y } := State.freed_of_free hwaiting
      exact ⟨_, hexec, _, hfreed ▸ State.sweep_swept (by simp) _, rfl⟩
    · rw [State.writeTo_told hclamp hstored (hx.trans hsome)]

end Sys2Proof.Machine
end

section
/-! PROOFS. The waits of the Settings Unit (08_service_state_and_protected_settings.md): news taken, the service state, the sweeps, and the
lock of R152. -/

namespace Sys2Proof.Machine

/-! ### News and the wait that it ends -/

theorem State.writeNewsTaken_ends {s : State} {n : Neighbour} {order : OrderId} {x : SettingId} {clamped : Bool} {applied : Nat}
    (h : s.settings.waiting = some (.write order x clamped applied n)) :
    s.writeNewsTaken n = s.finishWrite order x clamped applied := by
  rw [State.writeNewsTaken, h]
  exact if_pos rfl

theorem State.writeNewsTaken_other {s : State} {n : Neighbour}
    (h : ∀ order x clamped applied, s.settings.waiting ≠ some (.write order x clamped applied n)) : s.writeNewsTaken n = s := by
  rw [State.writeNewsTaken]
  split
  next order x clamped applied awaits hw =>
    refine if_neg fun hn => h order x clamped applied ?_
    rw [hw, hn]
  next => rfl

/-- A change of the service state goes on with the other neighbour's news, or ends (R155). -/
theorem State.serviceNewsTaken_goesOn {s : State} {credit x y : Bool} {order : Option OrderId}
    (h : s.settings.waiting = some (.service x y order)) (hleft : (if credit then y else x) = true) :
    s.serviceNewsTaken credit = { s with settings := { s.settings with
      waiting := some (.service (x && !credit) (y && credit) order) } } := by
  rw [State.serviceNewsTaken, h]
  refine if_pos ?_
  cases credit <;> simpa using hleft

theorem State.serviceNewsTaken_ends {s : State} {credit x y : Bool} {order : Option OrderId}
    (h : s.settings.waiting = some (.service x y order)) (hleft : (if credit then y else x) = false) :
    s.serviceNewsTaken credit = s.finishService order := by
  rw [State.serviceNewsTaken, h]
  refine if_neg ?_
  cases credit <;> simpa using hleft

theorem State.serviceNewsTaken_other {s : State} {credit : Bool}
    (h : ∀ x y order, s.settings.waiting ≠ some (.service x y order)) : s.serviceNewsTaken credit = s := by
  rw [State.serviceNewsTaken]
  split
  next x y order hw => exact absurd hw (h x y order)
  next => rfl

theorem State.finishService_some (s : State) (n : OrderId) :
    s.finishService (some n) = s.freed.send (.ownerAnswer n .ok (.item 0)) := rfl

theorem State.finishService_none (s : State) : s.finishService none = codeAcceptedBy s.freed s.freed.credit.c :=
  State.codeAccepted_eq _ _

/-- What news does in the unit that takes it, before the wait. -/
def State.toldNews (s : State) (c : Instr) : State :=
  match c with
  | .calibrationWriteNews .line => (s.took c).onEnergy fun x => { x with rL := 0 }
  | .calibrationWriteNews .neutral => (s.took c).onEnergy fun x => { x with rN := 0 }
  | .keyWriteNews => (s.took c).onCode fun x => { x with used := [], floor := 0 }
  | .serviceStateNewsCredit st => ((s.took c).onCredit fun x => { x with serviceView := st }).reevaluateCredit false
  | _ => (s.took c).reevaluateTamper false

theorem State.reevaluateTamper_freed (s : State) (resend : Bool) : s.freed.reevaluateTamper resend = (s.reevaluateTamper resend).freed := by
  rw [State.reevaluateTamper, State.reevaluateTamper]
  rw [show s.freed.tamperCondition = s.tamperCondition from rfl, show s.freed.tamper = s.tamper from rfl]
  split <;> rfl

theorem State.reevaluateCredit_freed (s : State) (resend : Bool) : s.freed.reevaluateCredit resend = (s.reevaluateCredit resend).freed := by
  rw [State.reevaluateCredit, State.reevaluateCredit]
  rw [show s.freed.credit = s.credit from rfl]
  split <;> rfl

/-- The unit that takes the news does not read the wait. -/
theorem State.toldNews_freed (s : State) (c : Instr) : s.freed.toldNews c = (s.toldNews c).freed := by
  unfold State.toldNews
  split
  next => rfl
  next => rfl
  next => rfl
  next st => exact ((s.took (.serviceStateNewsCredit st)).onCredit fun x => { x with serviceView := st }).reevaluateCredit_freed false
  next => exact (s.took c).reevaluateTamper_freed false

theorem State.toldNews_settings (s : State) (c : Instr) : (s.toldNews c).settings = s.settings := by
  unfold State.toldNews
  split <;> simp

/-- The news of a write, by the neighbour that takes it. -/
theorem exec_writeNews {n : Neighbour} {c : Instr} (s : State) (h : (n, c) ∈ [(Neighbour.energy, Instr.calibrationWriteNews .line),
    (.energy, .calibrationWriteNews .neutral), (.code, .keyWriteNews), (.tamper, .actionMaskNews)])
    (hev : c = .keyWriteNews → s.code.evaluation = none) : exec c s = .next ((s.toldNews c).writeNewsTaken n) := by
  simp only [List.mem_cons, Prod.mk.injEq, List.not_mem_nil, or_false] at h
  obtain ⟨rfl, rfl⟩ | ⟨rfl, rfl⟩ | ⟨rfl, rfl⟩ | ⟨rfl, rfl⟩ := h
  · rfl
  · rfl
  · refine if_neg ?_
    rw [hev rfl]
    exact Bool.false_ne_true
  · rfl

theorem exec_serviceNews {c : Instr} {credit : Bool} (s : State) (h : ((∃ v, c = .serviceStateNewsCredit v) ∧ credit = true) ∨
    (c = .serviceStateNewsTamper ∧ credit = false)) : exec c s = .next ((s.toldNews c).serviceNewsTaken credit) := by
  obtain ⟨⟨v, rfl⟩, rfl⟩ | ⟨rfl, rfl⟩ := h
  · rfl
  · rfl

theorem State.freed_with_settings (s : State) : { s.freed with settings := s.settings } = s := rfl

/-! ### The service state -/

theorem State.settingsFree_of_none {s : State} (h : s.settings.waiting = none) : s.settingsFree = true := by
  rw [State.settingsFree, h]
  rfl

theorem State.entryItem_eq (s : State) : s.entryItem = if s.settings.service = .inService then 1 else if s.settings.keySet = false then 2
    else if s.setting .meterNumber = 0 then 3 else if s.setting .kL = 0 then 4 else if s.setting .kN = 0 then 5
    else if s.setting .kV = 0 then 6 else if s.calendar.adopted = false then 7 else if s.settings.fault = true then 8 else 0 := by
  simp only [State.entryItem, Bool.not_eq_true']

theorem exec_enterService {s : State} (order : OrderId) (h : s.settings.waiting = none) : exec (.enterService order) s =
    .next (if (s.took (.enterService order)).takesRunOrders then (s.took (.enterService order)).enterService order
      else s.took (.enterService order)) := if_pos (State.settingsFree_of_none h)

theorem State.changeService_eq (s : State) (new : ServiceState) (order : Option OrderId) : s.changeService new order = { s with
    settings := { s.settings with service := new, waiting := some (.service true true order) }
    inFlight := s.inFlight ++ [.entryArrival ⟨s.calendar.t, .service order.isNone s.settings.service new⟩,
      .serviceStateNewsCredit new, .serviceStateNewsTamper] } := by
  rw [State.changeService]
  simp only [State.journal, State.send, List.append_assoc]
  rfl

/-- Settles O43: the news and the wait, then the service state. -/
theorem newsEndsTheWaitAndServiceChanges : Obligations.NewsEndsTheWaitAndServiceChanges := by
  refine ⟨fun s free hfree => ⟨fun n c hmem hev => ?_, fun c credit hc => ?_⟩, fun s hwait => ⟨?_, ?_, fun order base item hbase hitem => ?_, ?_⟩⟩
  · have hfreed : exec c free = .next (s.toldNews c).freed := by
      rw [show free = s.freed from hfree, exec_writeNews s.freed hmem hev, State.toldNews_freed]
      rfl
    have hexec := exec_writeNews s hmem hev
    have hsettings := s.toldNews_settings c
    refine ⟨_, hfreed, fun order x clamped applied hw => ?_, fun hno => ?_⟩
    · rw [State.writeNewsTaken_ends (hsettings ▸ hw), State.finishWrite_eq] at hexec
      exact ⟨_, hexec, _, State.sweep_swept (by simp) _, rfl⟩
    · rw [hexec, State.writeNewsTaken_other (hsettings ▸ hno), ← hsettings]
      rfl
  · have hfreed : exec c free = .next (s.toldNews c).freed := by
      rw [show free = s.freed from hfree, exec_serviceNews s.freed hc, State.toldNews_freed]
      rfl
    have hexec := exec_serviceNews s hc
    have hsettings := s.toldNews_settings c
    refine ⟨_, hfreed, fun x y order hw => ⟨fun hleft => ?_, fun n hleft hn => ?_, fun hleft hn => ?_⟩, fun hno => ?_⟩
    · rw [hexec, State.serviceNewsTaken_goesOn (hsettings ▸ hw) hleft, hsettings]
      rfl
    · rw [hexec, State.serviceNewsTaken_ends (hsettings ▸ hw) hleft, hn, State.finishService_some]
    · rw [hexec, State.serviceNewsTaken_ends (hsettings ▸ hw) hleft, hn, State.finishService_none]
    · rw [hexec, State.serviceNewsTaken_other (hsettings ▸ hno), ← hsettings]
      rfl
  · refine ⟨_, ?_, State.reevaluateTamper_reasoned _⟩
    exact congrArg Host.Outcome.next (State.writeNewsTaken_of_none _ _ (by simpa using hwait))
  · refine ⟨_, ?_, State.reevaluateTamper_reasoned _⟩
    exact congrArg Host.Outcome.next (State.serviceNewsTaken_of_none _ _ (by simpa using hwait))
  · have hexec : exec (.enterService order) s = .next (if (s.took (.enterService order)).takesRunOrders then base.enterService order
        else base) := by
      rw [exec_enterService order hwait, hbase]
      rfl
    have hitem' : base.entryItem = item := by
      rw [State.entryItem_eq, hitem, hbase]
      rfl
    refine ⟨fun hn => ?_, fun hp hin hne => ?_, fun hp hin hz => ?_⟩
    · rw [hexec, s.took_takesRunOrders_false _ (by simp [Instr.sentForm]) hn, if_neg Bool.false_ne_true]
    · rw [hexec, s.took_takesRunOrders_true _ (by simp [Instr.sentForm]) hp hin, if_pos rfl, State.enterService, hitem', if_pos hne]
      rfl
    · have hcommissioning : s.settings.service = .commissioning := by
        cases hs : s.settings.service with
        | commissioning => rfl
        | inService =>
          rw [hitem, if_pos hs] at hz
          exact absurd hz (by decide)
      rw [hexec, s.took_takesRunOrders_true _ (by simp [Instr.sentForm]) hp hin, if_pos rfl, State.enterService, hitem', hz,
        if_neg (by simp), State.changeService_eq, hbase, ← hcommissioning]
      rfl
  · rw [show exec .releaseRequest s = _ from if_pos (State.settingsFree_of_none hwait), State.changeService_eq]
    rfl

/-! ### Sweeps -/

theorem exec_settingsSecond {s : State} (h : s.settings.waiting = none) :
    exec .settingsSecond s = .next (s.took .settingsSecond).settingsSecond := if_pos (State.settingsFree_of_none h)

theorem exec_periodicSweep_early {s : State} (h : s.settings.sweepCount + 1 < 60) : exec .periodicSweep s = .next s :=
  if_neg (by simp [Config.sweepSeconds]; omega)

theorem exec_periodicSweep_due {s : State} (h : s.settings.waiting = none) (hle : 60 ≤ s.settings.sweepCount + 1) :
    exec .periodicSweep s = .next (s.took .settingsSecond).settingsSecond :=
  if_pos (by simp [State.settingsFree_of_none h, Config.sweepSeconds, hle])

/-- A row of the unit while one of its arrivals waits. -/
theorem exec_settings_waiting {s : State} (h : s.settings.waiting ≠ none) {c : Instr}
    (hc : (∃ order id v, c = .writeSetting order id v) ∨ (∃ order, c = .enterService order) ∨
      c ∈ [.releaseRequest, .settingsSecond, .periodicSweep, .warmStartSweep, .integrityTestRequest, .settingsWarmStart]) :
    exec c s = .next s := by
  have hfree : ¬s.settingsFree = true := fun hf => h (by simpa [State.settingsFree] using hf)
  simp only [List.mem_cons, List.not_mem_nil, or_false] at hc
  obtain ⟨order, id, v, rfl⟩ | ⟨order, rfl⟩ | rfl | rfl | rfl | rfl | rfl | rfl := hc
  case inr.inr.inr.inr.inl => exact if_neg (by simp [hfree])
  all_goals exact if_neg hfree

/-- The state in which the sweep of a test is made: the mark of R164 is set. -/
def State.testMarked (s : State) : State := s.onSettings fun x => { x with forcedMismatch := true }

/-- What the sweep of a test leaves once the entry is made and the mark is clear. -/
def State.testEntered (s : State) : State := { s.testMarked.sweep .test with
  settings := { (s.testMarked.sweep .test).settings with forcedMismatch := false }
  inFlight := (s.testMarked.sweep .test).inFlight ++ [.entryArrival ⟨s.calendar.t,
    .integrity .test s.settings.checkWord (crc16 (checkStream s.settings))⟩] }

theorem State.testSweep_eq (s : State) : s.testSweep = match s.tamper.integrityTest with
    | none => s.testEntered
    | some order => { s.testEntered with
        tamper := { s.tamper with integrityTest := none }
        inFlight := s.testEntered.inFlight ++ [.ownerAnswer order .ok
          (.integrityTest (decide (crc16 (checkStream s.settings) = s.settings.checkWord)))] } := by
  obtain ⟨fault, hsettings⟩ := s.testMarked.sweep_settings .test
  have hcomputed : (s.testMarked.sweep .test).settings.computed = crc16 (checkStream s.settings) := by
    rw [hsettings, Settings.computed_eq]
    rfl
  have hword : (s.testMarked.sweep .test).settings.checkWord = s.settings.checkWord := by
    rw [hsettings]
    rfl
  have htamper : (s.testMarked.sweep .test).tamper = s.tamper := by simp [State.testMarked]
  have hcalendar : (s.testMarked.sweep .test).calendar = s.calendar := by simp [State.testMarked]
  have hentered : ((s.testMarked.sweep .test).journal (.integrity .test (s.testMarked.sweep .test).settings.checkWord
      (s.testMarked.sweep .test).settings.computed)).onSettings (fun x => { x with forcedMismatch := false }) = s.testEntered := by
    rw [hword, hcomputed, State.journal, hcalendar]
    rfl
  have hentered' : s.testEntered.tamper = s.tamper := htamper
  have hcomputed' : s.testEntered.settings.computed = crc16 (checkStream s.settings) := hcomputed
  have hword' : s.testEntered.settings.checkWord = s.settings.checkWord := hword
  rw [State.testSweep]
  simp only [show s.onSettings (fun x => { x with forcedMismatch := true }) = s.testMarked from rfl]
  rw [hentered, hentered']
  cases s.tamper.integrityTest with
  | none => rfl
  | some order =>
    simp only [hcomputed', hword', State.onTamper, hentered']
    rfl

/-- Settles O44: nothing while an arrival waits, else each sweep. -/
theorem sweepsRun : Obligations.SweepsRun := by
  intro s
  refine ⟨fun h c hc => exec_settings_waiting h hc, fun hwait => ⟨fun hlt => ⟨?_, exec_periodicSweep_early hlt⟩, fun hle c hc => ?_,
    ?_, ?_, ?_⟩⟩
  · rw [exec_settingsSecond hwait]
    exact congrArg Host.Outcome.next (if_pos hlt)
  · have hexec : exec c s = .next (s.took .settingsSecond).settingsSecond := by
      obtain rfl | rfl := hc
      · exact exec_settingsSecond hwait
      · exact exec_periodicSweep_due hwait hle
    exact ⟨_, hexec.trans (congrArg Host.Outcome.next (if_neg (Nat.not_lt.mpr hle))), State.sweep_swept (by simp) _⟩
  · exact ⟨_, if_pos (State.settingsFree_of_none hwait), State.sweep_swept (by simp) _⟩
  · exact if_pos (State.settingsFree_of_none hwait)
  · have hexec : exec .integrityTestRequest s = .next (s.took .integrityTestRequest).testSweep :=
      if_pos (State.settingsFree_of_none hwait)
    refine ⟨_, hexec, _, (s.took .integrityTestRequest).testEntered, State.sweep_swept (by simp) _, rfl, fun hnone => ?_,
      fun order hsome => ?_⟩
    · rw [State.testSweep_eq, show (s.took .integrityTestRequest).tamper.integrityTest = none from hnone]
    · rw [State.testSweep_eq, show (s.took .integrityTestRequest).tamper.integrityTest = some order from hsome]
      rfl

/-! ### The lock -/

/-- The settings, the key set flag and the check word are what they were. -/
def Settings.Locked (x y : Settings) : Prop := y.values = x.values ∧ y.keySet = x.keySet ∧ y.checkWord = x.checkWord

theorem Settings.Locked.of_eq {x y : Settings} (h : y = x) : Settings.Locked x y := h ▸ ⟨rfl, rfl, rfl⟩

theorem Settings.Locked.trans {x y z : Settings} (h : Settings.Locked x y) (h' : Settings.Locked y z) : Settings.Locked x z := by
  obtain ⟨hv, hk, hc⟩ := h
  obtain ⟨hv', hk', hc'⟩ := h'
  exact ⟨hv'.trans hv, hk'.trans hk, hc'.trans hc⟩

theorem State.sweep_locked (s : State) (k : SweepKind) : Settings.Locked s.settings (s.sweep k).settings := by
  obtain ⟨fault, h⟩ := s.sweep_settings k
  rw [h]
  exact ⟨rfl, rfl, rfl⟩

theorem State.writeNewsTaken_locked (s : State) (n : Neighbour) : Settings.Locked s.settings (s.writeNewsTaken n).settings := by
  rw [State.writeNewsTaken]
  split
  · split
    · exact State.sweep_locked s.freed _
    · exact .of_eq rfl
  · exact .of_eq rfl

theorem State.serviceNewsTaken_locked (s : State) (credit : Bool) : Settings.Locked s.settings (s.serviceNewsTaken credit).settings := by
  rw [State.serviceNewsTaken]
  split
  next x y order _ =>
    dsimp only
    split
    · exact ⟨rfl, rfl, rfl⟩
    · cases order with
      | none =>
        rw [State.finishService_none, ← State.codeAccepted_eq]
        simp only [State.codeAccepted_frame]
        exact ⟨rfl, rfl, rfl⟩
      | some n => exact ⟨rfl, rfl, rfl⟩
  next => exact .of_eq rfl

theorem State.settingsSecond_locked (s : State) : Settings.Locked s.settings s.settingsSecond.settings := by
  rw [State.settingsSecond]
  split
  · exact ⟨rfl, rfl, rfl⟩
  · exact State.sweep_locked (s.onSettings fun x => { x with sweepCount := 0 }) _

theorem State.testSweep_locked (s : State) : Settings.Locked s.settings s.testSweep.settings := by
  have h : Settings.Locked s.settings s.testEntered.settings := s.testMarked.sweep_locked .test
  rw [State.testSweep_eq]
  split <;> exact h

theorem State.toldNews_locked (s : State) (c : Instr) : Settings.Locked s.settings (s.toldNews c).settings :=
  .of_eq (s.toldNews_settings c)

/-- The commands that can change the Settings Unit. -/
theorem Instr.changes_settings {c : Instr} (h : .settings ∈ Instr.changes c) :
    (∃ n, (n, c) ∈ [(Neighbour.energy, Instr.calibrationWriteNews .line), (.energy, .calibrationWriteNews .neutral),
      (.code, .keyWriteNews), (.tamper, .actionMaskNews)]) ∨
    (∃ credit, ((∃ v, c = .serviceStateNewsCredit v) ∧ credit = true) ∨ (c = .serviceStateNewsTamper ∧ credit = false)) ∨
    ((∃ order id v, c = .writeSetting order id v) ∨ (∃ order, c = .enterService order) ∨
      c ∈ [.releaseRequest, .settingsSecond, .periodicSweep, .warmStartSweep, .integrityTestRequest, .settingsWarmStart]) ∨
    (∃ cell, c = .coldStart cell) ∨ c = .retentionLoss := by
  cases c
  case calibrationWriteNews channel => cases channel <;> simp
  all_goals simp [Instr.changes, PartUnit.granted] at h ⊢

theorem exec_locked_of_writeNews {n : Neighbour} {c : Instr} (s : State)
    (h : (n, c) ∈ [(Neighbour.energy, Instr.calibrationWriteNews .line), (.energy, .calibrationWriteNews .neutral),
      (.code, .keyWriteNews), (.tamper, .actionMaskNews)]) : Ends (fun t => Settings.Locked s.settings t.settings) (exec c s) := by
  by_cases hev : c = .keyWriteNews → s.code.evaluation = none
  · rw [exec_writeNews s h hev]
    exact ⟨_, rfl, (s.toldNews_locked c).trans (State.writeNewsTaken_locked _ n)⟩
  · obtain ⟨rfl, hsome⟩ := Classical.not_imp.mp hev
    have hkeep : exec .keyWriteNews s = .next s := if_pos (Option.isSome_iff_ne_none.mpr hsome)
    rw [hkeep]
    exact ⟨_, rfl, .of_eq rfl⟩

/-- The rows that the unit takes while nothing waits, in service. -/
theorem exec_locked_of_free {c : Instr} {s : State} (hs : s.settings.service = .inService)
    (hc : (∃ order id v, c = .writeSetting order id v) ∨ (∃ order, c = .enterService order) ∨
      c ∈ [.releaseRequest, .settingsSecond, .periodicSweep, .warmStartSweep, .integrityTestRequest, .settingsWarmStart]) :
    Ends (fun t => Settings.Locked s.settings t.settings) (exec c s) := by
  by_cases hw : s.settings.waiting = none
  case neg =>
    rw [exec_settings_waiting hw hc]
    exact ⟨_, rfl, .of_eq rfl⟩
  have hf := State.settingsFree_of_none hw
  simp only [List.mem_cons, List.not_mem_nil, or_false] at hc
  obtain ⟨order, id, v, rfl⟩ | ⟨order, rfl⟩ | rfl | rfl | rfl | rfl | rfl | rfl := hc
  · rw [exec_writeSetting order id v hw, State.writeSetting, if_pos (show (s.took _).settings.service = _ from hs)]
    exact ⟨_, rfl, .of_eq rfl⟩
  · rw [exec_enterService order hw, State.enterService]
    refine ⟨_, rfl, ?_⟩
    split
    · split
      · exact .of_eq rfl
      · exact ⟨rfl, rfl, rfl⟩
    · exact .of_eq rfl
  · exact ⟨_, if_pos hf, rfl, rfl, rfl⟩
  · rw [exec_settingsSecond hw]
    exact ⟨_, rfl, State.settingsSecond_locked (s.took .settingsSecond)⟩
  · by_cases hle : 60 ≤ s.settings.sweepCount + 1
    · rw [exec_periodicSweep_due hw hle]
      exact ⟨_, rfl, State.settingsSecond_locked (s.took .settingsSecond)⟩
    · rw [exec_periodicSweep_early (Nat.not_le.mp hle)]
      exact ⟨_, rfl, .of_eq rfl⟩
  · exact ⟨_, if_pos hf, (s.took .warmStartSweep).sweep_locked _⟩
  · exact ⟨_, if_pos hf, (s.took .integrityTestRequest).testSweep_locked⟩
  · exact ⟨_, if_pos hf, rfl, rfl, rfl⟩

/-- Settles O7, by the units that a command can change, and the rows of the Settings Unit in turn. -/
theorem serviceLocksTheSettings : Obligations.ServiceLocksTheSettings := by
  intro c s t hservice hexec hret hcold
  have hends : Ends (fun t => Settings.Locked s.settings t.settings) (exec c s) := by
    by_cases hin : .settings ∈ Instr.changes c
    · obtain ⟨n, hn⟩ | ⟨credit, hc⟩ | hc | ⟨cell, hc⟩ | hc := Instr.changes_settings hin
      · exact exec_locked_of_writeNews s hn
      · rw [exec_serviceNews s hc]
        exact ⟨_, rfl, (s.toldNews_locked c).trans (State.serviceNewsTaken_locked _ credit)⟩
      · exact exec_locked_of_free hservice hc
      · exact absurd hc (hcold cell)
      · exact absurd hc hret
    · obtain ⟨u, hu, hkeep⟩ := exec_keptBut c s
      exact ⟨u, hu, .of_eq (hkeep.settings hin)⟩
  obtain ⟨u, hu, hlocked⟩ := hends
  obtain rfl := Host.Outcome.next.inj (hu.symm.trans hexec)
  exact hlocked

end Sys2Proof.Machine
end

section
/-! PROOFS. The Exchange Unit (09_exchange_memory_and_the_link.md): the link registers, the semaphores, the arbiter, the link state, and how
frames begin and go on. -/

namespace Sys2Proof.Machine

/-! ### Registers and semaphores -/

theorem State.served_iff (s : State) : s.served = true ↔ s.exchange.link = .open ∧ s.exchange.hold = false ∧
    s.pins.linkrstn = false ∧ s.exchange.resetPending = false := by
  simp [State.served, and_assoc]

theorem byte_ne_zero_iff (x : Byte) : x ≠ 0 ↔ ∃ i : Fin 8, x.getLsbD i.val = true := by
  constructor
  · intro hne
    by_contra hno
    refine hne (BitVec.eq_of_getLsbD_eq fun i hi => ?_)
    have hi' : ¬x.getLsbD i = true := fun h => hno ⟨⟨i, hi⟩, h⟩
    simpa using hi'
  · rintro ⟨i, hi⟩ rfl
    simp at hi

theorem State.irqnLow_iff (s : State) : s.irqnLow = true ↔ s.exchange.link = .open ∧ s.exchange.hold = false ∧
    ∃ i : Fin 8, s.exchange.notices.getLsbD i.val = true ∧ s.exchange.enable.getLsbD i.val = true := by
  rw [State.irqnLow, Bool.and_eq_true, Bool.and_eq_true, decide_eq_true_iff, decide_eq_true_iff, Bool.not_eq_true', and_assoc,
    byte_ne_zero_iff]
  simp only [BitVec.getLsbD_and, Bool.and_eq_true]

/-- Settles O48: the two registers where the link is served, and where it is not. -/
theorem noticesClearedAndEnabled : Obligations.NoticesClearedAndEnabled := by
  intro s v
  refine ⟨s.served_iff, fun h => ⟨_, if_pos h, fun i => ?_, rfl⟩, fun h => if_pos h, s.irqnLow_iff, fun h => ⟨?_, ?_⟩⟩
  · show (s.exchange.notices &&& ~~~v).getLsbD i.val = _
    rw [BitVec.getLsbD_and, BitVec.getLsbD_not, decide_eq_true i.isLt, Bool.true_and]
  · exact if_neg (by simp [h])
  · exact if_neg (by simp [h])

theorem exec_semaphoreTake {s : State} (h : s.served = true) (m : Semaphore) : exec (.semaphoreTake m) s =
    .next (s.onExchange fun x => { x.linkTake m with miso := [s.exchange.semaphoreByte m] }) := by
  cases m <;> exact if_pos h

theorem exec_semaphoreGive {s : State} (h : s.served = true) (m : Semaphore) (v : Byte) :
    exec (.semaphoreGive m v) s = .next (s.writeSemaphore m v) := by
  cases m <;> exact if_pos h

theorem State.writeSemaphore_refused {s : State} {m : Semaphore} {v : Byte} (h : v ≠ 0 ∨ s.exchange.holder m = .internal) :
    s.writeSemaphore m v = s.raise .link := by
  rw [State.writeSemaphore]
  by_cases hv : v ≠ 0
  · exact if_pos hv
  · rw [if_neg hv, h.resolve_left hv]

theorem State.writeSemaphore_zero (s : State) (m : Semaphore) : s.writeSemaphore m 0 = match s.exchange.holder m with
    | .none => s
    | .link => s.linkGive m
    | .internal => s.raise .link := if_neg (by simp)

theorem State.linkGive_eq (s : State) (m : Semaphore) : s.linkGive m = { s with
    exchange := s.exchange.setHolder m .none
    inFlight := s.inFlight ++ if m = .mirror then [.mirrorFreedNews] else [] } := by
  cases m
  · rfl
  · simp [State.linkGive, State.onExchange]

/-- A write of an unassigned register address changes nothing (R176). -/
theorem State.writeRegister_unassigned (s : State) {a : Nat} (v : Byte) (h : unassignedAddress a = true) : s.writeRegister a v = s := by
  rw [State.writeRegister.eq_def]
  split
  case h_8 => rfl
  all_goals exact absurd h (by decide)

/-- Settles O49: by the holder of the semaphore. -/
theorem semaphoresAndOtherRegisters : Obligations.SemaphoresAndOtherRegisters := by
  intro s m v refused hrefused
  refine ⟨fun hs => ⟨fun hm => ?_, fun hm => ?_, fun hv => ?_, fun hv hm => ?_, fun hv hm => ?_, fun hv hm => ?_⟩,
    fun hs => ⟨if_neg (by simp [hs]), if_neg (by simp [hs])⟩, fun a => ?_⟩
  · rw [exec_semaphoreTake hs, State.onExchange, Exchange.linkTake, Exchange.semaphoreByte, if_pos hm, if_pos hm]
  · rw [exec_semaphoreTake hs, State.onExchange, Exchange.linkTake, Exchange.semaphoreByte, if_neg hm, if_neg hm]
  · rw [exec_semaphoreGive hs, State.writeSemaphore_refused (.inl hv), hrefused]
    rfl
  · rw [exec_semaphoreGive hs, hv, State.writeSemaphore_zero, hm]
  · rw [exec_semaphoreGive hs, State.writeSemaphore_refused (.inr hm), hrefused]
    rfl
  · rw [exec_semaphoreGive hs, hv, State.writeSemaphore_zero, hm, ← State.linkGive_eq]
  · by_cases h : (s.served && unassignedAddress a.toNat) = true
    · refine (if_pos h).trans (congrArg Host.Outcome.next (s.writeRegister_unassigned v ?_))
      simp only [Bool.and_eq_true] at h
      exact h.2
    · exact if_neg h

/-! ### The arbiter -/

theorem Report.journalWaits_iff (x : Report) : x.journalWaits = true ↔ x.hold = false ∧ ∃ wr, x.writer = some wr ∧ wr.entries ≠ [] ∧
    ∀ b, wr.stage ≠ .stopped b := by
  rw [Report.journalWaits]
  cases hw : x.writer with
  | none => simp
  | some wr => cases hs : wr.stage <;> simp [hs]

theorem Engine.waits_iff (x : Engine) : x.waits = true ↔ x.hold = false ∧ x.work ≠ [] := by
  simp [Engine.waits]

theorem Report.publisherWaits_iff (x : Report) : x.publisherWaits = true ↔ x.hold = false ∧ x.publication ≠ none := by
  simp [Report.publisherWaits, Option.isSome_iff_ne_none]

theorem State.nextGrant_link (s : State) : s.nextGrant = some .link ↔ s.exchange.hold = false ∧ s.exchange.linkRequest ≠ none := by
  rw [State.nextGrant]
  cases s.exchange.hold <;> cases s.exchange.linkRequest <;> simp
  split_ifs <;> simp

theorem State.nextGrant_journal (s : State) : s.nextGrant = some .journal ↔
    s.exchange.hold = false ∧ s.exchange.linkRequest = none ∧ s.report.journalWaits = true := by
  rw [State.nextGrant]
  cases s.exchange.hold <;> cases s.exchange.linkRequest <;> cases s.report.journalWaits <;> simp
  split_ifs <;> simp

theorem State.nextGrant_engine (s : State) : s.nextGrant = some .engine ↔ s.exchange.hold = false ∧ s.exchange.linkRequest = none ∧
    s.report.journalWaits = false ∧ s.engine.waits = true := by
  rw [State.nextGrant]
  cases s.exchange.hold <;> cases s.exchange.linkRequest <;> cases s.report.journalWaits <;> cases s.engine.waits <;> simp

theorem State.nextGrant_publisher (s : State) : s.nextGrant = some .publisher ↔ s.exchange.hold = false ∧ s.exchange.linkRequest = none ∧
    s.report.journalWaits = false ∧ s.engine.waits = false ∧ s.report.publisherWaits = true ∧ s.exchange.mirrorHolder = .internal := by
  rw [State.nextGrant]
  cases s.exchange.hold <;> cases s.exchange.linkRequest <;> cases s.report.journalWaits <;> cases s.engine.waits <;> simp

theorem State.grant_of_none {s : State} (h : s.nextGrant = none) : s.grant = s := by
  rw [State.grant, h]

theorem State.grant_link {s : State} (h : s.nextGrant = some .link) : s.grant = s.onExchange Exchange.linkAccess := by
  rw [State.grant, h]

/-- What listed writes leave at an address: the value listed for it, where one is (the list names each address once). -/
theorem Memory.read_writeAll (cells : List Host.Cell) : ∀ (m : Memory), Memory.wf m = true →
    cells.Pairwise (fun c d => c.1 < d.1) → ∀ a, Memory.read (Memory.writeAll m cells) a = (cellAt cells a).getD (Memory.read m a) := by
  induction cells with
  | nil => intro m _ _ a; rfl
  | cons c cells ih =>
    obtain ⟨x, v⟩ := c
    intro m hwf hp a
    obtain ⟨hlt, hp⟩ := List.pairwise_cons.mp hp
    rw [Memory.writeAll]
    by_cases hx : x = a
    · subst hx
      rw [Memory.read_writeAll_other cells _ x fun d hd => Nat.ne_of_gt (hlt d hd), Memory.read_write_same m x v hwf]
      simp [cellAt]
    · rw [ih _ (Memory.write_wf m x v hwf) hp a, Memory.read_write_other m x a v fun h => hx h.symm]
      simp [cellAt, hx]

/-- Settles O50: the four requesters in their order, then the link's access. -/
theorem arbiterGrantsByPriority : Obligations.ArbiterGrantsByPriority := by
  intro s
  refine ⟨s.nextGrant_link, s.nextGrant_journal, ?_, ?_, s.report.journalWaits_iff, fun h => ?_, fun w hh hr => ?_,
    fun cells hwf hh hr hp => ?_⟩
  · rw [State.nextGrant_engine, Engine.waits_iff]
  · rw [State.nextGrant_publisher, ← Bool.not_eq_true s.engine.waits, Engine.waits_iff, Report.publisherWaits_iff, not_and_or,
      Bool.not_eq_false, not_not, and_assoc]
  · exact congrArg Host.Outcome.next (State.grant_of_none h)
  · have hgrant : s.grant = _ := State.grant_link (s.nextGrant_link.mpr ⟨hh, by simp [hr]⟩)
    refine congrArg Host.Outcome.next (hgrant.trans ?_)
    rw [State.onExchange, Exchange.linkAccess, hr]
  · have hgrant : s.grant = _ := State.grant_link (s.nextGrant_link.mpr ⟨hh, by simp [hr]⟩)
    have haccess : s.exchange.linkAccess =
        { s.exchange with linkRequest := none, mem := Memory.writeAll s.exchange.mem cells } := by
      rw [Exchange.linkAccess, hr]
    refine ⟨_, congrArg Host.Outcome.next (hgrant.trans (congrArg (fun y => { s with exchange := y }) haccess)), fun a => ?_, rfl⟩
    exact Memory.read_writeAll cells _ hwf hp a

/-! ### The link state -/

theorem State.resetLink_eq (s : State) : s.resetLink = linkResets s := by
  rw [State.resetLink, linkResets]
  by_cases h : s.exchange.mirrorHolder = .link
  · simp only [h, if_true, State.send, State.onExchange, List.append_assoc]
    rfl
  · simp only [h, if_false, Holder.freed, State.send, State.onExchange, List.append_assoc, List.append_nil]
    rfl

theorem State.openLink_eq (s : State) : s.openLink = linkOpens s := by
  rw [State.openLink, linkOpens]
  simp only [State.resetLink_eq]
  rfl

theorem State.tryOpen_eq (s : State) : s.tryOpen = linkOpensWhenDue s := by
  rw [State.tryOpen, linkOpensWhenDue, State.openLink_eq]
  simp only [State.linkDue, State.engineCurrent, Bool.and_eq_true, decide_eq_true_eq]

/-- Settles O51: each arrival of the link state. -/
theorem linkOpensClosesAndResets : Obligations.LinkOpensClosesAndResets := by
  intro s
  refine ⟨rfl, congrArg Host.Outcome.next (State.tryOpen_eq _), congrArg Host.Outcome.next (State.tryOpen_eq _),
    fun base hbase => ⟨fun hr hl => ?_, fun h => ?_⟩, rfl⟩
  · rw [hbase]
    exact congrArg Host.Outcome.next ((if_pos ⟨hr, hl⟩).trans (State.resetLink_eq _))
  · rw [hbase]
    refine congrArg Host.Outcome.next (if_neg fun hb => ?_)
    obtain ⟨hr, hl⟩ := hb
    obtain h | h := h
    · exact absurd h (by simp [hr])
    · exact absurd (h.symm.trans hl) (by decide)

end Sys2Proof.Machine
end

section
/-! PROOFS. Frames (09_exchange_memory_and_the_link.md, R168 to R172): how they begin, how their bytes follow one another, and what one data
byte of a READ and of a WRITE does. -/

namespace Sys2Proof.Machine

/-! ### What the data bytes leave of the frame record -/

/-- A frame of this command and walk is in progress, and none is ignored. -/
def Exchange.InFrame (x : Exchange) (write : Bool) (walk : Walk) : Prop :=
  x.ignoring = false ∧ ∃ f, x.frame = some f ∧ f.write = write ∧ f.walk = walk

theorem Exchange.goesOn_iff (x : Exchange) (write : Bool) (walk : Walk) :
    x.goesOn write walk = true ↔ ∃ f, x.frame = some f ∧ f.write = write ∧ f.walk = walk := by
  rw [Exchange.goesOn]
  cases x.frame <;> simp

theorem Exchange.InFrame.goesOn {x : Exchange} {write : Bool} {walk : Walk} (h : x.InFrame write walk) : x.goesOn write walk = true :=
  (x.goesOn_iff write walk).mpr h.2

theorem Exchange.openFrame_inFrame {x : Exchange} (h : x.ignoring = false) (write : Bool) (walk : Walk) (a : BitVec 12) :
    (x.openFrame write walk a).InFrame write walk := ⟨h, _, rfl, rfl, rfl⟩

theorem Exchange.shiftOut_inFrame {x : Exchange} {f : Frame} (h : x.ignoring = false) (b : Byte) :
    (x.shiftOut f b).InFrame f.write f.walk := ⟨h, _, rfl, rfl, rfl⟩

theorem Exchange.linkAccess_inFrame {x : Exchange} {write : Bool} {walk : Walk} (h : x.InFrame write walk) :
    x.linkAccess.InFrame write walk := by
  obtain ⟨hi, f, hf, hw, hk⟩ := h
  rw [Exchange.linkAccess]
  split
  next => exact ⟨hi, f, hf, hw, hk⟩
  next w _ => exact ⟨hi, { f with word := .fetched w (Memory.readWord x.mem w) }, by rw [hf]; rfl, hw, hk⟩
  next => exact ⟨hi, f, hf, hw, hk⟩

theorem State.requestLink_inFrame {s : State} {write : Bool} {walk : Walk} (h : s.exchange.InFrame write walk) (a : LinkAccess) :
    (s.requestLink a).exchange.InFrame write walk := by
  rw [State.requestLink_eq]
  show (if s.exchange.hold then _ else _ : Exchange).InFrame write walk
  split
  · exact h
  · exact Exchange.linkAccess_inFrame (x := { s.exchange with linkRequest := some a }) h

theorem State.readByte_inFrame {s : State} {f : Frame} (hf : s.exchange.frame = some f) (hi : s.exchange.ignoring = false) :
    (s.readByte f).exchange.InFrame f.write f.walk := by
  rw [State.readByte]
  dsimp only
  split
  · exact Exchange.shiftOut_inFrame (f := { f with word := .none }) (by simpa using hi) _
  · split
    · exact Exchange.shiftOut_inFrame (f := { f with word := .none }) hi _
    · rw [State.readMemoryByte]
      have hon : s.exchange.InFrame f.write f.walk := ⟨hi, f, hf, rfl, rfl⟩
      obtain ⟨t, ht⟩ : ∃ t, t = if (f.fetchedByte f.address.toNat).isSome then s else s.requestLink (.fetch (f.address.toNat / 4)) :=
        ⟨_, rfl⟩
      have hton : t.exchange.InFrame f.write f.walk := by
        rw [ht]
        split
        · exact hon
        · exact State.requestLink_inFrame hon _
      obtain ⟨hti, g, hg, hw, hk⟩ := hton
      rw [← ht, hg, ← hw, ← hk]
      exact Exchange.shiftOut_inFrame hti _

theorem State.writeRegister_inFrame {s : State} {write : Bool} {walk : Walk} (h : s.exchange.InFrame write walk) (a : Nat) (v : Byte) :
    (s.writeRegister a v).exchange.InFrame write walk := by
  simpa [Exchange.InFrame] using h

theorem State.applyBytes_inFrame {s : State} {write : Bool} {walk : Walk} (h : s.exchange.InFrame write walk) (cells : List Host.Cell) :
    (s.applyBytes cells).exchange.InFrame write walk := by
  obtain ⟨t, ht⟩ : ∃ t, t = if cells.any fun c => decide (ownerOf c.1 = .part) then s.raise .link else s := ⟨_, rfl⟩
  have hton : t.exchange.InFrame write walk := by
    rw [ht]
    split <;> exact h
  rw [State.applyBytes, ← ht]
  split
  · exact hton
  · exact State.requestLink_inFrame hton _

theorem State.applyGathered_inFrame {s : State} {write : Bool} {walk : Walk} (h : s.exchange.InFrame write walk) :
    s.applyGathered.exchange.InFrame write walk := by
  obtain ⟨hi, f, hf, hw, hk⟩ := h
  rw [State.applyGathered, hf]
  dsimp only
  split
  · exact ⟨hi, f, hf, hw, hk⟩
  · exact ⟨hi, f, hf, hw, hk⟩
  · exact State.applyBytes_inFrame (s := s.onExchange fun x => { x with frame := some { f with word := .none } })
      ⟨hi, { f with word := .none }, rfl, hw, hk⟩ _

theorem State.writeByte_inFrame {s : State} {f : Frame} (hi : s.exchange.ignoring = false) (v : Byte) :
    (s.writeByte f v).exchange.InFrame f.write f.walk := by
  rw [State.writeByte]
  dsimp only
  split
  · exact State.writeRegister_inFrame (Exchange.shiftOut_inFrame hi _) _ _
  · split
    · exact Exchange.shiftOut_inFrame (f := { f with word := _ }) hi _
    · exact State.applyGathered_inFrame (Exchange.shiftOut_inFrame (f := { f with word := _ }) hi _)

theorem State.readBytes_inFrame {write : Bool} {walk : Walk} (n : Nat) : ∀ {s : State}, s.exchange.InFrame write walk →
    (State.readBytes n s).exchange.InFrame write walk := by
  induction n with
  | zero => exact fun h => h
  | succ n ih =>
    intro s ⟨hi, f, hf, hw, hk⟩
    rw [State.readBytes, hf]
    exact ih (hw ▸ hk ▸ State.readByte_inFrame hf hi)

theorem State.writeBytes_inFrame {write : Bool} {walk : Walk} (vs : List Byte) : ∀ {s : State}, s.exchange.InFrame write walk →
    (State.writeBytes vs s).exchange.InFrame write walk := by
  induction vs with
  | nil => exact fun h => h
  | cons v vs ih =>
    intro s ⟨hi, f, hf, hw, hk⟩
    rw [State.writeBytes, hf]
    exact ih (hw ▸ hk ▸ State.writeByte_inFrame hi v)

/-! ### Bytes one after another -/

theorem State.readBytes_none {s : State} (h : s.exchange.frame = none) (n : Nat) : State.readBytes n s = s := by
  cases n with
  | zero => rfl
  | succ n => rw [State.readBytes, h]

theorem State.readBytes_add (n m : Nat) : ∀ s : State, State.readBytes (n + m) s = State.readBytes m (State.readBytes n s) := by
  induction n with
  | zero =>
    intro s
    rw [Nat.zero_add]
    rfl
  | succ n ih =>
    intro s
    rw [Nat.succ_add, State.readBytes, State.readBytes]
    cases hf : s.exchange.frame with
    | none => exact (State.readBytes_none hf m).symm
    | some f => exact ih _

theorem State.writeBytes_none {s : State} (h : s.exchange.frame = none) (vs : List Byte) : State.writeBytes vs s = s := by
  cases vs with
  | nil => rfl
  | cons v vs => rw [State.writeBytes, h]

theorem State.writeBytes_append (us vs : List Byte) : ∀ s : State,
    State.writeBytes (us ++ vs) s = State.writeBytes vs (State.writeBytes us s) := by
  induction us with
  | nil => exact fun s => rfl
  | cons u us ih =>
    intro s
    rw [List.cons_append, State.writeBytes, State.writeBytes]
    cases hf : s.exchange.frame with
    | none => exact (State.writeBytes_none hf vs).symm
    | some f => exact ih _

/-! ### Segments -/

theorem State.readFrame_served {s : State} (hc : s.exchange.csnLow = false) (hs : s.served = true) (w : Walk) (a : BitVec 16) (n : Nat)
    (last : Bool) : s.readFrame w ⟨.at a, n, last⟩ =
      (State.readBytes n (s.onExchange fun x => x.openFrame false w (a.setWidth 12))).endSegment last := by
  simp [State.readFrame, hc, hs]

theorem State.readFrame_unserved {s : State} (hc : s.exchange.csnLow = false) (hs : s.served = false) (w : Walk) (a : BitVec 16) (n : Nat)
    (last : Bool) : s.readFrame w ⟨.at a, n, last⟩ = s.onExchange fun x => x.floatBytes true (4 + n) last := by
  simp [State.readFrame, hc, hs]

theorem State.readFrame_short {s : State} (hc : s.exchange.csnLow = false) (w : Walk) (k : Fin 3) (n : Nat) (last : Bool) :
    s.readFrame w ⟨.short k, n, last⟩ =
      if s.served then s.onExchange fun x => x.emptyFrame k.val else s.onExchange fun x => x.floatBytes true (1 + k.val) true := by
  simp [State.readFrame, hc]

theorem State.readFrame_ignored {s : State} (hi : s.exchange.ignoring = true) (w : Walk) (n : Nat) (last : Bool) :
    s.readFrame w ⟨.goOn, n, last⟩ = s.onExchange fun x => x.floatBytes false n last := by
  simp [State.readFrame, hi]

theorem State.readFrame_goOn {s : State} {w : Walk} (h : s.exchange.InFrame false w) (n : Nat) (last : Bool) :
    s.readFrame w ⟨.goOn, n, last⟩ = (State.readBytes n s).endSegment last := by
  simp [State.readFrame, h.1, h.goesOn]

theorem State.readFrame_other {s : State} {w : Walk} (hi : s.exchange.ignoring = false) (h : ¬s.exchange.InFrame false w) (n : Nat)
    (last : Bool) : s.readFrame w ⟨.goOn, n, last⟩ = s := by
  have hg : s.exchange.goesOn false w = false := by
    rw [← Bool.not_eq_true, Exchange.goesOn_iff]
    exact fun hf => h ⟨hi, hf⟩
  simp [State.readFrame, hi, hg]

theorem State.writeFrame_served {s : State} (hc : s.exchange.csnLow = false) (hs : s.served = true) (w : Walk) (a : BitVec 16)
    (vs : List Byte) (last : Bool) : s.writeFrame w ⟨.at a, vs, last⟩ =
      (State.writeBytes vs (s.onExchange fun x => x.openFrame true w (a.setWidth 12))).endSegment last := by
  simp [State.writeFrame, hc, hs]

theorem State.writeFrame_unserved {s : State} (hc : s.exchange.csnLow = false) (hs : s.served = false) (w : Walk) (a : BitVec 16)
    (vs : List Byte) (last : Bool) : s.writeFrame w ⟨.at a, vs, last⟩ =
      s.onExchange fun x => x.floatBytes true (3 + vs.length) last := by
  simp [State.writeFrame, hc, hs]

theorem State.writeFrame_short {s : State} (hc : s.exchange.csnLow = false) (w : Walk) (k : Fin 3) (vs : List Byte) (last : Bool) :
    s.writeFrame w ⟨.short k, vs, last⟩ =
      if s.served then s.onExchange fun x => x.emptyFrame k.val else s.onExchange fun x => x.floatBytes true (1 + k.val) true := by
  simp [State.writeFrame, hc]

theorem State.writeFrame_ignored {s : State} (hi : s.exchange.ignoring = true) (w : Walk) (vs : List Byte) (last : Bool) :
    s.writeFrame w ⟨.goOn, vs, last⟩ = s.onExchange fun x => x.floatBytes false vs.length last := by
  simp [State.writeFrame, hi]

theorem State.writeFrame_goOn {s : State} {w : Walk} (h : s.exchange.InFrame true w) (vs : List Byte) (last : Bool) :
    s.writeFrame w ⟨.goOn, vs, last⟩ = (State.writeBytes vs s).endSegment last := by
  simp [State.writeFrame, h.1, h.goesOn]

theorem State.writeFrame_other {s : State} {w : Walk} (hi : s.exchange.ignoring = false) (h : ¬s.exchange.InFrame true w) (vs : List Byte)
    (last : Bool) : s.writeFrame w ⟨.goOn, vs, last⟩ = s := by
  have hg : s.exchange.goesOn true w = false := by
    rw [← Bool.not_eq_true, Exchange.goesOn_iff]
    exact fun hf => h ⟨hi, hf⟩
  simp [State.writeFrame, hi, hg]

/-- Floating bytes in two parts. -/
theorem State.floatBytes_twice (s : State) (fresh : Bool) (n m : Nat) (last : Bool) :
    (s.onExchange fun x => x.floatBytes fresh (n + m) last) =
      (s.onExchange fun x => x.floatBytes fresh n false).onExchange fun x => x.floatBytes false m last := by
  simp only [State.onExchange, Exchange.floatBytes, List.replicate_add, ← List.append_assoc]
  rfl

/-- A READ segment in two parts. -/
theorem State.readFrame_split {s : State} {start : FrameStart} (hshort : ∀ k, start ≠ .short k)
    (hstart : start = .goOn ∨ (s.exchange.frame = none ∧ s.exchange.ignoring = false)) (w : Walk) (n m : Nat) (last : Bool) :
    s.readFrame w ⟨start, n + m, last⟩ = (s.readFrame w ⟨start, n, false⟩).readFrame w ⟨.goOn, m, last⟩ := by
  obtain a | k | _ := start
  · obtain ⟨hf, hi⟩ := hstart.resolve_left (by simp)
    have hc : s.exchange.csnLow = false := by simp [Exchange.csnLow, hf, hi]
    cases hs : s.served with
    | true =>
      rw [State.readFrame_served hc hs, State.readFrame_served hc hs, State.readBytes_add]
      exact (State.readFrame_goOn (State.readBytes_inFrame n (Exchange.openFrame_inFrame hi false w _)) m last).symm
    | false =>
      rw [State.readFrame_unserved hc hs, State.readFrame_unserved hc hs, State.readFrame_ignored rfl, ← Nat.add_assoc]
      exact s.floatBytes_twice true (4 + n) m last
  · exact absurd rfl (hshort k)
  · by_cases hi : s.exchange.ignoring = true
    · rw [State.readFrame_ignored hi, State.readFrame_ignored hi, State.readFrame_ignored rfl]
      exact s.floatBytes_twice false n m last
    · by_cases hon : s.exchange.InFrame false w
      · rw [State.readFrame_goOn hon, State.readFrame_goOn hon, State.readBytes_add]
        exact (State.readFrame_goOn (State.readBytes_inFrame n hon) m last).symm
      · have hi' : s.exchange.ignoring = false := by simpa using hi
        rw [State.readFrame_other hi' hon, State.readFrame_other hi' hon, State.readFrame_other hi' hon]

/-- A WRITE segment in two parts. -/
theorem State.writeFrame_split {s : State} {start : FrameStart} (hshort : ∀ k, start ≠ .short k)
    (hstart : start = .goOn ∨ (s.exchange.frame = none ∧ s.exchange.ignoring = false)) (w : Walk) (us vs : List Byte) (last : Bool) :
    s.writeFrame w ⟨start, us ++ vs, last⟩ = (s.writeFrame w ⟨start, us, false⟩).writeFrame w ⟨.goOn, vs, last⟩ := by
  obtain a | k | _ := start
  · obtain ⟨hf, hi⟩ := hstart.resolve_left (by simp)
    have hc : s.exchange.csnLow = false := by simp [Exchange.csnLow, hf, hi]
    cases hs : s.served with
    | true =>
      rw [State.writeFrame_served hc hs, State.writeFrame_served hc hs, State.writeBytes_append]
      exact (State.writeFrame_goOn (State.writeBytes_inFrame us (Exchange.openFrame_inFrame hi true w _)) vs last).symm
    | false =>
      rw [State.writeFrame_unserved hc hs, State.writeFrame_unserved hc hs, State.writeFrame_ignored rfl, List.length_append,
        ← Nat.add_assoc]
      exact s.floatBytes_twice true (3 + us.length) vs.length last
  · exact absurd rfl (hshort k)
  · by_cases hi : s.exchange.ignoring = true
    · rw [State.writeFrame_ignored hi, State.writeFrame_ignored hi, State.writeFrame_ignored rfl, List.length_append]
      exact s.floatBytes_twice false us.length vs.length last
    · by_cases hon : s.exchange.InFrame true w
      · rw [State.writeFrame_goOn hon, State.writeFrame_goOn hon, State.writeBytes_append]
        exact (State.writeFrame_goOn (State.writeBytes_inFrame us hon) vs last).symm
      · have hi' : s.exchange.ignoring = false := by simpa using hi
        rw [State.writeFrame_other hi' hon, State.writeFrame_other hi' hon, State.writeFrame_other hi' hon]

theorem validCommand_false {c : Byte} (hr : c.toNat / 4 ≠ 0x2C) (hw : c.toNat / 4 ≠ 0x1C) : validCommand c = false := by
  simp [validCommand, hr, hw]

/-- Settles O45: the beginnings where frames are served and where not, then the two parts of a segment. -/
theorem framesBeginAndGoOn : Obligations.FramesBeginAndGoOn := by
  refine ⟨fun s w x hx => ?_, fun s t w start last hshort hstart => ⟨fun n m h => ?_, fun us vs h => ?_⟩⟩
  · subst hx
    refine ⟨fun hf hi hs => ?_, fun hf hi hs => ?_, fun hi => ?_⟩
    · have hc : s.exchange.csnLow = false := by simp [Exchange.csnLow, hf, hi]
      refine ⟨fun a => ?_, fun a => ?_, fun k => ?_, fun k => ?_, fun c n hr hw => ?_⟩
      · rw [exec_readRow, State.readFrame_served hc hs]
        rfl
      · rw [exec_writeRow, State.writeFrame_served hc hs]
        rfl
      · rw [exec_readRow, State.readFrame_short hc, if_pos hs]
        rfl
      · rw [exec_writeRow, State.writeFrame_short hc, if_pos hs]
        rfl
      · exact (if_neg (by simp [hc, validCommand_false hr hw])).trans (if_pos hs)
    · have hc : s.exchange.csnLow = false := by simp [Exchange.csnLow, hf, hi]
      have hns : ¬s.served = true := by simp [hs]
      refine ⟨fun a n last => ?_, fun a vs last => ?_, fun k => ?_, fun k => ?_, fun c n hr hw => ?_, fun n last => ?_⟩
      · rw [exec_readRow, State.readFrame_unserved hc hs]
        rfl
      · rw [exec_writeRow, State.writeFrame_unserved hc hs]
        rfl
      · rw [exec_readRow, State.readFrame_short hc, if_neg hns]
        rfl
      · rw [exec_writeRow, State.writeFrame_short hc, if_neg hns]
        rfl
      · exact (if_neg (by simp [hc, validCommand_false hr hw])).trans (if_neg hns)
      · exact (if_neg (by simp [hi])).trans (if_neg (by simp [hf, hs]))
    · refine ⟨fun n last => ?_, fun vs last => ?_, fun n last => ?_⟩
      · rw [exec_readRow, State.readFrame_ignored hi]
        rfl
      · rw [exec_writeRow, State.writeFrame_ignored hi]
        rfl
      · exact if_pos hi
  · rw [exec_readRow] at h
    obtain rfl := Host.Outcome.next.inj h
    rw [exec_readRow, exec_readRow, State.readFrame_split hshort hstart]
  · rw [exec_writeRow] at h
    obtain rfl := Host.Outcome.next.inj h
    rw [exec_writeRow, exec_writeRow, State.writeFrame_split hshort hstart]

end Sys2Proof.Machine
end

section
/-! PROOFS. One data byte of a READ and of a WRITE frame, and the end of a frame (09_exchange_memory_and_the_link.md, R167 to R181). -/

namespace Sys2Proof.Machine

/-! ### The walk and the owners of bytes -/

theorem Walk.next_toNat (w : Walk) (a : BitVec 12) : (w.next a).toNat = addressAfter w a.toNat := by
  have ha := a.isLt
  have hone : (1 : BitVec 12).toNat = 1 := rfl
  cases w with
  | ascend =>
    simp only [Walk.next, addressAfter, BitVec.toNat_add, hone]
    split <;> omega
  | descend =>
    simp only [Walk.next, addressAfter, BitVec.toNat_sub, hone]
    split <;> omega
  | hold => rfl
  | lineAscend =>
    simp only [Walk.next, addressAfter, BitVec.toNat_ofNat]
    split <;> omega

theorem Walk.next_eq {w : Walk} {a after : BitVec 12} (h : after.toNat = addressAfter w a.toNat) : w.next a = after :=
  BitVec.eq_of_toNat_eq ((w.next_toNat a).trans h.symm)

/-- The bytes of a slot that the host writes, without naming the slot. -/
theorem slotHostByte_iff (a : Nat) : (∃ (n : Fin 8) (o : Nat), a = 0x040 + 64 * n.val + o ∧ (o = 0 ∨ (2 ≤ o ∧ o ≤ 39))) ↔
    0x40 ≤ a ∧ a < 0x240 ∧ a % 64 ≠ 1 ∧ a % 64 < 40 := by
  constructor
  · rintro ⟨n, o, rfl, ho⟩
    have hn := n.isLt
    omega
  · rintro ⟨hlo, hhi, hne, hlt⟩
    exact ⟨⟨(a - 64) / 64, by omega⟩, a % 64, by dsimp only; omega, by omega⟩

theorem ownerOf_host_iff {a : Nat} (ha : a < 0xFC0) : ownerOf a = .host ↔ HostByte a := by
  rw [HostByte, slotHostByte_iff]
  unfold ownerOf
  split_ifs <;> simp <;> omega

theorem ownerOf_unassigned_iff {a : Nat} (ha : a < 0xFC0) : ownerOf a = .unassigned ↔ UnassignedByte a := by
  rw [UnassignedByte]
  unfold ownerOf
  split_ifs <;> simp <;> omega

theorem ownerOf_part_iff {a : Nat} (ha : a < 0xFC0) : ownerOf a = .part ↔ ¬HostByte a ∧ ¬UnassignedByte a := by
  rw [← ownerOf_host_iff ha, ← ownerOf_unassigned_iff ha]
  cases ownerOf a <;> simp

/-! ### Registers read -/

theorem signal_fold_getLsbD (p : Fin 8 → Prop) [DecidablePred p] (k : Nat) (l : List (Fin 8)) : ∀ w : Byte,
    (l.foldl (fun w n => if p n then w ||| BitVec.ofNat 8 (2 ^ n.val) else w) w).getLsbD k =
      (w.getLsbD k || l.any fun n => decide (n.val = k ∧ p n)) := by
  induction l with
  | nil => simp
  | cons n l ih =>
    intro w
    have hn := n.isLt
    have hbit : (BitVec.ofNat 8 (2 ^ n.val)).getLsbD k = decide (n.val = k) := by
      rw [BitVec.getLsbD_ofNat, Nat.testBit_two_pow]
      by_cases hk : n.val = k <;> simp [hk]
      omega
    rw [List.foldl_cons, ih, List.any_cons]
    by_cases hp : p n
    · rw [if_pos hp, BitVec.getLsbD_or, hbit]
      simp [hp, Bool.or_assoc]
    · rw [if_neg hp]
      simp [hp]

theorem Engine.signal_getLsbD (x : Engine) (st : SlotState) (n : Fin 8) : (x.signal st).getLsbD n.val = decide (x.slots[n] = st) := by
  have hzero : (0 : Byte).getLsbD n.val = false := BitVec.getLsbD_zero
  rw [Engine.signal, signal_fold_getLsbD, hzero, Bool.false_or, Bool.eq_iff_iff, List.any_eq_true, decide_eq_true_iff]
  constructor
  · rintro ⟨m, _, hm⟩
    obtain ⟨hmn, hst⟩ := of_decide_eq_true hm
    rwa [← Fin.ext hmn]
  · intro hst
    exact ⟨n, List.mem_finRange n, decide_eq_true ⟨rfl, hst⟩⟩

theorem State.registerByte_reads (s : State) (a : Nat) : RegisterReads s a (s.registerByte a) where
  post h n := by
    subst h
    exact s.engine.signal_getLsbD _ n
  done h n := by
    subst h
    exact s.engine.signal_getLsbD _ n
  notice h := by
    subst h
    rfl
  enable h := by
    subst h
    rfl
  mirror h := by
    subst h
    rfl
  stage h := by
    subst h
    rfl
  other h := by
    simp only [List.mem_cons, List.not_mem_nil, or_false, not_or] at h
    obtain ⟨h0, h2, h3, h4, h8, h9⟩ := h
    rw [State.registerByte.eq_def]
    split <;> simp_all

theorem Exchange.readEffect_eq (x : Exchange) (a : Nat) : x.readEffect a = { x with
    mirrorHolder := if a = 0xFC8 ∧ x.mirrorHolder = .none then .link else x.mirrorHolder
    stageHolder := if a = 0xFC9 ∧ x.stageHolder = .none then .link else x.stageHolder } := by
  rw [Exchange.readEffect.eq_def]
  split
  · by_cases h : x.mirrorHolder = .none <;> simp [Exchange.linkTake, Exchange.holder, Exchange.setHolder, h]
  · by_cases h : x.stageHolder = .none <;> simp [Exchange.linkTake, Exchange.holder, Exchange.setHolder, h]
  next h8 h9 => rw [if_neg fun h => h8 h.1, if_neg fun h => h9 h.1]

/-! ### One data byte of a READ -/

theorem State.readBytes_one {s : State} {f : Frame} (h : s.exchange.frame = some f) : State.readBytes 1 s = s.readByte f := by
  rw [State.readBytes, h]
  rfl

theorem Memory.readWord_getD (m : Memory) (a : Nat) : (Memory.readWord m (a / 4)).getD (a % 4) 0 = Memory.read m a := by
  have hlt : a % 4 < 4 := Nat.mod_lt _ (by omega)
  have ha : 4 * (a / 4) + a % 4 = a := Nat.div_add_mod a 4
  conv_rhs => rw [← ha]
  generalize a % 4 = r at hlt
  interval_cases r <;> rfl

theorem Frame.fetchedByte_of_fetched {f : Frame} {a : Nat} {bytes : List Byte} (h : f.word = .fetched (a / 4) bytes) :
    f.fetchedByte a = some (bytes.getD (a % 4) 0) := by
  simp [Frame.fetchedByte, h]

theorem Frame.fetchedByte_of_not {f : Frame} {a : Nat} (h : ∀ bytes, f.word ≠ .fetched (a / 4) bytes) : f.fetchedByte a = none := by
  rw [Frame.fetchedByte]
  split
  next => rfl
  next => rfl
  next w bytes hw =>
    refine if_neg fun he => h bytes ?_
    rw [hw, he]

/-- A fetch outside HOLD, with no other access waiting. -/
theorem State.requestLink_fetch {s : State} (hh : s.exchange.hold = false) (hr : s.exchange.linkRequest = none) {f : Frame}
    (hf : s.exchange.frame = some f) (w : Nat) : s.requestLink (.fetch w) = s.onExchange fun x =>
      { x with frame := some { f with word := .fetched w (Memory.readWord x.mem w) } } := by
  rw [State.requestLink_eq]
  obtain ⟨_, _, _, _, _, _, _, _, ⟨_, _, _, _, _, _, _, _, _, _, _, _, _⟩, _, _, _, _, _⟩ := s
  cases hh
  cases hr
  cases hf
  rfl

theorem State.readByte_register {s : State} {f : Frame} (h : 0xFC0 ≤ f.address.toNat) : s.readByte f =
    s.onExchange fun x => (x.readEffect f.address.toNat).shiftOut { f with word := .none } (s.registerByte f.address.toNat) :=
  if_pos h

theorem State.readByte_unassigned {s : State} {f : Frame} (h : f.address.toNat < 0xFC0) (ho : ownerOf f.address.toNat = .unassigned) :
    s.readByte f = s.onExchange fun x => x.shiftOut { f with word := .none } 0 :=
  (if_neg (Nat.not_le.mpr h)).trans (if_pos ho)

theorem State.readByte_memory {s : State} {f : Frame} (h : f.address.toNat < 0xFC0) (ho : ownerOf f.address.toNat ≠ .unassigned) :
    s.readByte f = s.readMemoryByte f := (if_neg (Nat.not_le.mpr h)).trans (if_neg ho)

theorem State.readMemoryByte_fetched {s : State} {f : Frame} {bytes : List Byte} (hf : s.exchange.frame = some f)
    (h : f.word = .fetched (f.address.toNat / 4) bytes) :
    s.readMemoryByte f = s.onExchange fun x => x.shiftOut f (bytes.getD (f.address.toNat % 4) 0) := by
  have hb := Frame.fetchedByte_of_fetched h
  rw [State.readMemoryByte]
  simp only [hb, Option.isSome_some, if_true, hf, Option.getD_some]

theorem State.readMemoryByte_fetches {s : State} {f : Frame} (hf : s.exchange.frame = some f) (hh : s.exchange.hold = false)
    (hr : s.exchange.linkRequest = none) (h : ∀ bytes, f.word ≠ .fetched (f.address.toNat / 4) bytes) :
    s.readMemoryByte f = s.onExchange fun x =>
      x.shiftOut { f with word := .fetched (f.address.toNat / 4) (Memory.readWord x.mem (f.address.toNat / 4)) }
        (Memory.read x.mem f.address.toNat) := by
  rw [State.readMemoryByte, State.requestLink_fetch hh hr hf]
  simp only [Frame.fetchedByte_of_not h, Option.isSome_none, Bool.false_eq_true, if_false, State.onExchange]
  rw [Frame.fetchedByte_of_fetched rfl, Option.getD_some, Memory.readWord_getD]
  rfl

theorem State.endFrame_of_not_gathered {s : State} {f : Frame} (hf : s.exchange.frame = some f)
    (h : ∀ w cells, f.word ≠ .gathered w cells) : s.endFrame = s.onExchange fun x => { x with frame := none } := by
  rw [State.endFrame, State.applyGathered, hf]
  dsimp only
  split
  next => rfl
  next => rfl
  next w cells hw => exact absurd hw (h w cells)

/-- Settles O46: registers, unassigned bytes, a byte of the fetched word, a byte that is fetched, and the end. -/
theorem readByteReturned : Obligations.ReadByteReturned := by
  refine ⟨fun a ha => ownerOf_unassigned_iff ha, fun s f x a after hx hfs hf hw hi ha hafter => ?_⟩
  subst hx ha
  have hnext : f.walk.next f.address = after := Walk.next_eq hafter
  have hon : s.exchange.InFrame false f.walk := ⟨hi, f, hf, hw, rfl⟩
  obtain ⟨hopen, hhold, hreset⟩ := hfs.served (by simp [hf])
  have hone : exec (readRow f.walk ⟨.goOn, 1, false⟩) s = .next (s.readByte f) := by
    rw [exec_readRow, State.readFrame_goOn hon, State.readBytes_one hf]
    rfl
  refine ⟨fun hreg => ⟨_, hone, _, s.registerByte_reads _, ?_⟩, fun hlt ho => ?_, fun bytes hlt ho hword => ?_,
    fun hlt ho hword => ?_, fun hword => ?_⟩
  · rw [State.readByte_register hreg, State.onExchange, Exchange.readEffect_eq, ← hnext]
    rfl
  · rw [hone, State.readByte_unassigned hlt ho, ← hnext]
    rfl
  · rw [hone, State.readByte_memory hlt ho, State.readMemoryByte_fetched hf hword, ← hnext]
    rfl
  · rw [hone, State.readByte_memory hlt ho, State.readMemoryByte_fetches hf hhold hfs.noRequest hword, ← hnext]
    have hword4 : Memory.readWord s.exchange.mem (f.address.toNat / 4) = [Memory.read s.exchange.mem (f.address.toNat / 4 * 4),
        Memory.read s.exchange.mem (f.address.toNat / 4 * 4 + 1), Memory.read s.exchange.mem (f.address.toNat / 4 * 4 + 2),
        Memory.read s.exchange.mem (f.address.toNat / 4 * 4 + 3)] := by
      rw [Memory.readWord, Nat.mul_comm 4]
    rw [State.onExchange, hword4]
    rfl
  · rw [exec_readRow, State.readFrame_goOn hon]
    exact congrArg Host.Outcome.next (State.endFrame_of_not_gathered hf hword)

end Sys2Proof.Machine
end

section
/-! PROOFS. One data byte of a WRITE frame, and the bytes gathered for a word (09_exchange_memory_and_the_link.md, R172). -/

namespace Sys2Proof.Machine

/-! ### Gathered bytes -/

theorem cellAt_cons (c : Host.Cell) (cs : List Host.Cell) (a : Nat) : cellAt (c :: cs) a = if c.1 = a then some c.2 else cellAt cs a := by
  rw [cellAt, cellAt, List.find?_cons]
  by_cases h : c.1 = a <;> simp [h]

theorem cellAt_gatherByte (cells : List Host.Cell) (a : Nat) (v : Byte) (b : Nat) :
    cellAt (gatherByte cells a v) b = if b = a then some v else cellAt cells b := by
  induction cells with
  | nil =>
    rw [gatherByte, cellAt_cons]
    by_cases h : b = a
    · simp [h]
    · simp [h, Ne.symm h]
  | cons c cells ih =>
    obtain ⟨x, w⟩ := c
    rw [gatherByte]
    by_cases hlt : a < x
    · rw [if_pos hlt, cellAt_cons]
      by_cases h : b = a
      · simp [h]
      · simp [h, Ne.symm h]
    · rw [if_neg hlt]
      by_cases hax : a = x
      · rw [if_pos hax, cellAt_cons, cellAt_cons]
        by_cases h : b = a
        · simp [h]
        · simp [h, Ne.symm h, ← hax]
      · rw [if_neg hax, cellAt_cons, ih, cellAt_cons]
        by_cases h : b = a
        · simp [h, Ne.symm hax]
        · simp [h]

theorem mem_gatherByte {cells : List Host.Cell} {a : Nat} {v : Byte} {c : Host.Cell} (h : c ∈ gatherByte cells a v) :
    c = (a, v) ∨ c ∈ cells := by
  induction cells with
  | nil => exact .inl (by simpa [gatherByte] using h)
  | cons d cells ih =>
    obtain ⟨x, w⟩ := d
    rw [gatherByte] at h
    split at h
    · simpa using h
    · split at h
      · obtain rfl | h := List.mem_cons.mp h
        · exact .inl rfl
        · exact .inr (List.mem_cons_of_mem _ h)
      · obtain rfl | h := List.mem_cons.mp h
        · exact .inr List.mem_cons_self
        · exact (ih h).imp_right (List.mem_cons_of_mem _)

theorem gatherByte_pairwise {cells : List Host.Cell} (h : cells.Pairwise fun c d => c.1 < d.1) (a : Nat) (v : Byte) :
    (gatherByte cells a v).Pairwise fun c d => c.1 < d.1 := by
  induction cells with
  | nil => exact List.pairwise_singleton _ _
  | cons c cells ih =>
    obtain ⟨x, w⟩ := c
    obtain ⟨hlt, hp⟩ := List.pairwise_cons.mp h
    rw [gatherByte]
    split
    next hax =>
      refine List.pairwise_cons.mpr ⟨fun d hd => ?_, h⟩
      obtain rfl | hd := List.mem_cons.mp hd
      · exact hax
      · exact hax.trans (hlt d hd)
    next hnlt =>
      split
      next hax => exact List.pairwise_cons.mpr ⟨fun d hd => hax ▸ hlt d hd, hp⟩
      next hne =>
        refine List.pairwise_cons.mpr ⟨fun d hd => ?_, ih hp⟩
        obtain rfl | hd := mem_gatherByte hd
        · show x < a
          omega
        · exact hlt d hd

theorem cellAt_filter (p : Nat → Prop) [DecidablePred p] (cells : List Host.Cell) (a : Nat) :
    cellAt (cells.filter fun c => decide (p c.1)) a = if p a then cellAt cells a else none := by
  induction cells with
  | nil => simp [cellAt]
  | cons c cells ih =>
    by_cases hp : p c.1
    · rw [List.filter_cons, if_pos (decide_eq_true hp), cellAt_cons, cellAt_cons, ih]
      by_cases hc : c.1 = a
      · simp [hc, hc ▸ hp]
      · simp [hc]
    · rw [List.filter_cons, if_neg (by simpa using hp), ih, cellAt_cons]
      by_cases hc : c.1 = a
      · simp [hc ▸ hp]
      · simp [hc]

theorem Frame.gatheredOf_pairwise {x : Exchange} (hx : FrameServed x) {f : Frame} (hf : x.frame = some f) (w : Nat) :
    (f.gatheredOf w).Pairwise fun c d => c.1 < d.1 := by
  rw [Frame.gatheredOf]
  split
  · exact .nil
  · exact .nil
  next v cells hword =>
    split
    · exact (hx.gathered f v cells hf hword).1
    · exact .nil

theorem cellAt_gatheredOf (f : Frame) (w b : Nat) : cellAt (f.gatheredOf w) b = match f.word with
    | .gathered v old => if v = w then cellAt old b else none
    | _ => none := by
  rw [Frame.gatheredOf]
  cases f.word with
  | none => rfl
  | fetched v bytes => rfl
  | gathered v cells =>
    dsimp only
    split <;> rfl

/-! ### A word applied -/

/-- The gathered bytes applied outside HOLD, with no other access waiting. -/
theorem State.applyBytes_eq {s : State} (hh : s.exchange.hold = false) (hr : s.exchange.linkRequest = none) (cells : List Host.Cell) :
    s.applyBytes cells = s.onExchange fun x => { x with
      notices := if ∃ c ∈ cells, ownerOf c.1 = .part then x.notices ||| 0x80#8 else x.notices
      mem := Memory.writeAll x.mem (cells.filter fun c => decide (ownerOf c.1 = .host)) } := by
  obtain ⟨t, ht⟩ : ∃ t, t = if cells.any fun c => decide (ownerOf c.1 = .part) then s.raise .link else s := ⟨_, rfl⟩
  have hnotice : t = s.onExchange fun x => { x with
      notices := if ∃ c ∈ cells, ownerOf c.1 = .part then x.notices ||| 0x80#8 else x.notices } := by
    rw [ht]
    by_cases h : ∃ c ∈ cells, ownerOf c.1 = .part
    · rw [if_pos (by simpa using h)]
      simp only [h, if_true]
      rfl
    · rw [if_neg (by simpa using h)]
      simp only [h, if_false]
      rfl
  have hth : t.exchange.hold = false := by
    rw [hnotice]
    exact hh
  have htr : t.exchange.linkRequest = none := by
    rw [hnotice]
    exact hr
  have hstore : ∀ kept, t.requestLink (.store kept) = t.onExchange fun x => { x with mem := Memory.writeAll x.mem kept } := by
    intro kept
    rw [State.requestLink_eq]
    simp only [State.onExchange, hth, Bool.false_eq_true, if_false, Exchange.linkAccess, ← htr]
  rw [State.applyBytes, ← ht, hstore]
  split
  next hempty =>
    rw [List.isEmpty_iff.mp hempty]
    exact hnotice
  next => rw [hnotice]; rfl

theorem State.applyBytes_wordApplied {s : State} (hh : s.exchange.hold = false) (hr : s.exchange.linkRequest = none)
    (hwf : Memory.wf s.exchange.mem = true) {cells : List Host.Cell} (hp : cells.Pairwise fun c d => c.1 < d.1) :
    ∃ y, s.applyBytes cells = { s with exchange := y } ∧ WordApplied cells s.exchange y := by
  refine ⟨_, State.applyBytes_eq hh hr cells, ?_, rfl, rfl⟩
  intro a
  rw [Memory.read_writeAll _ _ hwf (hp.filter _), cellAt_filter (fun a => ownerOf a = .host)]
  cases cellAt cells a with
  | none => by_cases ho : ownerOf a = .host <;> simp [ho]
  | some v => by_cases ho : ownerOf a = .host <;> simp [ho]

theorem State.applyGathered_of_gathered {s : State} {f : Frame} {w : Nat} {cells : List Host.Cell} (hf : s.exchange.frame = some f)
    (hw : f.word = .gathered w cells) : s.applyGathered =
      (s.onExchange fun x => { x with frame := some { f with word := .none } }).applyBytes cells := by
  rw [State.applyGathered, hf]
  dsimp only
  rw [hw]

/-! ### One data byte of a WRITE -/

theorem State.writeBytes_one {s : State} {f : Frame} (h : s.exchange.frame = some f) (v : Byte) :
    State.writeBytes [v] s = s.writeByte f v := by
  rw [State.writeBytes, h]
  rfl

theorem State.writeByte_register {s : State} {f : Frame} (h : 0xFC0 ≤ f.address.toNat) (v : Byte) :
    s.writeByte f v = (s.onExchange fun x => x.shiftOut f 0).writeRegister f.address.toNat v := if_pos h

/-- The frame with a byte gathered into its word. -/
def Frame.gathering (f : Frame) (v : Byte) : Frame :=
  { f with word := .gathered (f.address.toNat / 4) (gatherByte (f.gatheredOf (f.address.toNat / 4)) f.address.toNat v) }

theorem State.writeByte_memory {s : State} {f : Frame} (h : f.address.toNat < 0xFC0) (v : Byte) : s.writeByte f v =
    if (f.walk.next f.address).toNat / 4 = f.address.toNat / 4 then s.onExchange fun x => x.shiftOut (f.gathering v) 0
    else (s.onExchange fun x => x.shiftOut (f.gathering v) 0).applyGathered :=
  if_neg (Nat.not_le.mpr h)

theorem State.sendActions_send (s : State) (v : Byte) (action : Fin 8 → Instr) : s.sendActions v action = { s with
    inFlight := s.inFlight ++ ((List.finRange 8).filter fun n => v.getLsbD n.val).map action } := by
  have hfold : ∀ (l : List (Fin 8)) (t : State), l.foldl (fun t n => if v.getLsbD n.val then t.send (action n) else t) t =
      { t with inFlight := t.inFlight ++ (l.filter fun n => v.getLsbD n.val).map action } := by
    intro l
    induction l with
    | nil => exact fun t => by simp
    | cons n l ih =>
      intro t
      rw [List.foldl_cons, ih]
      by_cases hn : v.getLsbD n.val = true
      · rw [if_pos hn, List.filter_cons_of_pos (p := fun n : Fin 8 => v.getLsbD n.val) hn]
        simp [State.send]
      · rw [if_neg hn, List.filter_cons_of_neg (p := fun n : Fin 8 => v.getLsbD n.val) hn]
  exact hfold _ s

/-- A row of the registers makes the write that its register takes. -/
theorem exec_registerRow {s : State} (hs : s.served = true) {a : BitVec 12} {v : Byte} {row : Instr}
    (h : (a.toNat = 0xFC3 ∧ row = .noticeClear v) ∨ (a.toNat = 0xFC4 ∧ row = .noticeEnable v) ∨
      (a.toNat = 0xFC8 ∧ row = .semaphoreGive .mirror v) ∨ (a.toNat = 0xFC9 ∧ row = .semaphoreGive .stage v) ∨
      ((0xFC5 ≤ a.toNat ∧ a.toNat ≤ 0xFC7 ∨ 0xFCA ≤ a.toNat) ∧ row = .registerWriteOther a v)) :
    exec row s = .next (s.writeRegister a.toNat v) := by
  obtain ⟨ha, rfl⟩ | ⟨ha, rfl⟩ | ⟨ha, rfl⟩ | ⟨ha, rfl⟩ | ⟨ha, rfl⟩ := h
  · rw [ha]
    exact if_pos hs
  · rw [ha]
    exact if_pos hs
  · rw [ha]
    exact if_pos hs
  · rw [ha]
    exact if_pos hs
  · have hlt := a.isLt
    have hun : unassignedAddress a.toNat = true := by
      simp only [unassignedAddress, Bool.or_eq_true, Bool.and_eq_true, decide_eq_true_eq]
      omega
    exact if_pos (by rw [hs, hun]; rfl)

/-- Settles O47: the owners, a byte gathered, a byte of a register, and the end. -/
theorem writeByteTaken : Obligations.WriteByteTaken := by
  refine ⟨fun a ha => ⟨ownerOf_host_iff ha, ownerOf_unassigned_iff ha, ownerOf_part_iff ha⟩,
    fun s f x a after v hx hfs hwf hf hw hi ha hafter => ?_⟩
  subst hx ha
  have hnext : f.walk.next f.address = after := Walk.next_eq hafter
  have hon : s.exchange.InFrame true f.walk := ⟨hi, f, hf, hw, rfl⟩
  obtain ⟨hopen, hhold, hreset⟩ := hfs.served (by simp [hf])
  have hone : exec (writeRow f.walk ⟨.goOn, [v], false⟩) s = .next (s.writeByte f v) := by
    rw [exec_writeRow, State.writeFrame_goOn hon, State.writeBytes_one hf]
    rfl
  have hend : exec (writeRow f.walk ⟨.goOn, [], true⟩) s = .next s.endFrame := by
    rw [exec_writeRow, State.writeFrame_goOn hon]
    rfl
  refine ⟨fun hlt => ?_, fun u hu => ⟨fun action haction => ?_, fun row hpin hrow => ?_⟩, fun w cells hword => ?_, fun hword => ?_⟩
  · have hmemory := State.writeByte_memory (s := s) hlt v
    rw [hnext] at hmemory
    have hpair := gatherByte_pairwise (Frame.gatheredOf_pairwise hfs hf (f.address.toNat / 4)) f.address.toNat v
    refine ⟨_, hone, gatherByte (f.gatheredOf (f.address.toNat / 4)) f.address.toNat v, fun b => ?_, fun hin => ?_, fun hout => ?_⟩
    · exact (cellAt_gatherByte _ _ _ b).trans
        (congrArg (fun z => if b = f.address.toNat then some v else z) (cellAt_gatheredOf f _ b))
    · rw [hmemory, if_pos hin, ← hnext]
      rfl
    · rw [hmemory, if_neg hout, State.applyGathered_of_gathered (w := f.address.toNat / 4) rfl rfl, ← hnext]
      exact State.applyBytes_wordApplied (s := { s with exchange := { s.exchange with
        frame := some { f with address := f.walk.next f.address, word := .none }, miso := s.exchange.miso ++ [0] } })
        hhold hfs.noRequest hwf hpair
  · have hreg : 0xFC0 ≤ f.address.toNat := by omega
    have hwrite : ((s.onExchange fun x => x.shiftOut f 0).writeRegister f.address.toNat v) =
        (s.onExchange fun x => x.shiftOut f 0).sendActions v action := by
      obtain ⟨ha, rfl⟩ | ⟨ha, rfl⟩ | ⟨ha, rfl⟩ := haction <;> rw [ha] <;> rfl
    rw [hone, State.writeByte_register hreg, hwrite, State.sendActions_send, hu, ← hnext]
    rfl
  · have hreg : 0xFC0 ≤ f.address.toNat := by omega
    have hserved : u.served = true := by
      rw [hu]
      exact (State.served_iff _).mpr ⟨hopen, hhold, hpin, hreset⟩
    rw [hone, State.writeByte_register hreg, exec_registerRow hserved hrow, hu, ← hnext]
    rfl
  · have hpair := (hfs.gathered f w cells hf hword).1
    obtain ⟨y, hy, happlied⟩ := State.applyBytes_wordApplied
      (s := s.onExchange fun x => { x with frame := some { f with word := .none } }) hhold hfs.noRequest hwf hpair
    refine ⟨_, hend, { y with frame := none }, ?_, happlied.bytes, happlied.notice, ?_⟩
    · rw [State.endFrame, State.applyGathered_of_gathered hf hword, hy]
      rfl
    · exact congrArg (fun z : Exchange => { z with frame := none }) happlied.rest
  · rw [hend, State.endFrame_of_not_gathered hf hword]
    rfl

end Sys2Proof.Machine
end

section
/-! PROOFS. The Order Engine (10_orders.md): slots and takes, the copies and the dispatch, the owners' replies, HOLD, warm start and link
reset. -/

namespace Sys2Proof.Machine

/-! ### Slots and takes -/

theorem Engine.setSlot_eq (x : Engine) (n : Fin 8) (st : SlotState) : x.setSlot n st = slotChanged x n st := by
  rw [Engine.setSlot, Engine.addState, slotChanged]
  dsimp only
  by_cases h : WorkItem.state n ∈ x.work
  · rw [if_pos h, if_pos h, List.append_nil]
  · rw [if_neg h, if_neg h]

theorem Engine.lowestPosted_some {x : Engine} {n : Fin 8} (hn : x.slots[n] = .posted) (hlow : ∀ m : Fin 8, m < n → x.slots[m] ≠ .posted) :
    x.lowestPosted = some n := by
  obtain ⟨before, after, hsplit⟩ := List.append_of_mem (List.mem_finRange n)
  have hbefore : ∀ m ∈ before, m < n := by
    have hsorted := List.pairwise_lt_finRange 8
    rw [hsplit, List.pairwise_append] at hsorted
    exact fun m hm => hsorted.2.2 m hm n List.mem_cons_self
  rw [Engine.lowestPosted, hsplit, List.find?_append,
    List.find?_eq_none.mpr fun m hm => by simpa using hlow m (hbefore m hm), Option.none_or]
  exact List.find?_cons_of_pos (decide_eq_true hn)

theorem Engine.lowestPosted_none {x : Engine} (h : ∀ n : Fin 8, x.slots[n] ≠ .posted) : x.lowestPosted = none :=
  List.find?_eq_none.mpr fun n _ => by simpa using h n

theorem Engine.take_made (x : Engine) : TakeMade x x.take where
  made n hmode hcur hn hlow := by
    rw [Engine.take, if_pos ⟨hmode, hcur⟩, Engine.lowestPosted_some hn hlow, ← Engine.setSlot_eq]
    rfl
  none h := by
    rw [Engine.take]
    by_cases hb : x.mode = .running ∧ x.current = .none
    · rw [if_pos hb, Engine.lowestPosted_none fun n hn => h ⟨hb.1, hb.2, n, hn⟩]
    · rw [if_neg hb]

/-- Settles O52: by the engine's mode and the slot's state. -/
theorem slotActionsTaken : Obligations.SlotActionsTaken := by
  intro s n serving hserving
  have htakes : s.engine.takesActions = true ↔ serving := by
    rw [hserving]
    simp [Engine.takesActions]
  refine ⟨fun base hbase => ?_, fun base hbase => ?_, fun base hbase => ?_⟩
  · have hexec : exec (.post n) s = .next (if s.engine.takesActions then base.postSlot n else base) := by
      rw [hbase]
      rfl
    have hengine : s.engine = base.engine := by rw [hbase]
    have hexchange : s.exchange = base.exchange := by rw [hbase]
    refine ⟨fun hn => ?_, fun hs hfree => ?_, fun hs hne => ?_⟩
    · rw [hexec, if_neg fun h => hn (htakes.mp h)]
    · rw [if_pos (htakes.mpr hs), State.postSlot, ← hengine, if_pos hfree] at hexec
      refine ⟨_, hexec, rfl, ?_⟩
      rw [hengine, ← Engine.setSlot_eq]
      exact Engine.take_made _
    · rw [hexec, if_pos (htakes.mpr hs), State.postSlot, ← hengine, if_neg hne, hexchange, hengine]
      rfl
  · have hexec : exec (.withdraw n) s = .next (if s.engine.takesActions then base.withdrawSlot n else base) := by
      rw [hbase]
      rfl
    have hengine : s.engine = base.engine := by rw [hbase]
    refine ⟨fun hs hposted => ?_, fun h => ?_⟩
    · rw [hexec, if_pos (htakes.mpr hs), State.withdrawSlot, ← hengine, if_pos hposted, ← Engine.setSlot_eq, hengine]
      rfl
    · rw [hexec]
      by_cases hs : serving
      · rw [if_pos (htakes.mpr hs), State.withdrawSlot, ← hengine, if_neg (h.resolve_left (not_not.mpr hs))]
      · rw [if_neg fun ht => hs (htakes.mp ht)]
  · have hexec : exec (.release n) s = .next (if s.engine.takesActions then base.releaseSlot n else base) := by
      rw [hbase]
      rfl
    have hengine : s.engine = base.engine := by rw [hbase]
    have hexchange : s.exchange = base.exchange := by rw [hbase]
    refine ⟨fun hn => ?_, fun hs hdone => ?_, fun hs hne => ?_⟩
    · rw [hexec, if_neg fun h => hn (htakes.mp h)]
    · rw [hexec, if_pos (htakes.mpr hs), State.releaseSlot, ← hengine, if_pos hdone, ← Engine.setSlot_eq, hengine]
      rfl
    · rw [hexec, if_pos (htakes.mpr hs), State.releaseSlot, ← hengine, if_neg hne, hexchange, hengine]
      rfl

/-! ### Copies and dispatch -/

theorem orderKind_of_first {bytes : List Byte} {b : Byte} (h : bytes[0]? = some b) : orderKind bytes = b.toNat := by
  rw [orderKind, List.getD_eq_getElem?_getD, h]
  rfl

theorem orderCommand_none {order : OrderId} {bytes : List Byte} (h : orderKind bytes = 0 ∨ 11 < orderKind bytes) :
    orderCommand order bytes = none := by
  rw [orderCommand.eq_def]
  split
  case h_11 => rfl
  all_goals omega

theorem orderCommand_some {bytes : List Byte} (order : OrderId) (hlo : 1 ≤ orderKind bytes) (hhi : orderKind bytes ≤ 11)
    (hne : orderKind bytes ≠ 7) : ∃ c, orderCommand order bytes = some c := by
  rw [orderCommand]
  generalize orderKind bytes = k at hlo hhi hne
  obtain hlt | hgt := Nat.lt_or_gt_of_ne hne
  · interval_cases k <;> exact ⟨_, rfl⟩
  · interval_cases k <;> exact ⟨_, rfl⟩

theorem State.grant_engine {s : State} (h : s.nextGrant = some .engine) : s.grant = s.engineAccess := by
  rw [State.grant, h]

theorem State.engineAccess_copy {s : State} {n : Fin 8} {rest : List WorkItem} (h : s.engine.work = .copy n :: rest) :
    s.engineAccess = s.copyAccess n := by
  rw [State.engineAccess, h]

theorem State.engineAccess_staging {s : State} {rest : List WorkItem} (h : s.engine.work = .staging :: rest) :
    s.engineAccess = s.stagingAccess := by
  rw [State.engineAccess, h]

theorem State.copyAccess_eq {s : State} {o : CurrentOrder} (h : s.engine.current = some o) (n : Fin 8) :
    s.copyAccess n = if s.engine.granted < 9 then s.onEngine fun x => { x with
        current := some { o with bytes := o.bytes ++ Memory.readWord s.exchange.mem (slotBase n / 4 + s.engine.granted) }
        granted := x.granted + 1 }
      else (s.onEngine Engine.popWork).dispatch
        { o with bytes := o.bytes ++ Memory.readWord s.exchange.mem (slotBase n / 4 + s.engine.granted) } := by
  rw [State.copyAccess, h]

theorem exec_slotCopyDone {s : State} {n : Fin 8} {rest : List WorkItem} (hg : s.nextGrant = some .engine)
    (hw : s.engine.work = .copy n :: rest) :
    exec .slotCopyDone s = if 9 ≤ s.engine.granted then .next s.grant else .next s := by
  show execSlotCopyDone s = _
  rw [execSlotCopyDone, hg, hw]

theorem exec_stagingCopyDone {s : State} {rest : List WorkItem} (hg : s.nextGrant = some .engine)
    (hw : s.engine.work = .staging :: rest) :
    exec .stagingCopyDone s = if 63 ≤ s.engine.granted then .next s.grant else .next s := by
  show execStagingCopyDone s = _
  rw [execStagingCopyDone, hg, hw]

theorem slotBase_word (n : Fin 8) : slotBase n / 4 = 16 * (n.val + 1) := by
  rw [slotBase]
  omega

theorem State.dispatch_adoptHeld {s : State} {o : CurrentOrder} (hk : orderKind o.bytes = 7) (hh : s.exchange.stageHolder = .link) :
    s.dispatch o = s.onEngine fun x => { x with
      current := some { o with phase := .answering }, work := x.work ++ [.answer o.id.slot .stageHeld .none] } :=
  (if_pos hk).trans (if_pos hh)

theorem State.dispatch_adopt {s : State} {o : CurrentOrder} (hk : orderKind o.bytes = 7) (hh : s.exchange.stageHolder ≠ .link) :
    s.dispatch o = { s with
      exchange := { s.exchange with stageHolder := .internal }
      engine := { s.engine with current := some o, staged := [], work := s.engine.work ++ [.staging] } } :=
  (if_pos hk).trans (if_neg hh)

theorem State.dispatch_unknown {s : State} {o : CurrentOrder} (hk : orderKind o.bytes = 0 ∨ 11 < orderKind o.bytes) :
    s.dispatch o = s.onEngine fun x => { x with
      current := some { o with phase := .answering }, work := x.work ++ [.answer o.id.slot .unknownKind .none] } := by
  have hne : orderKind o.bytes ≠ kindAdoptTariff := by
    rw [kindAdoptTariff]
    omega
  rw [State.dispatch, if_neg hne, orderCommand_none hk]
  rfl

theorem State.dispatch_handed {s : State} {o : CurrentOrder} {c : Instr} (hk : orderKind o.bytes ≠ 7)
    (hc : orderCommand o.id o.bytes = some c) : s.dispatch o = { s with
      engine := { s.engine with current := some { o with phase := .withOwner } }, inFlight := s.inFlight ++ [c] } := by
  rw [State.dispatch, if_neg (show ¬_ = kindAdoptTariff from hk), hc]
  rfl

theorem State.stagingAccess_done {s : State} {o : CurrentOrder} (h : s.engine.current = some o) {rest : List WorkItem}
    (hw : s.engine.work = .staging :: rest) (hle : 63 ≤ s.engine.granted) : s.stagingAccess = { s with
      exchange := { s.exchange with
        stageHolder := if s.exchange.stageHolder = .internal then .none else s.exchange.stageHolder }
      engine := { s.engine with work := rest, granted := 0, staged := [], current := some { o with phase := .withOwner } }
      inFlight := s.inFlight ++ [.tariffImageArrival o.id
        (s.engine.staged ++ Memory.readWord s.exchange.mem (stagingBase / 4 + s.engine.granted))] } := by
  rw [State.stagingAccess, if_neg (Nat.not_lt.mpr hle), State.stagingDone]
  simp only [State.onExchange, State.onEngine, Engine.popWork, h, hw]
  rfl

/-- Settles O53: a word of each copy, its last word, and the dispatch by kind. -/
theorem ordersCopiedAndDispatched : Obligations.OrdersCopiedAndDispatched := by
  intro s o hgrant hcur
  refine ⟨fun n rest w bytes popped hwork hw hbytes hpopped => ⟨fun b hb => orderKind_of_first hb, fun hlt => ?_, fun hle c hc => ?_⟩,
    fun rest w bytes hwork hw hbytes => ⟨fun hlt => ?_, fun hle c hc => ?_⟩⟩
  · have hread : o.bytes ++ Memory.readWord s.exchange.mem (slotBase n / 4 + s.engine.granted) = bytes := by
      rw [hbytes, hw, slotBase_word]
      rfl
    refine ⟨(exec_slotCopyDone hgrant hwork).trans (if_neg (Nat.not_le.mpr hlt)), ?_⟩
    have haccess : s.grant = _ := (State.grant_engine hgrant).trans ((State.engineAccess_copy hwork).trans (State.copyAccess_eq hcur n))
    rw [hread, if_pos hlt] at haccess
    exact congrArg Host.Outcome.next haccess
  · have hread : o.bytes ++ Memory.readWord s.exchange.mem (slotBase n / 4 + s.engine.granted) = bytes := by
      rw [hbytes, hw, slotBase_word]
      rfl
    have haccess : s.grant = _ := (State.grant_engine hgrant).trans ((State.engineAccess_copy hwork).trans (State.copyAccess_eq hcur n))
    rw [hread, if_neg (Nat.not_lt.mpr hle)] at haccess
    have hpop : s.onEngine Engine.popWork = { s with engine := popped } := by
      rw [hpopped, State.onEngine, Engine.popWork, hwork]
      rfl
    have hexec : exec c s = .next (State.dispatch { s with engine := popped } { o with bytes := bytes }) := by
      rw [← hpop, ← haccess]
      obtain rfl | rfl := hc
      · rfl
      · rw [exec_slotCopyDone hgrant hwork, if_pos hle]
    have hrest : popped.work = rest := by rw [hpopped]
    refine ⟨fun hk hh => ?_, fun hk hh => ?_, fun hk => ?_, fun hlo hhi hne => ?_⟩
    · rw [hexec, State.dispatch_adoptHeld (s := { s with engine := popped }) (o := { o with bytes := bytes }) hk hh, ← hrest]
      rfl
    · rw [hexec, State.dispatch_adopt (s := { s with engine := popped }) (o := { o with bytes := bytes }) hk hh, ← hrest]
    · rw [hexec, State.dispatch_unknown (s := { s with engine := popped }) (o := { o with bytes := bytes }) hk, ← hrest]
      rfl
    · obtain ⟨d, hd⟩ := orderCommand_some o.id hlo hhi hne
      exact ⟨d, hd, by rw [hexec, State.dispatch_handed (s := { s with engine := popped }) (o := { o with bytes := bytes }) hne hd]⟩
  · have hread : s.engine.staged ++ Memory.readWord s.exchange.mem (stagingBase / 4 + s.engine.granted) = bytes := by
      rw [hbytes, hw]
      rfl
    refine ⟨(exec_stagingCopyDone hgrant hwork).trans (if_neg (Nat.not_le.mpr hlt)), ?_⟩
    rw [← hread]
    exact congrArg Host.Outcome.next ((State.grant_engine hgrant).trans ((State.engineAccess_staging hwork).trans (if_pos hlt)))
  · have hread : s.engine.staged ++ Memory.readWord s.exchange.mem (stagingBase / 4 + s.engine.granted) = bytes := by
      rw [hbytes, hw]
      rfl
    have hexec : exec c s = .next s.grant := by
      obtain rfl | rfl := hc
      · rfl
      · rw [exec_stagingCopyDone hgrant hwork, if_pos hle]
    rw [hexec, State.grant_engine hgrant, State.engineAccess_staging hwork, State.stagingAccess_done hcur hwork hle, hread]

/-- Settles O54: kind by kind. -/
theorem orderArgumentsHandedOver : Obligations.OrderArgumentsHandedOver := by
  intro order bytes hlen
  have hfield : ∀ offset n v : Nat, offset + n ≤ 40 →
      (∀ i b, i < n → bytes[offset + i]? = some b → b.toNat = v / 256 ^ (n - 1 - i) % 256) → fieldNat bytes offset n = v % 256 ^ n := by
    intro offset n v hle hb
    rw [fieldNat_eq_numberAt (hlen.symm ▸ hle)]
    refine numberAt_of_bytes _ _ n v fun k hk => BitVec.eq_of_toNat_eq ?_
    have hget : bytes[offset + k]? = some bytes[offset + k] := List.getElem?_eq_getElem (by omega)
    rw [List.getD_eq_getElem?_getD, hget, BitVec.toNat_ofNat]
    exact hb k _ hk hget
  refine ⟨fun b hb => orderKind_of_first hb, fun h => ⟨fieldBytes bytes 4 24, ?_, fun i hi => ?_, by simp only [orderCommand, h]⟩,
    fun h => by simp only [orderCommand, h], fun h => by simp only [orderCommand, h], fun h => by simp only [orderCommand, h],
    fun h => by simp only [orderCommand, h], fun target h hb => ?_, fun id value h hid hb => ?_, fun h => by simp only [orderCommand, h],
    fun b hb => ⟨fun h => ?_, fun h => ?_⟩, orderCommand_none⟩
  · rw [fieldBytes, List.length_take, List.length_drop, hlen]
    rfl
  · rw [fieldBytes, List.getElem?_take_of_lt hi, List.getElem?_drop]
  · simp only [orderCommand, h, hfield 4 4 target.toNat (by omega) hb]
    have heq : BitVec.ofNat 32 (target.toNat % 256 ^ 4) = target := BitVec.eq_of_toNat_eq (by
      rw [BitVec.toNat_ofNat]
      have := target.isLt
      omega)
    rw [heq]
  · simp only [orderCommand, h, hfield 8 8 value.toNat (by omega) hb]
    have heq : BitVec.ofNat 64 (value.toNat % 256 ^ 8) = value := BitVec.eq_of_toNat_eq (by
      rw [BitVec.toNat_ofNat]
      have := value.isLt
      omega)
    rw [heq, List.getD_eq_getElem?_getD, hid]
    rfl
  · simp only [orderCommand, h, List.getD_eq_getElem?_getD, hb, Option.getD_some]
  · simp only [orderCommand, h, List.getD_eq_getElem?_getD, hb, Option.getD_some]

end Sys2Proof.Machine
end

section
/-! PROOFS. The Order Engine (10_orders.md): the owners' replies, HOLD, warm start and link reset. -/

namespace Sys2Proof.Machine

/-! ### Replies -/

theorem Engine.withOwner_eq (x : Engine) (n : OrderId) :
    x.withOwner n = x.current.filter fun o => decide (o.id = n ∧ o.phase = .withOwner) := by
  rw [Engine.withOwner]
  simp only [Bool.decide_and]

/-- An order that its owner has in hand is the order that the reply names. -/
theorem Engine.withOwner_id {x : Engine} {n : OrderId} {o : CurrentOrder} (h : x.withOwner n = some o) : o.id = n := by
  obtain ⟨_, hp⟩ := Option.filter_eq_some_iff.mp h
  simp only [Bool.and_eq_true, decide_eq_true_eq] at hp
  exact hp.1

theorem Engine.endCurrent_made (x : Engine) : TakeMade { x with current := none } x.endCurrent := Engine.take_made _

theorem Engine.takeAnswer_current {x : Engine} {n : OrderId} {o : CurrentOrder} (h : x.withOwner n = some o) (ha : o.abandoned = false)
    (code : ResultCode) (data : ResultData) : x.takeAnswer n code data = { x with
      current := some { o with phase := .answering }, work := x.work ++ [.answer n.slot code data] } := by
  rw [Engine.takeAnswer, h, ← Engine.withOwner_id h]
  exact if_neg (by simp [ha])

theorem Engine.takeAnswer_abandoned {x : Engine} {n : OrderId} {o : CurrentOrder} (h : x.withOwner n = some o) (ha : o.abandoned = true)
    (code : ResultCode) (data : ResultData) : x.takeAnswer n code data = x.endCurrent := by
  rw [Engine.takeAnswer, h]
  exact if_pos ha

theorem Engine.takeAnswer_parked {x : Engine} {n : OrderId} (h : x.withOwner n = none) (hp : ∃ p ∈ x.parked, p.id = n)
    (code : ResultCode) (data : ResultData) : x.takeAnswer n code data = { x with
      parked := x.parked.filter fun p => decide (p.id ≠ n), work := x.work ++ [.answer n.slot code data] } := by
  rw [Engine.takeAnswer, h]
  exact if_pos (by simpa using hp)

theorem Engine.takeAnswer_discarded {x : Engine} {n : OrderId} (h : x.withOwner n = none) (hp : ∀ p ∈ x.parked, p.id ≠ n)
    (code : ResultCode) (data : ResultData) : x.takeAnswer n code data = x := by
  rw [Engine.takeAnswer, h]
  exact if_neg (by simpa using hp)

theorem Engine.takePark_none {x : Engine} {n : OrderId} (h : x.withOwner n = none) : x.takePark n = x := by
  rw [Engine.takePark, h]

theorem Engine.takePark_some {x : Engine} {n : OrderId} {o : CurrentOrder} (h : x.withOwner n = some o) : x.takePark n =
    Engine.endCurrent { x with parked := x.parked ++ if o.abandoned then [] else [ParkedOrder.mk n (orderKind o.bytes)] } := by
  rw [Engine.takePark, h]
  by_cases ha : o.abandoned = true
  · rw [if_pos ha, List.append_nil]
    exact if_pos ha
  · rw [if_neg ha]
    exact if_neg ha

theorem Engine.takeReport_other {st : RelayState} (h : st ∉ [RelayState.open, .ready, .stuck]) (x : Engine) (r : ReasonSet) :
    x.takeReport st r = x := by
  cases st
  case closed | opening | closing => rfl
  all_goals exact absurd h (by decide)

theorem Engine.takeReport_settled {st : RelayState} (h : st ∈ [RelayState.open, .ready, .stuck]) (x : Engine) (r : ReasonSet) :
    x.takeReport st r = { x with
      parked := x.parked.filter fun p => decide (p.kind ≠ 4)
      work := x.work ++ (x.parked.filter fun p => decide (p.kind = 4)).map fun p =>
        .answer p.id.slot (if st = .stuck then .failed else .ok) (.relay st r) } := by
  cases st
  case closed | opening | closing => exact absurd h (by decide)
  all_goals rfl

/-- Settles O56: an answer, a park and a report, by the engine's mode and the order that the reply names. -/
theorem ownerRepliesTaken : Obligations.OwnerRepliesTaken := by
  intro s n code data owner st r mine hmine
  have howner : s.engine.withOwner n = mine := (s.engine.withOwner_eq n).trans hmine.symm
  refine ⟨fun base hbase => ?_, fun base hbase => ?_, fun base hbase => ?_⟩
  · have hengine : s.engine = base.engine := by rw [hbase]
    have hexec : exec (.ownerAnswer n code data) s = .next (if s.engine.mode = .running
        then base.onEngine fun x => x.takeAnswer n code data else base) := by
      rw [hbase]
      rfl
    have hrun : s.engine.mode = .running →
        exec (.ownerAnswer n code data) s = .next { base with engine := s.engine.takeAnswer n code data } := fun hm => by
      rw [hexec, if_pos hm, hengine]
      rfl
    refine ⟨fun hm => ?_, fun o hm ho ha => ?_, fun o hm ho ha => ?_, fun hm hnone hp => ?_, fun hm hnone hp => ?_⟩
    · rw [hexec, if_neg (by simp [hm])]
    · rw [hrun hm, Engine.takeAnswer_current (howner.trans ho) ha]
    · refine ⟨_, hrun hm, ?_, rfl⟩
      rw [Engine.takeAnswer_abandoned (howner.trans ho) ha]
      exact Engine.endCurrent_made _
    · rw [hrun hm, Engine.takeAnswer_parked (howner.trans hnone) hp]
    · rw [hrun hm, Engine.takeAnswer_discarded (howner.trans hnone) hp, hengine]
  · have hengine : s.engine = base.engine := by rw [hbase]
    have hexec : exec (.ownerPark ⟨owner, n⟩) s = .next (if s.engine.mode = .running
        then base.onEngine fun x => x.takePark n else base) := by
      rw [hbase]
      rfl
    have hrun : s.engine.mode = .running →
        exec (.ownerPark ⟨owner, n⟩) s = .next { base with engine := s.engine.takePark n } := fun hm => by
      rw [hexec, if_pos hm, hengine]
      rfl
    refine ⟨fun h => ?_, fun o hm ho => ?_⟩
    · by_cases hm : s.engine.mode = .running
      · have hnone : mine = none := h.resolve_left (by simp [hm])
        rw [hrun hm, Engine.takePark_none (howner.trans hnone), hengine]
      · rw [hexec, if_neg hm]
    · refine ⟨_, hrun hm, ?_, rfl⟩
      rw [Engine.takePark_some (howner.trans ho)]
      exact Engine.endCurrent_made { s.engine with
        parked := s.engine.parked ++ if o.abandoned then [] else [ParkedOrder.mk n (orderKind o.bytes)] }
  · have hengine : s.engine = base.engine := by rw [hbase]
    have hexec : exec (.relayStateReport st r) s = .next (if s.engine.mode = .running
        then base.onEngine fun x => x.takeReport st r else base) := by
      rw [hbase]
      rfl
    have hrun : s.engine.mode = .running →
        exec (.relayStateReport st r) s = .next { base with engine := s.engine.takeReport st r } := fun hm => by
      rw [hexec, if_pos hm, hengine]
      rfl
    refine ⟨fun h => ?_, fun hm hst => ?_⟩
    · by_cases hm : s.engine.mode = .running
      · rw [hrun hm, Engine.takeReport_other (h.resolve_left (by simp [hm])), hengine]
      · rw [hexec, if_neg hm]
    · rw [hrun hm, Engine.takeReport_settled hst]

/-! ### HOLD, warm start and link reset -/

/-- What the engine's HOLD entry leaves but for the arrivals in flight. -/
theorem exec_engineHoldEntry (s : State) : exec .engineHoldEntry s = .next { s with
    engine := { s.engine with mode := .stopped, hold := true }
    exchange := { s.exchange with answersTold := false }
    inFlight := ((discardBefore .engineHoldEntry Instr.linkAction s.inFlight).erase .engineHoldEntry).filter
      fun c => !Instr.withdrawnAtHold c } := rfl

theorem exec_engineWarmStart (s : State) : exec .engineWarmStart s = .next { s with
    engine := s.engine.warmStart
    inFlight := (s.inFlight.erase .engineWarmStart).filter fun c => !Instr.engineStale c } := rfl

theorem CurrentOrder.bind_afterReset (o : Option CurrentOrder) : o.bind CurrentOrder.afterReset =
    (o.filter fun o => decide (o.phase = .withOwner)).map fun o => { o with abandoned := true } := by
  cases o with
  | none => rfl
  | some o => cases hp : o.phase <;> simp [CurrentOrder.afterReset, hp]

theorem Engine.copiesStage_iff (x : Engine) : x.copiesStage = true ↔ WorkItem.staging ∈ x.work := by
  simp [Engine.copiesStage]

theorem exec_engineLinkReset (s : State) : exec .engineLinkReset s = .next { s with
    engine := s.engine.linkReset
    exchange := { s.exchange with
      stageHolder := if WorkItem.staging ∈ s.engine.work ∧ s.exchange.stageHolder = .internal then .none
        else s.exchange.stageHolder }
    inFlight := (discardBefore .engineLinkReset Instr.linkAction s.inFlight).erase .engineLinkReset } := by
  have hgive : ∀ t : State, (if t.engine.copiesStage then t.onExchange Exchange.giveStage else t) = { t with
      exchange := { t.exchange with
        stageHolder := if WorkItem.staging ∈ t.engine.work ∧ t.exchange.stageHolder = .internal then .none
          else t.exchange.stageHolder } } := fun t => by
    by_cases h : WorkItem.staging ∈ t.engine.work
    · rw [if_pos ((Engine.copiesStage_iff _).mpr h)]
      simp only [h, true_and]
      rfl
    · rw [if_neg fun hb => h ((Engine.copiesStage_iff _).mp hb)]
      simp only [h, false_and, if_false]
  exact congrArg (fun u : State => Host.Outcome.next (u.onEngine Engine.linkReset))
    (hgive ((s.dropStale .engineLinkReset Instr.linkAction).took .engineLinkReset))

theorem notLinkAction_eq : (fun c => !Instr.linkAction c) = fun c => match c with
    | .post _ => false
    | .withdraw _ => false
    | .release _ => false
    | _ => true := by
  funext c
  cases c <;> rfl

/-- Settles O57: each start and stop of the engine, and what is dropped from flight. -/
theorem engineStopsStartsAndResets : Obligations.EngineStopsStartsAndResets := by
  intro s
  refine ⟨⟨_, exec_engineHoldEntry s, rfl, fun before after hf hn => ?_⟩, ?_,
    ⟨_, exec_engineLinkReset s, ?_, fun n => ?_, fun before after hf hn => ?_⟩⟩
  · have hkept : (fun c => !Instr.withdrawnAtHold c) = fun c => match c with
        | .answersWrittenNews => false
        | .enterCode _ _ => false
        | .setTime _ _ => false
        | .tariffImageArrival _ _ => false
        | .enterService _ => false
        | _ => true := by
      funext c
      cases c <;> rfl
    show List.filter _ ((discardBefore .engineHoldEntry Instr.linkAction s.inFlight).erase .engineHoldEntry) = _
    rw [hf, erase_discardBefore hn, hkept]
    exact congrArg (fun p => List.filter _ (List.filter p before ++ after)) notLinkAction_eq
  · have hkept : (fun c => !Instr.engineStale c) = fun c => match c with
        | .post _ => false
        | .withdraw _ => false
        | .release _ => false
        | .ownerAnswer _ _ _ => false
        | .ownerPark _ => false
        | .relayStateReport _ _ => false
        | _ => true := by
      funext c
      cases c <;> rfl
    rw [exec_engineWarmStart, hkept]
    rfl
  · dsimp only [Engine.linkReset]
    rw [CurrentOrder.bind_afterReset]
    rfl
  · show (#v[.free, .free, .free, .free, .free, .free, .free, .free] : Vector SlotState 8)[n] = .free
    revert n
    decide
  · show (discardBefore .engineLinkReset Instr.linkAction s.inFlight).erase .engineLinkReset = _
    rw [hf, erase_discardBefore hn]
    exact congrArg (fun p => List.filter p before ++ after) notLinkAction_eq

end Sys2Proof.Machine
end

section
/-! PROOFS. The byte layouts (09_exchange_memory_and_the_link.md, Layouts): the result of an answer, a journal entry, the status mirror. -/

namespace Sys2Proof.Machine

/-! ### Pieces -/

/-- Consecutive pieces as bytes: each a size with a value, or a gap of zeros. -/
def pieceBytes (ps : List (Nat × Option Int)) : List Byte := ps.flatMap fun p => signedBytes p.1 (p.2.getD 0)

/-- The fields of consecutive pieces, with the offsets at which they stand. -/
def pieceFields : Nat → List (Nat × Option Int) → List (Nat × Nat × Int)
  | _, [] => []
  | base, (n, none) :: ps => pieceFields (base + n) ps
  | base, (n, some x) :: ps => (base, n, x) :: pieceFields (base + n) ps

/-- A piece as an unsigned number. -/
def pieceChunk (p : Nat × Option Int) : Nat × Nat := (p.1, (p.2.getD 0 % (256 ^ p.1 : Nat)).toNat)

theorem pieceBytes_chunks (ps : List (Nat × Option Int)) : pieceBytes ps = chunkBytes (ps.map pieceChunk) := by
  rw [pieceBytes, chunkBytes, List.flatMap_map]
  rfl

theorem pieceFields_placed {ps : List (Nat × Option Int)} : ∀ {base : Nat} {f : Nat × Nat × Int}, f ∈ pieceFields base ps →
    ∃ v, (f.1, f.2.1, v) ∈ placed base (ps.map pieceChunk) ∧ f.2.2 % (256 ^ f.2.1 : Nat) = (v : Int) % (256 ^ f.2.1 : Nat) := by
  induction ps with
  | nil => exact fun h => absurd h List.not_mem_nil
  | cons p ps ih =>
    intro base f hf
    obtain ⟨n, x | x⟩ := p
    · obtain ⟨v, hv, hx⟩ := ih (base := base + n) hf
      exact ⟨v, List.mem_cons_of_mem _ hv, hx⟩
    · obtain rfl | hf := List.mem_cons.mp hf
      · refine ⟨_, List.mem_cons_self, ?_⟩
        have hpos : (0 : Int) < (256 ^ n : Nat) := by positivity
        show x % (256 ^ n : Nat) = ((x % (256 ^ n : Nat)).toNat : Int) % (256 ^ n : Nat)
        rw [Int.toNat_of_nonneg (Int.emod_nonneg _ hpos.ne'), Int.emod_emod_of_dvd _ dvd_rfl]
      · obtain ⟨v, hv, hx⟩ := ih (base := base + n) hf
        exact ⟨v, List.mem_cons_of_mem _ hv, hx⟩

theorem placed_pieceFields {ps : List (Nat × Option Int)} : ∀ {base : Nat} {g : Nat × Nat × Nat},
    g ∈ placed base (ps.map pieceChunk) → g.2.2 = 0 ∨ ∃ x, (g.1, g.2.1, x) ∈ pieceFields base ps := by
  induction ps with
  | nil => exact fun h => absurd h List.not_mem_nil
  | cons p ps ih =>
    intro base g hg
    obtain ⟨n, x | x⟩ := p
    · obtain rfl | hg := List.mem_cons.mp hg
      · exact .inl (by simp [pieceChunk])
      · exact ih (base := base + n) hg
    · obtain rfl | hg := List.mem_cons.mp hg
      · exact .inr ⟨x, List.mem_cons_self⟩
      · exact (ih (base := base + n) hg).imp_right fun ⟨y, hy⟩ => ⟨y, List.mem_cons_of_mem _ hy⟩

/-- Bytes that are consecutive pieces are laid out by the pieces' fields. -/
theorem LaidOut.of_pieces {base size : Nat} {fields : List (Nat × Nat × Int)} {ps : List (Nat × Option Int)}
    (hs : (ps.map fun p => p.1).sum = size) (hf : ∀ f, f ∈ fields ↔ f ∈ pieceFields base ps) :
    LaidOut base size fields (pieceBytes ps) := by
  rw [pieceBytes_chunks]
  refine LaidOut.of_chunks base size fields _ ?_ (fun f hm => pieceFields_placed ((hf f).mp hm)) fun g hg => ?_
  · rw [← hs, chunkBytes, List.length_flatMap, List.map_map]
    simp [Function.comp_def, pieceChunk]
  · exact (placed_pieceFields hg).imp_right fun ⟨x, hx⟩ => ⟨x, (hf _).mpr hx⟩

/-! ### The bytes of a piece -/

theorem beBytes_mod (n v : Nat) : beBytes n (v % 256 ^ n) = beBytes n v := by
  have hmod : ∀ k m u : Nat, k ≤ m → beBytes k (u % 256 ^ m) = beBytes k u := by
    intro k
    induction k with
    | zero => exact fun m u h => rfl
    | succ k ih =>
      intro m u h
      rw [beBytes, beBytes, ih m u (by omega)]
      congr 1
      apply BitVec.eq_of_toNat_eq
      rw [BitVec.toNat_ofNat, BitVec.toNat_ofNat]
      obtain ⟨d, rfl⟩ : ∃ d, m = k + 1 + d := ⟨m - (k + 1), by omega⟩
      rw [show 256 ^ (k + 1 + d) = 256 ^ k * (256 * 256 ^ d) by ring, Nat.mod_mul_right_div_self,
        Nat.mod_mod_of_dvd _ (Dvd.intro _ rfl)]
  exact hmod n n v le_rfl

theorem signedBytes_natCast (n v : Nat) : signedBytes n (v : Int) = beBytes n v := by
  rw [signedBytes, ← Int.natCast_emod, Int.toNat_natCast, beBytes_mod]

theorem signedBytes_one (v : Nat) : signedBytes 1 (v : Int) = [byteOf v] := by
  rw [signedBytes_natCast]
  simp [beBytes, byteOf]

theorem beBytes_one (v : Nat) : beBytes 1 v = [byteOf v] := by
  simp [beBytes, byteOf]

theorem length_signedBytes (n : Nat) (x : Int) : (signedBytes n x).length = n := by
  simp [signedBytes]

theorem beBytes_zero (n : Nat) : beBytes n 0 = List.replicate n 0 := by
  induction n with
  | zero => rfl
  | succ n ih => rw [beBytes, ih, Nat.zero_div, List.replicate_succ]; rfl

theorem signedBytes_gap (n : Nat) : signedBytes n 0 = List.replicate n 0 := by
  rw [← beBytes_zero]
  exact signedBytes_natCast n 0

theorem padTo_eq {n : Nat} {bytes : List Byte} (h : bytes.length ≤ n) :
    padTo n bytes = bytes ++ List.replicate (n - bytes.length) 0 := by
  rw [padTo, List.take_append, List.take_of_length_le h, List.take_replicate]
  congr 2
  omega

theorem bitsNumber_one (b : Bool) : bitsNumber [b] = flagNat b := by
  cases b <;> rfl

theorem reasonBits_eq (r : ReasonSet) : reasonBits r = r.number := by
  simp only [reasonBits, bitsNumber, ReasonSet.number, flagNat]
  omega

theorem enumeratedValuesNumbered : EnumeratedValuesNumbered :=
  ⟨rfl, rfl, rfl, rfl, rfl, rfl, rfl, rfl, rfl, rfl⟩

/-! ### Answers -/

/-- The pieces of a result's data, to the end of its 22 bytes. -/
def answerPieces : ResultData → List (Nat × Option Int)
  | .none => [(22, none)]
  | .noneOfTamper => [(22, none)]
  | .code o cls serial amount balance lockout =>
    [(1, some o.number), (1, some cls), (3, some serial), (3, some amount), (8, some balance), (2, some lockout), (4, none)]
  | .relay st r => [(1, some st.number), (1, some (reasonBits r)), (20, none)]
  | .emergency st ea em c => [(1, some st.number), (1, some (bitsNumber [ea])), (1, some (bitsNumber [em])), (8, some c), (11, none)]
  | .setTime requested applied remaining => [(8, some requested), (8, some applied), (2, some remaining), (4, none)]
  | .tariffRefused item index => [(1, some item), (1, some index), (20, none)]
  | .tariffAdopted band friendly => [(2, none), (1, some band.val), (1, some (bitsNumber [friendly])), (18, none)]
  | .setting x clamped fault applied =>
    [(1, some (x.id : Int)), (1, some (bitsNumber [clamped])), (1, some (bitsNumber [fault])), (3, none), (8, some applied),
      (8, none)]
  | .item n => [(1, some n), (21, none)]
  | .clearTamper mask latches => [(1, some mask.toNat), (1, some latches.toNat), (20, none)]
  | .target n => [(1, some n), (21, none)]
  | .testOk n timer t => [(1, some n), (4, some timer), (4, some t), (13, none)]
  | .testFailed n deadline => [(1, some n), (4, some deadline), (17, none)]
  | .integrityTest isMatch => [(1, some 6), (8, none), (1, some (bitsNumber [isMatch])), (12, none)]

theorem answerFields_pieces (code : ResultCode) (data : ResultData) :
    (40, 2, (code.number : Int)) :: answerFields data = pieceFields 40 ((2, some (code.number : Int)) :: answerPieces data) := by
  cases data <;> rfl

theorem answerBytes_pieces (code : ResultCode) (data : ResultData) :
    answerBytes code data = pieceBytes ((2, some (code.number : Int)) :: answerPieces data) := by
  have hpad : padTo 22 data.fields = pieceBytes (answerPieces data) := by
    have hlen : data.fields.length ≤ 22 := by
      cases data <;> simp [ResultData.fields, signedBytes]
    rw [padTo_eq hlen]
    cases data <;>
      simp [ResultData.fields, answerPieces, pieceBytes, signedBytes_natCast, beBytes_one, length_signedBytes, signedBytes_gap,
        bitsNumber_one, reasonBits_eq, show signedBytes 1 6 = [6] from rfl]
  rw [answerBytes, hpad, ← signedBytes_natCast]
  rfl

theorem answerBytes_laidOut (code : ResultCode) (data : ResultData) :
    LaidOut 40 24 ((40, 2, (code.number : Int)) :: answerFields data) (answerBytes code data) := by
  rw [answerBytes_pieces]
  refine LaidOut.of_pieces ?_ fun f => by rw [answerFields_pieces]
  cases data <;> rfl

/-! ### Journal entries -/

theorem bitsNumber_two (a b : Bool) : bitsNumber [a, b] = flagNat a + 2 * flagNat b := by
  cases a <;> cases b <;> rfl

theorem bitsNumber_four (a b c d : Bool) :
    bitsNumber [a, b, c, d] = flagNat a + 2 * flagNat b + 4 * flagNat c + 8 * flagNat d := by
  simp only [bitsNumber, flagNat]
  omega

theorem cappedBytes_eq (n v : Nat) (m : Int) (hm : m = (256 ^ n - 1 : Nat)) :
    cappedBytes n v = signedBytes n (min (v : Int) m) := by
  rw [cappedBytes, hm, ← signedBytes_natCast, Nat.cast_min]

theorem cappedBytes_four (v : Nat) : cappedBytes 4 v = signedBytes 4 (min (v : Int) 4294967295) := cappedBytes_eq 4 v _ rfl

theorem cappedSigned_clamp (n : Nat) (x m : Int) (hm : m = (256 ^ n / 2 : Nat)) (hpos : 0 < m) :
    cappedSigned n x = signedBytes n (max (-m) (min x (m - 1))) := by
  rw [cappedSigned, ← hm]
  congr 1
  split_ifs <;> omega

/-- The two values of an entry as pieces. -/
def pairPieces (a b : Nat) : List (Nat × Option Int) :=
  [(4, some (min (a : Int) 4294967295)), (4, some (min (b : Int) 4294967295))]

theorem valuePair_pieces (a b : Nat) : valuePair a b = pieceBytes (pairPieces a b) := by
  rw [valuePair, cappedBytes_four, cappedBytes_four, ← List.append_nil (signedBytes 4 (min (b : Int) 4294967295))]
  rfl

/-- The pieces of an entry from its offset 8 on. -/
def payloadPieces : Event → List (Nat × Option Int)
  | .tamper _ _ _ a b => pairPieces a b
  | .tamperCleared _ mask latches => pairPieces mask.toNat latches.toNat
  | .code _ serial amount => pairPieces serial amount
  | .lockout _ lockoutEnd => pairPieces lockoutEnd 0
  | .credit _ _ _ c b =>
    [(5, some (max (-549755813888) (min c 549755813887))), (3, some (min (b.toNat : Int) 16777215))]
  | .emergency c ec =>
    [(4, some (max (-2147483648) (min c 2147483647))), (4, some (min (ec : Int) 4294967295))]
  | .relay _ r consent sensed => pairPieces (reasonBits r) (bitsNumber [consent, sensed])
  | .relayFault _ sensed => pairPieces (bitsNumber [sensed]) 0
  | .overLimit _ _ billed pLim =>
    [(5, some (min (billed : Int) 1099511627775)), (2, some (min (pLim : Int) 65535)), (1, none)]
  | .overVoltage _ u uHigh => pairPieces u uHigh
  | .sag u uLow => pairPieces u uLow
  | .backupLow reading bcLow => pairPieces reading bcLow
  | .time oldT delta => pairPieces oldT delta.natAbs
  | .tariff band friendly => pairPieces band.val (bitsNumber [friendly])
  | .service _ old new => pairPieces old.number new.number
  | .integrity _ stored computed => pairPieces stored.toNat computed.toNat
  | .power _ start duration => pairPieces start duration
  | .overflow kind => pairPieces kind 0

theorem eventPayload_pieces (e : Event) : e.payload = pieceBytes (payloadPieces e) := by
  cases e with
  | credit old new cause c b =>
    rw [Event.payload, cappedSigned_clamp 5 c 549755813888 rfl (by omega), cappedBytes_eq 3 _ 16777215 rfl]
    simp only [payloadPieces, pieceBytes, List.flatMap_cons, List.flatMap_nil, Option.getD_some, List.append_nil]
    rfl
  | emergency c ec =>
    rw [Event.payload, cappedSigned_clamp 4 c 2147483648 rfl (by omega), cappedBytes_four]
    simp only [payloadPieces, pieceBytes, List.flatMap_cons, List.flatMap_nil, Option.getD_some, List.append_nil]
    rfl
  | overLimit trip mode billed pLim =>
    rw [Event.payload, cappedBytes_eq 5 _ 1099511627775 rfl, cappedBytes_eq 2 _ 65535 rfl]
    simp only [payloadPieces, pieceBytes, List.flatMap_cons, List.flatMap_nil, Option.getD_some, Option.getD_none, List.append_nil,
      List.append_assoc]
    rfl
  | relay st r consent sensed =>
    rw [Event.payload, valuePair_pieces, payloadPieces, reasonBits_eq, bitsNumber_two]
  | relayFault d sensed => rw [Event.payload, valuePair_pieces, payloadPieces, bitsNumber_one]
  | tariff band friendly => rw [Event.payload, valuePair_pieces, payloadPieces, bitsNumber_one]
  | _ => exact valuePair_pieces _ _

theorem eventFields_pieces (e : Event) :
    eventFields e = (2, 1, (e.kind : Int)) :: (3, 1, (e.detail : Int)) :: pieceFields 8 (payloadPieces e) := by
  cases e with
  | tamper i test standby a b =>
    rw [eventFields, bitsNumber_two, show i.index.val + 8 * (flagNat test + 2 * flagNat standby) =
      i.index.val + 8 * flagNat test + 16 * flagNat standby by omega]
    rfl
  | tamperCleared byOrder mask latches => rw [eventFields, bitsNumber_one]; rfl
  | overVoltage set u uHigh => rw [eventFields, bitsNumber_one]; rfl
  | time oldT delta => rw [eventFields, bitsNumber_one]; rfl
  | service byCode old new => rw [eventFields, bitsNumber_one]; rfl
  | power doubt start duration => rw [eventFields, bitsNumber_one]; rfl
  | _ => rfl

/-- The pieces of a journal entry. -/
def entryPieces (seq : BitVec 16) (e : Entry) : List (Nat × Option Int) :=
  [(2, some (seq.toNat : Int)), (1, some (e.event.kind : Int)), (1, some (e.event.detail : Int)),
    (4, some ((min e.time 4294967295 : Nat) : Int))] ++ payloadPieces e.event

theorem entryBytes_pieces (seq : BitVec 16) (e : Entry) : entryBytes seq e = pieceBytes (entryPieces seq e) := by
  rw [entryBytes, eventPayload_pieces, cappedBytes, show 256 ^ 4 - 1 = 4294967295 from rfl]
  simp only [entryPieces, pieceBytes, List.cons_append, List.nil_append, List.flatMap_cons, Option.getD_some,
    signedBytes_natCast, beBytes_one, List.append_assoc]

theorem entryBytes_laidOut (seq : BitVec 16) (e : Entry) : LaidOut 0 16 (entryFields seq e) (entryBytes seq e) := by
  rw [entryBytes_pieces]
  refine LaidOut.of_pieces ?_ fun f => ?_
  · obtain ⟨time, event⟩ := e
    cases event <;> rfl
  · rw [entryFields, eventFields_pieces]
    show f ∈ _ :: _ :: _ :: _ :: pieceFields 8 (payloadPieces e.event) ↔
      f ∈ _ :: _ :: _ :: _ :: pieceFields 8 (payloadPieces e.event)
    simp only [List.mem_cons]
    tauto

/-! ### The status mirror -/

theorem sourcesNumber_eq (f : Source → Bool) : sourcesNumber f = sourceBits f := by
  simp only [sourcesNumber, bitsNumber, sourceBits, flagNat]
  omega

/-- The pieces of the status mirror. -/
def mirrorPieces (s : State) (count : BitVec 32) (lockout : Nat) : List (Nat × Option Int) :=
  [(4, some (count.toNat : Int)), (4, some (s.calendar.t : Int)), (8, some s.credit.c), (8, some (s.credit.b.toNat : Int)),
    (8, some (s.energy.billed.toNat : Int)), (8, some (s.energy.forward.toNat : Int)),
    (8, some (s.energy.reverse.toNat : Int)), (4, some (min (s.energy.power : Int) 4294967295)),
    (2, some (s.energy.voltage : Int)), (1, some (s.calendar.band.val : Int)),
    (1, some (bitsNumber [s.calendar.friendly, s.credit.deferral, s.credit.ea, s.credit.em] : Int)),
    (1, some (s.credit.state.number : Int)), (1, some (s.switch.relay.number : Int)),
    (1, some (reasonBits s.switch.reasons : Int)), (1, some (bitsNumber [s.switch.consent] : Int)),
    (1, some (s.switch.trips : Int)), (2, some (s.switch.lastDuty : Int)),
    (1, some (sourcesNumber fun i => (s.tamper.record i).latch : Int)),
    (1, some (sourcesNumber fun i => (s.tamper.record i).active : Int)), (1, some (s.settings.service.number : Int)),
    (1, some (bitsNumber [s.settings.fault, s.supply.backupLow, s.supply.sag, s.switch.coilWait] : Int)), (1, none),
    (2, some (s.switch.pLim : Int)), (2, some (lockout : Int))] ++
  (Source.all.flatMap fun i => [(1, some ((s.tamper.record i).count : Int)), (4, some ((s.tamper.record i).first : Int)),
    (4, some ((s.tamper.record i).last : Int))]) ++ [(2, none)]

theorem mirrorFields_pieces (s : State) (count : BitVec 32) (lockout : Nat) :
    mirrorFields s count lockout = pieceFields 0 (mirrorPieces s count lockout) := by
  simp only [mirrorFields, mirrorPieces, Source.all, List.flatMap_cons, List.flatMap_nil, List.cons_append, List.nil_append,
    List.append_nil, pieceFields]
  rfl

theorem recordBytes_pieces (r : SourceRecord) :
    recordBytes r = pieceBytes [(1, some (r.count : Int)), (4, some (r.first : Int)), (4, some (r.last : Int))] := by
  simp only [recordBytes, pieceBytes, List.flatMap_cons, List.flatMap_nil, Option.getD_some, signedBytes_natCast, List.append_nil,
    List.append_assoc]

theorem flatten_map_pieces {α : Type} (l : List α) (f : α → List Byte) (g : α → List (Nat × Option Int))
    (h : ∀ i, f i = pieceBytes (g i)) : (l.map f).flatten = pieceBytes (l.flatMap g) := by
  rw [pieceBytes, List.flatMap_assoc, List.flatMap_def]
  exact congrArg (fun k => (l.map k).flatten) (funext h)

theorem mirrorBytes_pieces (s : State) (count : BitVec 32) (lockout : Nat) :
    mirrorBytes s count lockout = pieceBytes (mirrorPieces s count lockout) := by
  have hrec := flatten_map_pieces Source.all (fun i => recordBytes (s.tamper.record i)) (fun i =>
    [(1, some ((s.tamper.record i).count : Int)), (4, some ((s.tamper.record i).first : Int)),
      (4, some ((s.tamper.record i).last : Int))]) fun i => recordBytes_pieces _
  unfold mirrorBytes mirrorPieces
  rw [hrec, pieceBytes, pieceBytes, List.flatMap_append, List.flatMap_append, cappedBytes_four]
  simp only [List.flatMap_cons, List.flatMap_nil, Option.getD_some, Option.getD_none, signedBytes_natCast, beBytes_one,
    signedBytes_gap, List.replicate, List.append_assoc, bitsNumber_four, bitsNumber_one, reasonBits_eq, sourcesNumber_eq, List.cons_append,
    List.nil_append]

theorem mirrorBytes_laidOut (s : State) (count : BitVec 32) (lockout : Nat) :
    LaidOut 0 128 (mirrorFields s count lockout) (mirrorBytes s count lockout) := by
  rw [mirrorBytes_pieces]
  refine LaidOut.of_pieces ?_ fun f => by rw [mirrorFields_pieces]
  simp [mirrorPieces, Source.all]

end Sys2Proof.Machine
end

section
/-! PROOFS. The Order Engine's answer items and state items (10_orders.md), and what follows the last of them. -/

namespace Sys2Proof.Machine

theorem State.engineAccess_answer {s : State} {n : Fin 8} {code : ResultCode} {data : ResultData} {rest : List WorkItem}
    (h : s.engine.work = .answer n code data :: rest) : s.engineAccess = (s.answerAccess n code data).drained := by
  rw [State.engineAccess, h]

theorem State.engineAccess_state {s : State} {n : Fin 8} {rest : List WorkItem} (h : s.engine.work = .state n :: rest) :
    s.engineAccess = (s.stateAccess n).drained := by
  rw [State.engineAccess, h]

theorem exec_answerComplete {s : State} {n : Fin 8} {code : ResultCode} {data : ResultData} {rest : List WorkItem}
    (hg : s.nextGrant = some .engine) (hw : s.engine.work = .answer n code data :: rest) :
    exec .answerComplete s = if 5 ≤ s.engine.granted then .next s.grant else .next s := by
  show execAnswerComplete s = _
  rw [execAnswerComplete, hg, hw]

theorem exec_stateByteWritten {s : State} {n : Fin 8} {rest : List WorkItem}
    (hg : s.nextGrant = some .engine) (hw : s.engine.work = .state n :: rest) : exec .stateByteWritten s = .next s.grant := by
  show execStateByteWritten s = _
  rw [execStateByteWritten, hg, hw]

/-! ### What follows the last item -/

theorem State.drained_of_work {s : State} (h : s.engine.work ≠ []) : s.drained = s := if_neg h

/-- What an emptied work list leaves of the engine and of the frames' wait for it. -/
def State.writingEnded (s : State) : State := { s with
  engine := { s.engine with resetWriting := false }
  exchange := { s.exchange with
    resetPending := s.exchange.resetPending && !(s.engine.resetWriting && decide (Instr.engineLinkReset ∉ s.inFlight)) } }

theorem State.drained_emptied {s : State} (h : s.engine.work = []) : s.drained =
    if s.engine.mode = .stopped ∧ s.engine.hold = false then { s.writingEnded with
      engine := Engine.take { s.writingEnded.engine with mode := .running }
      inFlight := s.inFlight ++ [.answersWrittenNews] }
    else s.writingEnded := by
  have hended : (if s.engine.resetWriting then
        (s.onEngine fun x => { x with resetWriting := false }).onExchange
          fun x => { x with resetPending := x.resetPending && decide (Instr.engineLinkReset ∈ s.inFlight) }
      else s) = s.writingEnded := by
    rw [State.writingEnded]
    cases hw : s.engine.resetWriting
    · rw [if_neg Bool.false_ne_true, Bool.false_and, Bool.not_false, Bool.and_true, ← hw]
    · rw [if_pos rfl, Bool.true_and, decide_not, Bool.not_not]
      rfl
  exact (if_pos h).trans (congrArg (fun u : State => if u.engine.mode = .stopped ∧ u.engine.hold = false then
    (u.onEngine fun x => { x with mode := .running }.take).send .answersWrittenNews else u) hended)

theorem Engine.slotChanged_work_ne_nil (x : Engine) (n : Fin 8) (st : SlotState) : (slotChanged x n st).work ≠ [] := by
  intro h
  obtain ⟨hwork, hadd⟩ := List.append_eq_nil_iff.mp h
  rw [hwork] at hadd
  exact absurd hadd (by simp)

/-- A take leaves the work list with its items. -/
theorem Engine.take_work_ne_nil {x : Engine} (h : x.work ≠ []) : x.take.work ≠ [] := by
  rw [Engine.take]
  split
  · split
    · exact h
    · exact List.append_ne_nil_of_right_ne_nil _ (List.cons_ne_nil _ _)
  · exact h

/-! ### Answer items -/

/-- The engine after the last word of an answer item. -/
def Engine.answered (x : Engine) (n : Fin 8) : Engine :=
  if (x.current.any fun o => decide (o.id.slot = n)) then x.endCurrent else x

theorem Engine.answered_ended {x : Engine} {n : Fin 8} {o : CurrentOrder} (ho : x.current = some o) (hn : o.id.slot = n) :
    TakeMade { x with current := none } (x.answered n) := by
  rw [Engine.answered, ho, Option.any_some, if_pos (decide_eq_true hn)]
  exact Engine.endCurrent_made x

theorem Engine.answered_kept {x : Engine} {n : Fin 8} (h : ∀ o, x.current = some o → o.id.slot ≠ n) : x.answered n = x := by
  rw [Engine.answered]
  cases ho : x.current with
  | none => rfl
  | some o => rw [Option.any_some, if_neg (by simpa using h o ho)]

theorem Engine.answered_work_ne_nil {x : Engine} (h : x.work ≠ []) (n : Fin 8) : (x.answered n).work ≠ [] := by
  rw [Engine.answered]
  split
  · exact Engine.take_work_ne_nil (x := { x with current := none }) h
  · exact h

theorem State.completeAnswer_eq {s : State} {w : WorkItem} {rest : List WorkItem} (hw : s.engine.work = w :: rest) (n : Fin 8) :
    s.completeAnswer n = { s with
      exchange := { s.exchange with notices := s.exchange.notices ||| 0x01#8 }
      engine := (slotChanged { s.engine with work := rest, granted := 0 } n .done).answered n } := by
  have hpop : s.engine.popWork.setSlot n .done = slotChanged { s.engine with work := rest, granted := 0 } n .done := by
    rw [Engine.popWork, hw, ← Engine.setSlot_eq]
    rfl
  rw [← hpop]
  rfl

/-! ### State items -/

theorem SlotState.byteOf_number (st : SlotState) : byteOf st.number = match st with
    | .free => 0
    | .posted => 1
    | .taken => 2
    | .done => 3 := by
  cases st <;> rfl

/-- What a state item leaves before what follows an emptied list. -/
def State.itemWritten (s : State) (mem : Memory) (rest : List WorkItem) : State := { s with
  exchange := { s.exchange with
    mem := mem
    resetPending := s.exchange.resetPending &&
      !(s.engine.resetWriting && decide (rest = [] ∧ Instr.engineLinkReset ∉ s.inFlight)) }
  engine := { s.engine with work := rest, granted := 0, resetWriting := s.engine.resetWriting && !decide (rest = []) } }

theorem State.itemWritten_nil (s : State) (mem : Memory) : s.itemWritten mem [] = State.writingEnded { s with
    exchange := { s.exchange with mem := mem }, engine := { s.engine with work := [], granted := 0 } } := by
  simp only [State.itemWritten, State.writingEnded, true_and, decide_true, Bool.not_true, Bool.and_false]

theorem State.itemWritten_of_ne {rest : List WorkItem} (h : rest ≠ []) (s : State) (mem : Memory) : s.itemWritten mem rest = { s with
    exchange := { s.exchange with mem := mem }, engine := { s.engine with work := rest, granted := 0 } } := by
  simp only [State.itemWritten, h, false_and, decide_false, Bool.not_false, Bool.and_false, Bool.and_true]

/-- Settles O55: the layouts, a word of an answer item and its last word, and a state item with what follows an emptied list. -/
theorem answersAndStatesWritten : Obligations.AnswersAndStatesWritten := by
  refine ⟨enumeratedValuesNumbered, answerBytes_laidOut, fun s hgrant hwf =>
    ⟨fun n code data rest hwork mem hmem => ⟨fun hlt => ?_, fun hle c hc => ?_⟩, fun n rest hwork c hc => ?_⟩⟩
  · have hstore : s.store (slotBase n + 40 + 4 * s.engine.granted) (fieldBytes (answerBytes code data) (4 * s.engine.granted) 4) =
        { s with exchange := { s.exchange with mem := mem } } := by
      rw [hmem, slotBase, show 64 + 64 * n.val + 40 = 104 + 64 * n.val by omega]
      rfl
    refine ⟨(exec_answerComplete hgrant hwork).trans (if_neg (Nat.not_le.mpr hlt)), ?_⟩
    have haccess : s.answerAccess n code data = { s with
        exchange := { s.exchange with mem := mem }, engine := { s.engine with granted := s.engine.granted + 1 } } := by
      rw [State.answerAccess, hstore]
      exact if_pos hlt
    show Host.Outcome.next s.grant = _
    rw [State.grant_engine hgrant, State.engineAccess_answer hwork, haccess, State.drained_of_work]
    exact fun h => List.cons_ne_nil _ _ (hwork.symm.trans h)
  · have hstore : s.store (slotBase n + 40 + 4 * s.engine.granted) (fieldBytes (answerBytes code data) (4 * s.engine.granted) 4) =
        { s with exchange := { s.exchange with mem := mem } } := by
      rw [hmem, slotBase, show 64 + 64 * n.val + 40 = 104 + 64 * n.val by omega]
      rfl
    have haccess : s.answerAccess n code data = State.completeAnswer { s with exchange := { s.exchange with mem := mem } } n := by
      rw [State.answerAccess, hstore]
      exact if_neg (Nat.not_lt.mpr hle)
    have hexec : exec c s = .next s.grant := by
      obtain rfl | rfl := hc
      · rfl
      · rw [exec_answerComplete hgrant hwork, if_pos hle]
    rw [State.grant_engine hgrant, State.engineAccess_answer hwork, haccess,
      State.completeAnswer_eq (s := { s with exchange := { s.exchange with mem := mem } }) hwork,
      State.drained_of_work (Engine.answered_work_ne_nil (Engine.slotChanged_work_ne_nil _ n .done) n)] at hexec
    exact ⟨_, hexec, _, rfl, fun o ho hn => Engine.answered_ended ho hn, fun h => Engine.answered_kept h, rfl⟩
  · have hexec : exec c s = .next (s.stateAccess n).drained := by
      rw [← State.engineAccess_state hwork, ← State.grant_engine hgrant]
      obtain rfl | rfl := hc
      · rfl
      · exact exec_stateByteWritten hgrant hwork
    obtain ⟨mem, hmem⟩ : ∃ m, m = Memory.write s.exchange.mem (65 + 64 * n.val) (byteOf s.engine.slots[n].number) := ⟨_, rfl⟩
    have hstate : s.stateAccess n = { s with
        exchange := { s.exchange with mem := mem }, engine := { s.engine with work := rest, granted := 0 } } := by
      rw [hmem, State.stateAccess, slotBase, show 64 + 64 * n.val + 1 = 65 + 64 * n.val by omega]
      simp only [State.store, State.onExchange, State.onEngine, Engine.popWork, hwork]
      rfl
    have hread : ∀ a, Memory.read mem a = if a = 65 + 64 * n.val then (match s.engine.slots[n] with
        | .free => 0
        | .posted => 1
        | .taken => 2
        | .done => 3) else Memory.read s.exchange.mem a := by
      intro a
      rw [hmem]
      split_ifs with ha
      · rw [ha, Memory.read_write_same _ _ _ hwf]
        exact SlotState.byteOf_number _
      · exact Memory.read_write_other _ _ _ _ ha
    rw [hstate] at hexec
    by_cases hrest : rest = []
    · subst hrest
      rw [State.drained_emptied rfl, ← State.itemWritten_nil] at hexec
      by_cases hm : s.engine.mode = .stopped ∧ s.engine.hold = false
      · rw [if_pos hm] at hexec
        exact ⟨_, hexec, s.itemWritten mem [], _, hread, rfl, rfl, fun _ _ _ => ⟨Engine.take_made _, rfl⟩,
          fun h => absurd ⟨rfl, hm⟩ h⟩
      · rw [if_neg hm] at hexec
        exact ⟨_, hexec, s.itemWritten mem [], _, hread, rfl, rfl, fun _ hs hh => absurd ⟨hs, hh⟩ hm, fun _ => rfl⟩
    · rw [State.drained_of_work hrest, ← State.itemWritten_of_ne hrest] at hexec
      exact ⟨_, hexec, s.itemWritten mem rest, _, hread, rfl, rfl, fun h => absurd h hrest, fun _ => rfl⟩

end Sys2Proof.Machine
end

section
/-! PROOFS. The Report Unit (11_journal_and_status_mirror.md): the queue and the journal writer, HOLD and warm start, the publisher. -/

namespace Sys2Proof.Machine

/-! ### The journal writer -/

/-- A writer that takes an entry from the queue. -/
theorem Report.handle_eq (x : Report) (t : Nat) (e : Entry) : x.handle t e = { x with
    loss := none
    writer := some
      { entries := (match x.loss with
          | some k => [Entry.mk t (.overflow k)]
          | none => []) ++ [e]
        stage := .reading, savedOverflow := x.overflow, savedLoss := x.loss } } := by
  obtain ⟨_, loss, _⟩ := x
  cases loss <;> rfl

theorem Report.takeNext_takes (x : Report) (t : Nat) : WriterTakes t x (x.takeNext t) where
  taken e q hh hw hq := by
    have htake : x.takeNext t = Report.handle { x with queue := q } t e := by
      simp only [Report.takeNext, hh, hw, hq, Bool.false_eq_true, if_false]
    exact htake.trans (Report.handle_eq _ t e)
  none h := by
    rw [Report.takeNext]
    cases hh : x.hold
    · rw [if_neg Bool.false_ne_true]
      cases hw : x.writer
      · cases hq : x.queue
        · rfl
        · simp [hh, hw, hq] at h
      · rfl
    · exact if_pos rfl

theorem Report.entryDone_goesOn {x : Report} {wr : Writer} (h : x.writer = some wr) (t : Nat) :
    WriterGoesOn t x wr (x.entryDone t) where
  next d e rest hent := by
    rw [Report.entryDone, h]
    simp only [hent, List.tail_cons]
    rfl
  last hle := by
    have htail : wr.entries.tail = [] := List.eq_nil_of_length_eq_zero (by rw [List.length_tail]; omega)
    rw [Report.entryDone, h]
    simp only [htail]
    exact Report.takeNext_takes _ t

theorem Report.accepts_iff (x : Report) (r : Nat) :
    x.accepts r = true ↔ r < 48 ∧ (r + 48 - x.p) % 48 ≤ (x.w + 48 - x.p) % 48 := by
  rw [Report.accepts, Bool.and_eq_true, decide_eq_true_eq, decide_eq_true_eq]
  rfl

theorem State.grant_journal {s : State} (h : s.nextGrant = some .journal) : s.grant = s.journalAccess := by
  rw [State.grant, h]

theorem State.journalAccess_reading {s : State} {wr : Writer} {e : Entry} {rest : List Entry} (hw : s.report.writer = some wr)
    (he : wr.entries = e :: rest) (hs : wr.stage = .reading) : s.journalAccess = s.handleEntry wr e := by
  simp only [State.journalAccess, hw, he, hs]

theorem State.journalAccess_writing {s : State} {wr : Writer} {e : Entry} {rest : List Entry} {bytes : List Byte} {n : Nat}
    (hw : s.report.writer = some wr) (he : wr.entries = e :: rest) (hs : wr.stage = .writing bytes n) :
    s.journalAccess = s.writeEntryAccess wr bytes n := by
  simp only [State.journalAccess, hw, he, hs]

theorem exec_entryHandling {s : State} {wr : Writer} (hg : s.nextGrant = some .journal) (hw : s.report.writer = some wr)
    (hs : wr.stage = .reading) : exec .entryHandling s = .next s.grant := by
  show execEntryHandling s = _
  rw [execEntryHandling, hg, hw, Option.map_some, hs]

theorem exec_entryWritten {s : State} {wr : Writer} {bytes : List Byte} {n : Nat} (hg : s.nextGrant = some .journal)
    (hw : s.report.writer = some wr) (hs : wr.stage = .writing bytes n) :
    exec .entryWritten s = if 4 ≤ n then .next s.grant else .next s := by
  show execEntryWritten s = _
  rw [execEntryWritten, hg, hw, Option.map_some, hs]

/-- Settles O58: the layout, an arrival, the judgement of the entry in hand, and its five accesses. -/
theorem entriesQueuedHandledAndWritten : Obligations.EntriesQueuedHandledAndWritten := by
  refine ⟨fun seq e => ⟨entryBytes_laidOut seq e, ?_⟩, fun s => ⟨fun e => ?_, fun hgrant wr e rest hwr hent =>
    ⟨fun hstage r p unread accepted c hr hacc hp hp' hun hc => ?_, fun bytes n hstage hlt => ⟨?_, ?_⟩,
      fun bytes n c hstage hle hc => ?_⟩⟩⟩
  · rw [eventFields_pieces]
    exact List.mem_cons_self
  · have hexec : exec (.entryArrival e) s = .next { s with
        report := (s.report.enqueue e).takeNext s.calendar.t, inFlight := s.inFlight.erase (.entryArrival e) } := rfl
    exact ⟨_, hexec, s.report.enqueue e, fun h => if_pos h, fun h => if_neg (Nat.not_lt.mpr h), Report.takeNext_takes _ _, rfl⟩
  · have hexec : exec c s = .next (s.handleEntry wr e) := by
      rw [← State.journalAccess_reading hwr hent hstage, ← State.grant_journal hgrant]
      obtain rfl | rfl := hc
      · rfl
      · exact exec_entryHandling hgrant hwr hstage
    have haccepts : s.report.accepts r = true ↔ accepted := (Report.accepts_iff _ r).trans hacc.symm
    have hsettle : s.report.settle r = { s.report with p := p } := by
      rw [Report.settle]
      by_cases ha : accepted
      · rw [if_pos (haccepts.mpr ha), hp ha]
      · rw [if_neg fun h => ha (haccepts.mp h), hp' ha]
    have hunread : Report.unread { s.report with p := p } = unread := hun.symm
    obtain ⟨x, hx⟩ : ∃ x, x = Report.judge { s.report with p := p } s.calendar.t wr e := ⟨_, rfl⟩
    have hhandle : s.handleEntry wr e = if s.report.accepts r then { s with report := x }
        else State.raise { s with report := x } .link := by
      rw [hx, ← hsettle, hr]
      rfl
    have hjudge : (unread < 46 → x = { s.report with
          p := p, overflow := false, writer := some { wr with stage := .writing (entryBytes s.report.seq e) 0 } }) ∧
        (46 ≤ unread → s.report.overflow = false → x = { s.report with
          p := p
          overflow := true
          writer := some { wr with
            stage := .writing (entryBytes s.report.seq ⟨s.calendar.t, .overflow e.event.kind⟩) 0 } }) ∧
        (46 ≤ unread → s.report.overflow = true → WriterGoesOn s.calendar.t { s.report with p := p } wr x) := by
      rw [hx, Report.judge, hunread]
      refine ⟨fun h => if_pos h, fun h ho => (if_neg (Nat.not_lt.mpr h)).trans (if_neg (by simp [ho])), fun h ho => ?_⟩
      rw [if_neg (show ¬unread < Config.overflowUnread from Nat.not_lt.mpr h), if_pos ho]
      exact Report.entryDone_goesOn (x := { s.report with p := p }) hwr _
    obtain ⟨hwrite, hover, hgo⟩ := hjudge
    by_cases ha : accepted
    · rw [hhandle, if_pos (haccepts.mpr ha)] at hexec
      exact ⟨_, hexec, hwrite, hover, hgo, fun _ => rfl, fun hn => absurd ha hn⟩
    · rw [hhandle, if_neg fun h => ha (haccepts.mp h)] at hexec
      exact ⟨_, hexec, hwrite, hover, hgo, fun h => absurd h ha, fun _ => rfl⟩
  · exact (exec_entryWritten hgrant hwr hstage).trans (if_neg (Nat.not_le.mpr hlt))
  · exact congrArg Host.Outcome.next ((State.grant_journal hgrant).trans
      ((State.journalAccess_writing hwr hent hstage).trans (if_pos hlt)))
  · have hexec : exec c s = .next s.finishEntry := by
      rw [show s.finishEntry = s.grant from ((State.grant_journal hgrant).trans
        ((State.journalAccess_writing hwr hent hstage).trans (if_neg (Nat.not_lt.mpr hle)))).symm]
      obtain rfl | rfl := hc
      · rfl
      · rw [exec_entryWritten hgrant hwr hstage, if_pos hle]
    exact ⟨_, hexec, Report.entryDone_goesOn (x := { s.report with w := (s.report.w + 1) % 48, seq := s.report.seq + 1 }) hwr _, rfl⟩

/-! ### HOLD and warm start -/

/-- A stop touches the overflow state, the loss mark and the writer alone. -/
theorem Report.stopWriter_rest (x : Report) : x.stopWriter =
    { x with overflow := x.stopWriter.overflow, loss := x.stopWriter.loss, writer := x.stopWriter.writer } := by
  rw [Report.stopWriter]
  split
  · rfl
  · dsimp only
    split <;> rfl

theorem Report.stopWriter_none {x : Report} (h : x.writer = none) : x.stopWriter = x := by
  rw [Report.stopWriter, h]

theorem Report.stopWriter_some {x : Report} {wr : Writer} (h : x.writer = some wr) (hs : ∀ b, wr.stage ≠ .stopped b) :
    x.stopWriter = { x with
      overflow := wr.savedOverflow
      loss := wr.savedLoss
      writer := some { wr with
        entries := if 2 ≤ wr.entries.length then wr.entries.tail else wr.entries
        stage := .stopped (decide (2 ≤ wr.entries.length)) } } := by
  obtain ⟨entries, stage, savedOverflow, savedLoss⟩ := wr
  rw [Report.stopWriter, h]
  cases stage with
  | stopped b => exact absurd rfl (hs b)
  | reading =>
    match entries with
    | [] => rfl
    | [e] => rfl
    | d :: e :: rest => simp
  | writing bytes n =>
    match entries with
    | [] => rfl
    | [e] => rfl
    | d :: e :: rest => simp

theorem exec_reportHoldEntry (s : State) : exec .reportHoldEntry s = .next { s with
    report := { s.report.stopWriter with hold := true, publication := none }
    inFlight := (discardBefore .reportHoldEntry Instr.blockReport s.inFlight).erase .reportHoldEntry } := rfl

/-- Settles O59: the HOLD entry by the writer, and the warm start by what the writer had in hand. -/
theorem reportStopsAndStarts : Obligations.ReportStopsAndStarts := by
  intro s
  refine ⟨⟨_, exec_reportHoldEntry s, ?_, fun before after hf hn => ?_, fun hw => ?_, fun wr hw hs => ?_⟩,
    fun x base hx hbase => ?_⟩
  · rw [Report.stopWriter_rest]
  · have hkept : (fun c => !Instr.blockReport c) = fun c => match c with
        | .blockCompletionReport => false
        | _ => true := by
      funext c
      cases c <;> rfl
    show (discardBefore .reportHoldEntry Instr.blockReport s.inFlight).erase .reportHoldEntry = _
    rw [hf, erase_discardBefore hn]
    exact congrArg (fun p => List.filter p before ++ after) hkept
  · rw [Report.stopWriter_none hw]
    exact ⟨hw, rfl, rfl⟩
  · rw [Report.stopWriter_some hw hs]
    exact ⟨rfl, rfl, rfl⟩
  · have hexec : exec .reportWarmStart s = .next { base with report := x.resume s.calendar.t } := by
      rw [hx, hbase]
      rfl
    have hwriter : x.writer = s.report.writer := by rw [hx]
    refine ⟨fun hw => ⟨_, hexec, ?_, rfl⟩, fun wr e rest hw he => ⟨fun hs => ?_, fun hs => ?_⟩⟩
    · rw [Report.resume, hwriter, hw]
      exact Report.takeNext_takes x _
    · have hresume : x.resume s.calendar.t = x.beginEntry e rest := by
        simp only [Report.resume, hwriter, hw, hs, he]
      rw [hexec, hresume]
      rfl
    · have hresume : x.resume s.calendar.t = Report.handle { x with writer := none } s.calendar.t e := by
        simp only [Report.resume, hwriter, hw, hs, he]
      rw [hexec, hresume]
      exact congrArg (fun y : Report => Host.Outcome.next { base with report := y }) (Report.handle_eq _ _ e)

/-! ### The publisher -/

theorem Code.formLockout_eq (x : Code) (t : Nat) :
    x.formLockout t = { x with lockoutEnd := x.lockoutEnd.filter fun e => decide (t < e) } := by
  obtain ⟨_, _, _, lockoutEnd, _⟩ := x
  cases lockoutEnd with
  | none => rfl
  | some e =>
    by_cases h : e ≤ t
    · exact (if_pos h).trans (by rw [Option.filter_some, if_neg (by simpa using h)])
    · exact (if_neg h).trans (by rw [Option.filter_some, if_pos (by simpa using h)])

theorem lockoutRemaining_some (t e : Nat) : lockoutRemaining (some e) t = if t < e then min (e - t) 600 else 0 := by
  rw [lockoutRemaining, Config.lockoutSeconds]
  split_ifs <;> omega

theorem lockoutRemaining_formed (x : Code) (t : Nat) :
    lockoutRemaining (x.formLockout t).lockoutEnd t = lockoutRemaining x.lockoutEnd t := by
  rw [Code.formLockout_eq]
  cases x.lockoutEnd with
  | none => rfl
  | some e =>
    by_cases h : t < e
    · rw [Option.filter_some, if_pos (by simpa using h)]
    · rw [Option.filter_some, if_neg (by simpa using h), lockoutRemaining_some, if_neg h]
      rfl

theorem State.tryPublish_tried (s : State) : PublicationTried s s.tryPublish where
  pending h := by
    rw [State.tryPublish, State.mirrorTakeable, if_neg (by simp [h])]
    rfl
  begun h := by
    rw [State.tryPublish, State.mirrorTakeable, if_pos (by simp [h]), ← lockoutRemaining_formed s.code s.calendar.t,
      ← Code.formLockout_eq]
    rfl

theorem State.publicationDue_busy {s : State} (h : s.report.publishing = true ∨ s.report.pendingPub = true) :
    s.publicationDue = s.onReport fun x => { x with pendingPub := true } :=
  if_pos (by simpa using h)

theorem State.publicationDue_idle {s : State} (hp : s.report.publishing = false) (hq : s.report.pendingPub = false) :
    s.publicationDue = s.tryPublish :=
  if_neg (by simp [hp, hq])

theorem State.countBlock_due {s : State} (h : 8 ≤ s.report.blockCount + 1) :
    s.countBlock = (s.onReport fun x => { x with blockCount := 0 }).publicationDue :=
  if_neg (show ¬_ < Config.publicationBlocks from Nat.not_lt.mpr h)

theorem State.grant_publisher {s : State} (h : s.nextGrant = some .publisher) : s.grant = s.publisherAccess := by
  rw [State.grant, h]

theorem exec_publicationEnd {s : State} {p : Publication} (hg : s.nextGrant = some .publisher) (hp : s.report.publication = some p) :
    exec .publicationEnd s = if 31 ≤ p.granted then .next s.grant else .next s := by
  show execPublicationEnd s = _
  rw [execPublicationEnd, hg, hp]

theorem exec_journalRows_of_ne {s : State} (h : s.nextGrant ≠ some .journal) :
    exec .entryHandling s = .next s ∧ exec .entryWritten s = .next s := by
  show execEntryHandling s = _ ∧ execEntryWritten s = _
  rw [execEntryHandling, execEntryWritten]
  constructor
  all_goals
    split
    next hg _ => exact absurd hg h
    next => rfl

theorem exec_publicationEnd_of_ne {s : State} (h : s.nextGrant ≠ some .publisher) : exec .publicationEnd s = .next s := by
  show execPublicationEnd s = _
  rw [execPublicationEnd]
  split
  case h_1 hg _ => exact absurd hg h
  case h_2 => rfl

theorem exec_engineRows_of_ne {s : State} (h : s.nextGrant ≠ some .engine) : exec .slotCopyDone s = .next s ∧
    exec .stagingCopyDone s = .next s ∧ exec .answerComplete s = .next s ∧ exec .stateByteWritten s = .next s := by
  show execSlotCopyDone s = _ ∧ execStagingCopyDone s = _ ∧ execAnswerComplete s = _ ∧ execStateByteWritten s = _
  rw [execSlotCopyDone, execStagingCopyDone, execAnswerComplete, execStateByteWritten]
  refine ⟨?_, ?_, ?_, ?_⟩
  all_goals
    split
    next hg _ => exact absurd hg h
    next => rfl

/-- Settles O60: the layout, the eighth completion, the news that MIRROR is free, the last word, and the rows out of their case. -/
theorem publicationsDueMadeAndEnded : Obligations.PublicationsDueMadeAndEnded := by
  refine ⟨mirrorBytes_laidOut, fun t e => ⟨rfl, lockoutRemaining_some t e⟩, fun s =>
    ⟨fun base hbase => ?_, fun base hbase => ?_, fun p hgrant hpub mem hmem => ⟨fun hlt => ⟨?_, ?_⟩, fun c ended hle hc hended => ?_⟩,
      exec_journalRows_of_ne, exec_publicationEnd_of_ne, exec_engineRows_of_ne⟩⟩
  · have hreport : s.report = base.report := by rw [hbase]
    have hreported : exec .blockCompletionReport s = .next (if s.report.hold then base else base.countBlock) := by
      rw [hbase]
      rfl
    have hdue : exec .publicationDue s = if s.report.hold = false ∧ 8 ≤ s.report.blockCount + 1 then .next base.countBlock
        else .next s := by
      rw [hbase]
      rfl
    refine ⟨fun hh => ⟨?_, ?_⟩, fun hh hlt => ⟨?_, ?_⟩, fun c hh hle hc => ?_⟩
    · rw [hreported, if_pos hh]
    · rw [hdue, if_neg (by simp [hh])]
    · rw [hdue, if_neg fun h => Nat.not_le.mpr hlt h.2]
    · rw [hreported, if_neg (by simp [hh]), hreport]
      exact congrArg Host.Outcome.next (if_pos (show base.report.blockCount + 1 < 8 from hreport ▸ hlt))
    · have hexec : exec c s = .next (State.publicationDue { base with report := { s.report with blockCount := 0 } }) := by
        rw [hreport]
        rw [hreport] at hle
        refine Eq.trans ?_ (congrArg Host.Outcome.next (State.countBlock_due hle))
        obtain rfl | rfl := hc
        · rw [hreported, if_neg (by simp [hh])]
        · rw [hdue, if_pos ⟨hh, hreport.symm ▸ hle⟩]
      refine ⟨fun h => ?_, fun hp hq => ⟨_, hexec, ?_⟩⟩
      · rw [hexec, State.publicationDue_busy (s := { base with report := { s.report with blockCount := 0 } }) h]
        rfl
      · rw [State.publicationDue_idle (s := { base with report := { s.report with blockCount := 0 } }) hp hq]
        exact State.tryPublish_tried _
  · have hreport : s.report = base.report := by rw [hbase]
    have hexec : exec .mirrorFreedNews s = .next base.mirrorFreed := by
      rw [hbase]
      rfl
    refine ⟨fun hp hq => ?_, fun h => ⟨_, hexec, ?_⟩⟩
    · rw [hreport] at hp hq
      rw [hexec, State.mirrorFreed, if_neg (by simp [hp, hq])]
    · rw [hreport] at h
      rw [hreport, State.mirrorFreed, if_pos (by simpa [or_comm] using h)]
      exact State.tryPublish_tried _
  · exact (exec_publicationEnd hgrant hpub).trans (if_neg (by omega))
  · have haccess : s.publisherAccess = { s with
        exchange := { s.exchange with mem := mem }
        report := { s.report with publication := some { p with granted := p.granted + 1 } } } := by
      rw [State.publisherAccess, hpub, hmem]
      exact if_pos hlt
    exact congrArg Host.Outcome.next ((State.grant_publisher hgrant).trans haccess)
  · have haccess : s.publisherAccess = if s.report.pendingPub then ended.tryPublish else ended := by
      rw [State.publisherAccess, hpub, hended, hmem]
      exact if_neg (Nat.not_lt.mpr hle)
    have hexec : exec c s = .next (if s.report.pendingPub then ended.tryPublish else ended) := by
      rw [← haccess, ← State.grant_publisher hgrant]
      obtain rfl | rfl := hc
      · rfl
      · rw [exec_publicationEnd hgrant hpub, if_pos hle]
    refine ⟨fun h => ?_, fun h => ⟨_, hexec, ?_⟩⟩
    · rw [hexec, if_neg (by simp [h])]
    · rw [if_pos h]
      exact State.tryPublish_tried _

end Sys2Proof.Machine
end

section
/-! PROOFS. The bytes of a whole frame (Sys2Proof/Decode.lean), and the millisecond of the part's timers (Machine/Ticks.lean). -/

namespace Sys2Proof.Machine

/-! ### Frames as bytes -/

theorem addressBytes_append (a : BitVec 16) : a.extractLsb' 8 8 ++ a.extractLsb' 0 8 = a := by
  apply BitVec.eq_of_getLsbD_eq
  intro i hi
  rw [BitVec.getLsbD_append]
  by_cases h : i < 8
  · simp [h]
  · simp only [h, decide_false, if_false, BitVec.getLsbD_extractLsb', show i - 8 < 8 by omega, decide_true, Bool.true_and,
      show 8 + (i - 8) = i by omega]

/-- The bytes of a whole READ frame after its command byte read as its segment. -/
theorem readRest_of_encodeRead {command : Byte} {g : ReadSegment} {bytes : List Byte} (hwf : g.wellFormed = true)
    (h : encodeRead command g = some bytes) : ∃ rest, bytes = command :: rest ∧ readRest rest = g := by
  obtain ⟨start, count, last⟩ := g
  cases last with
  | false => exact absurd h (by simp [encodeRead])
  | true =>
    obtain a | k | _ := start
    · refine ⟨_, (Option.some.inj h).symm, ?_⟩
      show ReadSegment.mk (.at (a.extractLsb' 8 8 ++ a.extractLsb' 0 8)) (List.replicate count (0 : Byte)).length true = _
      rw [addressBytes_append, List.length_replicate]
    · obtain rfl : count = 0 := by simpa [ReadSegment.wellFormed] using hwf
      refine ⟨_, (Option.some.inj h).symm, ?_⟩
      fin_cases k <;> rfl
    · exact absurd h (by simp [encodeRead])

/-- The bytes of a whole WRITE frame after its command byte read as its segment. -/
theorem writeRest_of_encodeWrite {command : Byte} {g : WriteSegment} {bytes : List Byte} (hwf : g.wellFormed = true)
    (h : encodeWrite command g = some bytes) : ∃ rest, bytes = command :: rest ∧ writeRest rest = g := by
  obtain ⟨start, data, last⟩ := g
  cases last with
  | false => exact absurd h (by simp [encodeWrite])
  | true =>
    obtain a | k | _ := start
    · refine ⟨_, (Option.some.inj h).symm, ?_⟩
      show WriteSegment.mk (.at (a.extractLsb' 8 8 ++ a.extractLsb' 0 8)) data true = _
      rw [addressBytes_append]
    · obtain ⟨hk, rfl⟩ : k.val < 2 ∧ data = [] := by simpa [WriteSegment.wellFormed] using hwf
      refine ⟨_, (Option.some.inj h).symm, ?_⟩
      fin_cases k
      · rfl
      · rfl
      · exact absurd hk (by decide)
    · exact absurd h (by simp [encodeWrite])

theorem decodeFrame_invalid {command : Byte} (h : frameCommand command = false) (rest : List Byte) :
    decodeFrame (command :: rest) = some (.invalidCommand command rest.length) := by
  simp only [frameCommand, Bool.or_eq_false_iff, decide_eq_false_iff_not] at h
  rw [decodeFrame, if_neg h.1, if_neg h.2]

/-- Settles O8: by the command byte, and then by the segment. -/
theorem frameBytesDecodeToTheirCommand : Obligations.FrameBytesDecodeToTheirCommand := by
  intro c bytes hwf henc
  cases c
  case readAscend | readDescend | readHold | readLineAscend =>
    obtain ⟨rest, rfl, rfl⟩ := readRest_of_encodeRead hwf henc
    rfl
  case writeAscend | writeDescend | writeHold | writeLineAscend =>
    obtain ⟨rest, rfl, rfl⟩ := writeRest_of_encodeWrite hwf henc
    rfl
  case invalidCommand command count =>
    obtain rfl := Option.some.inj henc
    rw [decodeFrame_invalid (by simpa [Instr.wellFormed] using hwf), List.length_replicate]
  all_goals exact absurd henc (by simp [encodeFrame])

/-! ### The timers -/

theorem LineStage.tick_eq (g : LineStage) :
    g.tick = if g.stage = .pending then ⟨.pending, min 50 (g.timer + 1)⟩ else g := by
  obtain ⟨stage, timer⟩ := g
  cases stage <;> rfl

theorem Injection.tick_eq (j : Injection) : j.tick = { j with
    timer := min j.deadline (j.timer + 1)
    forcedTimer := if j.stage = .pending ∧ j.target ≠ .magnet then min 50 (j.forcedTimer + 1) else j.forcedTimer } := by
  rw [Injection.tick, Injection.forcedRunning, ← Bool.decide_and]
  simp only [decide_eq_true_eq]
  rfl

theorem Tamper.tick_hold {x : Tamper} (h : x.hold = true) : x.tick = { x with caseLine := x.caseLine.tick } := if_pos h

theorem Tamper.tick_run {x : Tamper} (h : x.hold = false) : x.tick = { x with
    caseLine := x.caseLine.tick, terminalLine := x.terminalLine.tick, injection := x.injection.map Injection.tick } :=
  if_neg (by simp [h])

theorem step_idle {s : State} (h : s.pending = []) : step s = .next s.tickMs := by
  rw [step, h]

/-- Settles O2: the operation by its phase, and the Tamper Unit's timers in RUN and in HOLD. -/
theorem idleStepRunsTheTimers : Obligations.IdleStepRunsTheTimers := by
  intro s hs
  refine ⟨s.tickMs, step_idle hs, by simp [OnlyChanges, State.tickMs, State.onSwitch, State.onTamper], rfl, fun h => ?_,
    fun o e n ho hp => ?_, fun o e ho hp => ?_, fun o ho hp => ?_, ?_, fun h => ?_, fun h => ?_, ?_⟩
  · show s.switch.tick = s.switch
    rw [Switch.tick, h, Option.map_none, ← h]
  · show s.switch.tick = _
    rw [Switch.tick, ho, Option.map_some, hp]
    rfl
  · show s.switch.tick = _
    rw [Switch.tick, ho, Option.map_some, hp]
    rfl
  · show s.switch.tick = s.switch
    rw [Switch.tick, ho, Option.map_some, hp, OpPhase.tick, ← hp, ← ho]
  · rw [← LineStage.tick_eq]
    show s.tamper.tick.caseLine = _
    rw [Tamper.tick]
    split <;> rfl
  · show s.tamper.tick.terminalLine = _ ∧ s.tamper.tick.injection = _
    rw [Tamper.tick_hold h]
    exact ⟨rfl, rfl⟩
  · show s.tamper.tick.terminalLine = _ ∧ (_ → s.tamper.tick.injection = _) ∧ ∀ j, _ → s.tamper.tick.injection = _
    rw [Tamper.tick_run h, ← LineStage.tick_eq]
    refine ⟨rfl, fun hj => ?_, fun j hj => ?_⟩
    · rw [hj]
      rfl
    · rw [hj, ← Injection.tick_eq]
      rfl
  · show s.tamper.tick = { s.tamper with
      caseLine := s.tamper.tick.caseLine, terminalLine := s.tamper.tick.terminalLine, injection := s.tamper.tick.injection }
    rw [Tamper.tick]
    split <;> rfl

end Sys2Proof.Machine
end

section
/-! PROOFS. What reset leaves, and that it meets the invariants (the chapters' Starts and resets). -/

namespace Sys2Proof.Machine

theorem Settings.cold_checkWord : Settings.cold.checkWord = crc16 (checkStream Settings.cold) := by
  have hsplit : ∀ bytes : List Byte, crc16 bytes = (bytes.drop 40).foldl crcByte
      (((bytes.drop 20).take 20).foldl crcByte ((bytes.take 20).foldl crcByte 0xFFFF#16)) := fun bytes => by
    rw [← List.foldl_append, ← List.foldl_append, ← List.append_assoc, ← List.take_add, List.take_append_drop]
    rfl
  have hfirst : ((checkStream Settings.cold).take 20).foldl crcByte 0xFFFF#16 = 0xF6B8#16 := by decide +kernel
  have hsecond : (((checkStream Settings.cold).drop 20).take 20).foldl crcByte 0xF6B8#16 = 0x90DD#16 := by decide +kernel
  have hthird : ((checkStream Settings.cold).drop 40).foldl crcByte 0x90DD#16 = 0xE48A#16 := by decide +kernel
  rw [hsplit, hfirst, hsecond, hthird]
  rfl

/-- The defaults stand in their ranges. -/
theorem SettingId.defaults_inRange (i : SettingId) :
    i.row.low ≤ SettingId.defaults[i.index] ∧ SettingId.defaults[i.index] ≤ i.row.high := by
  cases i <;> decide

theorem SettingId.defaults_of_table {k : Nat} {i : SettingId} {low high value : Nat}
    (h : settingsTable[k]? = some (i, low, high, value)) : SettingId.defaults[i.index] = value := by
  have hall : ∀ k < 27, ∀ r, settingsTable[k]? = some r → SettingId.defaults[r.1.index] = r.2.2.2 := by
    intro k hk
    interval_cases k <;> (intro r hr; obtain rfl := Option.some.inj hr; rfl)
  have hk : k < 27 := by
    obtain ⟨hlt, _⟩ := List.getElem?_eq_some_iff.mp h
    exact hlt
  exact hall k hk _ h

theorem Tamper.cold_record (i : Source) : Tamper.cold.record i = SourceRecord.cold := by
  cases i <;> rfl

theorem Code.cold_ordered : HistoryOrdered Code.cold where
  length := Nat.zero_le _
  ascending := List.Pairwise.nil
  above _ h := absurd h List.not_mem_nil
  waiting _ h := absurd h (by simp [Code.cold])

theorem Exchange.cold_served : FrameServed Exchange.cold where
  served h := absurd rfl h
  noRequest := rfl
  held h := absurd h (by decide)
  gathered f w cells h := absurd h (by simp [Exchange.cold])

theorem State.reset_ranges : Ranges State.reset where
  time := by decide
  allowance := by decide
  lineRemainder := by decide
  neutralRemainder := by decide
  chargeRemainder := by decide
  balance := by decide
  debtFloor := .inr (by decide)
  failures := by decide
  stuckWait := by decide
  limitRun := by decide
  closedTime := by decide
  trips := by decide
  backoff := by decide
  lastDuty := by decide
  qualifiers := by decide
  occurrences i := by
    rw [show State.reset.tamper.record i = SourceRecord.cold from Tamper.cold_record i]
    exact ⟨by decide, fun m h => absurd h (by simp [SourceRecord.cold])⟩
  overVoltageCount := by decide
  sagCount := by decide
  backupCount := by decide
  holdTimer := by decide
  sweepCount := by decide
  settings := SettingId.defaults_inRange
  queue := by decide
  writeIndex := by decide
  readIndex := by decide
  blockCount := by decide

/-- Settles O40: the cold values of each unit, and the invariants one by one. -/
theorem resetValuesAndInvariants : Obligations.ResetValuesAndInvariants := by
  refine ⟨rfl, rfl, rfl, rfl, rfl, Tamper.cold_record, rfl, rfl, fun k i low high value h => SettingId.defaults_of_table h, ?_,
    fun a => rfl, rfl, by decide, rfl, rfl, rfl, rfl, ⟨by decide, by decide⟩, State.reset_ranges, Code.cold_ordered,
    Exchange.cold_served, rfl, rfl⟩
  show Settings.cold = { Settings.cold with checkWord := crc16 (checkStream Settings.cold) }
  rw [← Settings.cold_checkWord]

end Sys2Proof.Machine
end

section
/-! PROOFS. What the Switch Unit's operations keep (05_supply_switch.md): the operation record with the relay (R95), and the ranges of its
counts. -/

namespace Sys2Proof.Machine

/-- The operation record is absent, and the relay at rest, or present, and the relay moves in its direction. -/
def Switch.Matched (x : Switch) : Prop :=
  match x.operation with
  | none => x.relay ≠ .opening ∧ x.relay ≠ .closing
  | some o => x.relay = match o.direction with
    | .opening => .opening
    | .closing => .closing

theorem operationMatchesRelay_iff (s : State) : OperationMatchesRelay s ↔ s.switch.Matched := by
  unfold OperationMatchesRelay Switch.Matched
  cases s.switch.operation <;> exact Iff.rfl

theorem Switch.matched_none {x : Switch} (h : x.operation = none) (hr : x.relay ≠ .opening ∧ x.relay ≠ .closing) : x.Matched := by
  rw [Switch.Matched, h]
  exact hr

theorem Switch.matched_moving {x : Switch} {o : Operation} (h : x.operation = some o) (hr : x.relay = movingState o.direction) :
    x.Matched := by
  simp only [Switch.Matched, h, hr]
  cases o.direction <;> rfl

/-- An operation that goes on in its direction still matches the relay. -/
theorem Switch.Matched.goesOn {x y : Switch} {o p : Operation} (hx : x.Matched) (ho : x.operation = some o) (hp : y.operation = some p)
    (hd : p.direction = o.direction) (hr : y.relay = x.relay) : y.Matched := by
  simp only [Switch.Matched, ho] at hx
  simp only [Switch.Matched, hp, hr, hd]
  exact hx

theorem Switch.Matched.same {x y : Switch} (hx : x.Matched) (ho : y.operation = x.operation) (hr : y.relay = x.relay) : y.Matched := by
  rw [Switch.Matched, ho, hr]
  exact hx

/-- The ranges of the Switch Unit's counts (R97, R102 to R106). -/
structure Switch.InRange (x : Switch) : Prop where
  stuckWait : x.stuckWait ≤ 299
  limitRun : x.limitRun ≤ 240
  closedTime : x.closedTime ≤ 600
  trips : x.trips ≤ 3
  backoff : x.backoff ≤ 600
  lastDuty : x.lastDuty ≤ 256

/-- What the operations of the Switch Unit keep, at a back-off setting in its range. -/
structure SwitchKept (s t : State) : Prop where
  settings : t.settings = s.settings
  matched : s.switch.Matched → t.switch.Matched
  inRange : s.setting .limitBackoff ≤ 600 → s.switch.InRange → t.switch.InRange

namespace SwitchKept

variable {s t u : State}

theorem refl (s : State) : SwitchKept s s := ⟨rfl, id, fun _ => id⟩

theorem trans (h : SwitchKept s t) (h' : SwitchKept t u) : SwitchKept s u where
  settings := h'.settings.trans h.settings
  matched hs := h'.matched (h.matched hs)
  inRange hb hs := h'.inRange (by rw [State.setting, h.settings]; exact hb) (h.inRange hb hs)

/-- What leaves the Switch Unit and the settings as they stand is kept with what comes before it. -/
theorem andThen (h : SwitchKept s t) (hw : u.switch = t.switch) (hs : u.settings = t.settings) : SwitchKept s u :=
  h.trans ⟨hs, fun hm => hw ▸ hm, fun _ hr => hw ▸ hr⟩

/-- An update that leaves the operation and the relay. -/
theorem counts (f : Switch → Switch) (ho : (f s.switch).operation = s.switch.operation) (hr : (f s.switch).relay = s.switch.relay)
    (hin : s.setting .limitBackoff ≤ 600 → s.switch.InRange → (f s.switch).InRange) : SwitchKept s (s.onSwitch f) :=
  ⟨rfl, fun h => h.same ho hr, hin⟩

theorem startOp (s : State) (d : OpDirection) (origin : OpOrigin) : SwitchKept s (s.startOp d origin) where
  settings := rfl
  matched _ := Switch.matched_moving (o := ⟨d, .coilWait, 1, none, false, origin⟩) rfl rfl
  inRange _ h := { h with
    limitRun := by
      show (if s.switch.relay = .closed then 0 else s.switch.limitRun) ≤ 240
      split
      · exact Nat.zero_le _
      · exact h.limitRun }

theorem arrive (s : State) {st : RelayState} (hst : st ≠ .opening ∧ st ≠ .closing) : SwitchKept s (s.arrive st) where
  settings := rfl
  matched _ := Switch.matched_none rfl hst
  inRange _ h := { h with
    closedTime := by
      show (if st = .closed then 0 else s.switch.closedTime) ≤ 600
      split
      · exact Nat.zero_le _
      · exact h.closedTime
    stuckWait := by
      show (if st = .stuck then 0 else s.switch.stuckWait) ≤ 299
      split
      · exact Nat.zero_le _
      · exact h.stuckWait }

theorem arriveClosed (s : State) : SwitchKept s (s.arrive .closed) := arrive s (by decide)

theorem arriveOpen (s : State) : SwitchKept s (s.arrive .open) := arrive s (by decide)

theorem arriveReady (s : State) : SwitchKept s (s.arrive .ready) := arrive s (by decide)

theorem arriveStuck (s : State) : SwitchKept s (s.arrive .stuck) := arrive s (by decide)

theorem stuckCheck (s : State) : SwitchKept s s.stuckCheck := by
  unfold State.stuckCheck
  split_ifs
  · exact arriveClosed s
  · exact refl s
  · exact refl s
  · exact arriveOpen s
  · exact refl s

/-! ### The reason set -/

theorem reverseClosing (s : State) : SwitchKept s s.reverseClosing := by
  unfold State.reverseClosing
  split
  case h_1 => exact refl s
  case h_2 o ho =>
    split
    case h_1 => exact ⟨rfl, fun h => h.goesOn ho rfl rfl rfl, fun _ h => { h with }⟩
    case h_2 => exact startOp s _ _
    case h_3 => exact startOp s _ _

theorem becameNonEmpty (s : State) : SwitchKept s s.becameNonEmpty := by
  unfold State.becameNonEmpty
  split
  · exact startOp s _ _
  · exact arriveOpen s
  · exact reverseClosing s
  · exact stuckCheck s
  · exact refl s
  · exact refl s

theorem openChoice (s : State) : SwitchKept s s.openChoice := by
  unfold State.openChoice
  split
  · exact arriveReady s
  · exact startOp s _ _

theorem becameEmpty (s : State) : SwitchKept s s.becameEmpty := by
  unfold State.becameEmpty
  split
  · exact openChoice s
  · exact stuckCheck s
  · exact refl s
  · exact refl s
  · exact refl s
  · exact refl s

theorem addReason (s : State) (r : Reason) : SwitchKept s (s.addReason r) := by
  have hset : SwitchKept s (s.onSwitch fun x => { x with
      reasons := x.reasons.set r true, consent := x.consent || Reason.consents r }) :=
    counts (s := s) _ rfl rfl fun _ h => { h with }
  unfold State.addReason
  dsimp only
  split_ifs
  · exact refl s
  · exact hset
  · exact hset.trans (becameNonEmpty _)
  · exact hset.trans (stuckCheck _)

theorem removeReason (s : State) (r : Reason) : SwitchKept s (s.removeReason r) := by
  have hset : SwitchKept s (s.onSwitch fun x => { x with reasons := x.reasons.set r false }) :=
    counts (s := s) _ rfl rfl fun _ h => { h with }
  unfold State.removeReason
  dsimp only
  split_ifs
  · exact hset
  · exact hset.trans (becameEmpty _)
  · exact hset.trans (stuckCheck _)
  · exact refl s

/-! ### The phases of an operation -/

theorem driveDuty_le (nom cs : Nat) : driveDuty nom cs ≤ 256 := by
  unfold driveDuty
  split_ifs
  · exact Nat.zero_le _
  · exact le_rfl
  · exact Nat.min_le_left _ _

theorem takeReading {o : Operation} (ho : s.switch.operation = some o) (cs : Nat) : SwitchKept s (s.takeReading o cs) := by
  have hwait : SwitchKept s (s.onSwitch fun x => { x with coilWait := true }) := counts (s := s) _ rfl rfl fun _ h => { h with }
  unfold State.takeReading
  split_ifs
  · exact ⟨rfl, fun h => h.goesOn ho rfl rfl rfl, fun _ h => { h with lastDuty := driveDuty_le _ _ }⟩
  · exact refl s
  · exact hwait.andThen rfl rfl

theorem coilTaken (s : State) (cs : Nat) : SwitchKept s (s.coilTaken cs) := by
  unfold State.coilTaken
  split
  case h_1 => exact refl s
  case h_2 o ho =>
    split
    · exact takeReading ho cs
    · exact refl s
    · exact refl s

theorem endDrive (s : State) : SwitchKept s s.endDrive := by
  unfold State.endDrive
  split
  case h_1 => exact refl s
  case h_2 o ho =>
    split
    · exact refl s
    · exact refl s
    · split_ifs
      · exact startOp s _ _
      · exact ⟨rfl, fun h => h.goesOn ho rfl rfl rfl, fun _ h => { h with }⟩

theorem opMatched (s : State) (d : OpDirection) : SwitchKept s (s.opMatched d) := by
  unfold State.opMatched
  split
  · exact arriveClosed s
  · split_ifs
    · exact openChoice s
    · exact arriveOpen s

theorem opFailed (s : State) (o : Operation) : SwitchKept s (s.opFailed o) := by
  unfold State.opFailed
  split
  · have htold : SwitchKept s ((s.journal (.relayFault o.direction s.switch.sensedClosed)).raise .fault) := (refl s).andThen rfl rfl
    exact (htold.trans (arriveStuck _)).trans (stuckCheck _)
  · exact (arriveStuck s).trans (stuckCheck _)

theorem compareSettled {o : Operation} (ho : s.switch.operation = some o) : SwitchKept s (s.compareSettled o) := by
  have hsense : SwitchKept s (s.onSwitch fun x => { x with sensedClosed := s.pins.loadSense }) :=
    counts (s := s) _ rfl rfl fun _ h => { h with }
  unfold State.compareSettled
  dsimp only
  split_ifs
  · exact hsense.trans (opMatched _ _)
  · refine hsense.trans ⟨rfl, fun h => h.goesOn (o := o) ho rfl rfl rfl, fun _ h => { h with }⟩
  · exact hsense.trans (opFailed _ _)

theorem endSettle (s : State) : SwitchKept s s.endSettle := by
  unfold State.endSettle
  split
  case h_1 => exact refl s
  case h_2 o ho =>
    split
    · exact refl s
    · exact refl s
    · exact compareSettled ho

/-! ### Over-limit and seconds -/

theorem trip (s : State) (billed : Nat) : SwitchKept s (s.trip billed) := by
  have hcounted : SwitchKept s (s.onSwitch fun x => { x with
      limitRun := 0
      trips := min 3 (s.switch.trips + 1)
      mode := if min 3 (s.switch.trips + 1) < 3 then .backoff else .lockout
      backoff := if min 3 (s.switch.trips + 1) < 3 then s.setting .limitBackoff else x.backoff
      consent := x.consent || decide (3 ≤ min 3 (s.switch.trips + 1)) }) :=
    counts (s := s) _ rfl rfl fun hb h => { h with
      limitRun := Nat.zero_le _
      trips := Nat.min_le_left _ _
      backoff := by
        show (if min 3 (s.switch.trips + 1) < 3 then s.setting .limitBackoff else s.switch.backoff) ≤ 600
        split
        · exact hb
        · exact h.backoff }
  exact (hcounted.trans (addReason _ .overLimit)).andThen rfl rfl

theorem nextRun_le (run : Nat) (holds : Bool) : nextRun run holds ≤ 240 := by
  unfold nextRun
  split
  · exact Nat.min_le_left _ _
  · exact Nat.zero_le _

theorem testLimit (s : State) (billed : Nat) : SwitchKept s (s.testLimit billed) := by
  unfold State.testLimit
  split_ifs
  · exact trip s billed
  · exact counts (s := s) _ rfl rfl fun _ h => { h with limitRun := nextRun_le _ _ }
  · exact counts (s := s) _ rfl rfl fun _ h => { h with limitRun := Nat.zero_le _ }

theorem backoffSecond (s : State) : SwitchKept s s.backoffSecond := by
  unfold State.backoffSecond
  split_ifs
  · exact (counts (s := s) _ rfl rfl fun _ h => { h with backoff := Nat.zero_le _ }).trans (removeReason _ _)
  · exact counts (s := s) _ rfl rfl fun _ h => { h with backoff := (Nat.sub_le _ _).trans h.backoff }
  · exact refl s

theorem closedSecond (s : State) : SwitchKept s (s.onSwitch Switch.closedSecond) :=
  counts (s := s) _ rfl rfl fun _ h => { h with
    closedTime := Nat.min_le_left _ _
    trips := by
      show (if s.switch.closedTime + 1 = Config.closedSeconds then 0 else s.switch.trips) ≤ 3
      split
      · exact Nat.zero_le _
      · exact h.trips }

theorem stuckRetryTime (s : State) : SwitchKept s s.stuckRetryTime := by
  have hwait : SwitchKept s (s.onSwitch fun x => { x with stuckWait := 0 }) :=
    counts (s := s) _ rfl rfl fun _ h => { h with stuckWait := Nat.zero_le _ }
  unfold State.stuckRetryTime
  dsimp only
  split_ifs
  · exact hwait
  · exact hwait.trans (startOp _ _ _)
  · exact hwait.trans (startOp _ _ _)

theorem stuckSecond (s : State) : SwitchKept s s.stuckSecond := by
  unfold State.stuckSecond
  split_ifs with hlt
  · exact counts (s := s) _ rfl rfl fun _ h => { h with stuckWait := Nat.le_of_lt_succ hlt }
  · exact stuckRetryTime s

theorem switchTick (s : State) : SwitchKept s s.switchTick := by
  unfold State.switchTick
  dsimp only
  split_ifs
  · exact (backoffSecond s).trans (closedSecond _)
  · exact (backoffSecond s).trans (stuckSecond _)
  · exact backoffSecond s

/-! ### Orders -/

theorem consentClosing (s : State) : SwitchKept s s.consentClosing := by
  unfold State.consentClosing
  split
  · exact refl s
  · exact startOp s _ _

theorem takeConsent (s : State) (order : OrderId) : SwitchKept s (s.takeConsent order) := by
  unfold State.takeConsent
  dsimp only
  split_ifs
  · exact (consentClosing s).andThen rfl rfl
  · have hset : SwitchKept s (s.onSwitch fun x => { x with mode := .none, trips := 0, reasons := ReasonSet.empty }) :=
      counts (s := s) _ rfl rfl fun _ h => { h with trips := Nat.zero_le _ }
    exact (hset.trans (consentClosing _)).andThen rfl rfl
  · exact (refl s).andThen rfl rfl

theorem takeDisconnect (s : State) (order : OrderId) : SwitchKept s (s.takeDisconnect order) := by
  have hreply : ∀ t : State, SwitchKept t (t.disconnectReply order) := fun t => by
    unfold State.disconnectReply
    split
    all_goals exact (refl t).andThen rfl rfl
  unfold State.takeDisconnect
  dsimp only
  split_ifs
  · exact (addReason s _).trans (hreply _)
  · exact ((addReason s _).trans (stuckCheck _)).trans (hreply _)

theorem takePermit (s : State) (order : OrderId) : SwitchKept s (s.takePermit order) := (removeReason s _).andThen rfl rfl

theorem takeLimit (s : State) (watts : Nat) : SwitchKept s (s.takeLimit watts) := by
  have hset : SwitchKept s (s.onSwitch fun x => { x with pLim := watts, limitRun := 0, trips := 0, mode := .none, backoff := 0 }) :=
    counts (s := s) _ rfl rfl fun _ h => { h with
      limitRun := Nat.zero_le _, trips := Nat.zero_le _, backoff := Nat.zero_le _ }
  exact (hset.trans (removeReason _ .overLimit)).andThen (by simp [State.takeLimit]) (by simp [State.takeLimit])

/-! ### HOLD and the warm start -/

theorem enterHold (s : State) : SwitchKept s (s.onSwitch Switch.enterHold) where
  settings := rfl
  matched h := by
    refine Switch.matched_none rfl ?_
    show (if s.switch.relay = .opening ∨ s.switch.relay = .closing then RelayState.open else s.switch.relay) ≠ .opening ∧
      (if s.switch.relay = .opening ∨ s.switch.relay = .closing then RelayState.open else s.switch.relay) ≠ .closing
    split
    · decide
    · next hr => exact not_or.mp hr
  inRange _ h := { h with limitRun := Nat.zero_le _ }

theorem resense (s : State) : SwitchKept s s.resense := by
  have hsense : SwitchKept s (s.onSwitch fun x => { x with hold := false, sensedClosed := s.pins.loadSense }) :=
    counts (s := s) _ rfl rfl fun _ h => { h with }
  unfold State.resense
  dsimp only
  split_ifs
  · exact hsense.trans (arriveClosed _)
  · exact hsense.trans (startOp _ _ _)
  · exact hsense.trans (openChoice _)
  · exact hsense.trans (arriveOpen _)

end SwitchKept

/-! ### Commands -/

/-- Every command but a cold start and a loss of retention keeps what the operations of the Switch Unit keep, but that it may change
the settings where it leaves the Switch Unit. -/
theorem exec_switchKept {c : Instr} (hc : .switch ∈ Instr.changes c) (hcold : ∀ n, c ≠ .coldStart n) (hloss : c ≠ .retentionLoss)
    (s : State) : Ends (SwitchKept s) (exec c s) := by
  have htook : ∀ d, SwitchKept s (s.took d) := fun d => (SwitchKept.refl s).andThen rfl rfl
  cases c <;> simp only [Instr.changes, PartUnit.granted, List.mem_cons, List.not_mem_nil, reduceCtorEq, or_false, or_self] at hc
  case coldStart n => exact absurd rfl (hcold n)
  case retentionLoss => exact absurd rfl hloss
  case reasonRequest add r =>
    refine ⟨_, rfl, ?_⟩
    split
    · exact (htook _).trans (SwitchKept.addReason _ r)
    · exact (htook _).trans (SwitchKept.removeReason _ r)
  case consent n => exact ⟨_, rfl, (htook _).trans (SwitchKept.takeConsent _ n)⟩
  case disconnect n => exact ⟨_, rfl, (htook _).trans (SwitchKept.takeDisconnect _ n)⟩
  case permit n => exact ⟨_, rfl, (htook _).trans (SwitchKept.takePermit _ n)⟩
  case coilReading n => exact ⟨_, rfl, (htook _).trans (SwitchKept.coilTaken _ n)⟩
  case driveEnd => exact ⟨_, rfl, SwitchKept.endDrive s⟩
  case settleEnd => exact ⟨_, rfl, SwitchKept.endSettle s⟩
  case loadSenseChange b =>
    refine ⟨_, rfl, ?_⟩
    have hpins : SwitchKept s (s.onPins fun p => { p with loadSense := b }) := (SwitchKept.refl s).andThen rfl rfl
    split
    · exact hpins
    · exact (hpins.trans (SwitchKept.counts (s := s.onPins fun p => { p with loadSense := b })
        (fun x => { x with sensedClosed := b }) rfl rfl fun _ h => { h with })).trans (SwitchKept.stuckCheck _)
  case stuckRetry =>
    exact Ends.ite ⟨_, rfl, (htook _).trans (SwitchKept.switchTick _)⟩ ⟨_, rfl, SwitchKept.refl s⟩
  case backoffExpiry =>
    exact Ends.ite ⟨_, rfl, (htook _).trans (SwitchKept.switchTick _)⟩ ⟨_, rfl, SwitchKept.refl s⟩
  case closedTimeExpiry =>
    exact Ends.ite ⟨_, rfl, (htook _).trans (SwitchKept.switchTick _)⟩ ⟨_, rfl, SwitchKept.refl s⟩
  case trip r =>
    exact Ends.ite ⟨_, rfl, (htook _).trans (SwitchKept.testLimit _ _)⟩ ⟨_, rfl, SwitchKept.refl s⟩
  case switchBlockResult r =>
    refine ⟨_, rfl, ?_⟩
    split
    · exact htook _
    · exact (htook _).trans (SwitchKept.testLimit _ _)
  case switchSecond =>
    refine ⟨_, rfl, ?_⟩
    split
    · exact htook _
    · exact (htook _).trans (SwitchKept.switchTick _)
  case limitRequest w => exact ⟨_, rfl, (htook _).trans (SwitchKept.takeLimit _ w)⟩
  case switchHoldEntry =>
    exact ⟨_, rfl, (((SwitchKept.refl s).andThen (u := (s.dropStale .switchHoldEntry Instr.switchStale).took .switchHoldEntry) rfl
      rfl).trans (SwitchKept.enterHold _)).andThen rfl rfl⟩
  case switchWarmStart => exact ⟨_, rfl, (htook _).trans (SwitchKept.resense _)⟩

end Sys2Proof.Machine
end

section
/-! PROOFS. What the Code Unit's operations keep (04_top_up_codes.md): the order of its history (R82, R83), and its failure count (R85). -/

namespace Sys2Proof.Machine

/-- What the commands keep of the Code Unit. -/
structure CodeKept (s t : State) : Prop where
  ordered : HistoryOrdered s.code → HistoryOrdered t.code
  failures : s.code.failures ≤ 4 → t.code.failures ≤ 4

/-- A history stays in order when an evaluation ends. -/
theorem HistoryOrdered.ended {x y : Code} (hx : HistoryOrdered x) (hu : y.used = x.used) (hf : y.floor = x.floor)
    (he : y.evaluation = x.evaluation ∨ y.evaluation = none) : HistoryOrdered y where
  length := hu ▸ hx.length
  ascending := hu ▸ hx.ascending
  above := by
    rw [hu, hf]
    exact hx.above
  waiting ev h := by
    rw [hu, hf]
    rcases he with he | he
    · exact hx.waiting ev (he.symm.trans h)
    · exact absurd (he.symm.trans h) (by simp)

/-- A serial that an evaluation has found unused joins the history, and the evaluation ends. -/
theorem HistoryOrdered.recorded {x : Code} (hx : HistoryOrdered x) {ev : Evaluation} (he : x.evaluation = some ev) :
    HistoryOrdered { x.record ev.serial with failures := 0, evaluation := none } := by
  obtain ⟨hfloor, hunused⟩ := hx.waiting ev he
  have hbase : HistoryOrdered { x with failures := 0, evaluation := none } := hx.ended rfl rfl (.inr rfl)
  have hrecord : Code.record { x with failures := 0, evaluation := none } ev.serial =
      { x.record ev.serial with failures := 0, evaluation := none } := by
    unfold Code.record
    dsimp only
    split <;> rfl
  rw [← hrecord]
  exact SerialRecorded.ordered hbase (Code.serialRecorded hbase hunused) hfloor rfl

namespace CodeKept

variable {s t u : State}

theorem refl (s : State) : CodeKept s s := ⟨id, id⟩

theorem trans (h : CodeKept s t) (h' : CodeKept t u) : CodeKept s u := ⟨h'.ordered ∘ h.ordered, h'.failures ∘ h.failures⟩

theorem same (h : t.code = s.code) : CodeKept s t := ⟨fun hs => h ▸ hs, fun hs => h ▸ hs⟩

theorem andThen (h : CodeKept s t) (he : u.code = t.code) : CodeKept s u := h.trans (same he)

theorem after (he : t.code = s.code) (h : CodeKept t u) : CodeKept s u := (same he).trans h

/-- An update that leaves the history, and ends the evaluation or leaves it. -/
theorem history (hu : t.code.used = s.code.used) (hf : t.code.floor = s.code.floor)
    (he : t.code.evaluation = s.code.evaluation ∨ t.code.evaluation = none)
    (hn : s.code.failures ≤ 4 → t.code.failures ≤ 4) : CodeKept s t :=
  ⟨fun h => h.ended hu hf he, hn⟩

theorem codeAccepted (s : State) (balance : Int) : CodeKept s (s.codeAccepted balance) := by
  unfold State.codeAccepted
  split
  · exact refl s
  · next ev he => exact ⟨fun h => h.recorded he, fun _ => Nat.zero_le _⟩

theorem codeOverCap (s : State) (balance : Int) : CodeKept s (s.codeOverCap balance) := by
  unfold State.codeOverCap
  split
  · exact refl s
  · exact history rfl rfl (.inr rfl) id

theorem countFailure (s : State) (r : CodeOutcome) : CodeKept s (s.countFailure r) := by
  unfold State.countFailure
  split
  · next hlt => exact history rfl rfl (.inl rfl) fun _ => Nat.le_of_lt_succ hlt
  · exact history rfl rfl (.inl rfl) fun _ => Nat.zero_le _

/-- A code that passes the checks is of a serial above the floor that the history does not hold. -/
theorem unused_of_codeRefusal {n : Nat} (h : s.codeRefusal n = none) : s.code.floor < codeSerial n ∧ codeSerial n ∉ s.code.used := by
  unfold State.codeRefusal at h
  split_ifs at h with _ _ _ _ hused
  obtain ⟨hfloor, hmem⟩ := not_or.mp hused
  exact ⟨Nat.lt_of_not_le hfloor, hmem⟩

theorem judgeCode (s : State) (order : OrderId) (n : Nat) : CodeKept s (s.judgeCode order n) := by
  unfold State.judgeCode
  split
  · split
    · exact (countFailure s _).andThen rfl
    · exact same rfl
  · next hr => exact ⟨fun h => { h with waiting := fun ev hev => Option.some.inj hev ▸ unused_of_codeRefusal hr }, id⟩

theorem evaluateCode (s : State) (order : OrderId) (digits : List Byte) : CodeKept s (s.evaluateCode order digits) := by
  have hsettled : CodeKept s (s.onCode fun x => { x with lockoutEnd := settledLockout x.lockoutEnd s.calendar.t }) :=
    history rfl rfl (.inl rfl) id
  unfold State.evaluateCode
  dsimp only
  split_ifs
  · exact hsettled.andThen rfl
  · exact hsettled.andThen rfl
  · exact hsettled.trans (judgeCode _ _ _)

theorem takeTopUp (s : State) (amount : Nat) : CodeKept s (s.takeTopUp amount) := by
  unfold State.takeTopUp
  split
  · exact codeOverCap s _
  · exact (same (t := (s.onCredit fun x => x.topUp amount).evaluateCredit .topUp) (by simp)).trans (codeAccepted _ _)

theorem serviceNewsTaken (s : State) (credit : Bool) : CodeKept s (s.serviceNewsTaken credit) := by
  unfold State.serviceNewsTaken
  split
  · dsimp only
    split
    · exact same rfl
    · unfold State.finishService
      split
      · exact same rfl
      · exact after (t := s.onSettings fun y => { y with waiting := none }) rfl (codeAccepted _ _)
  · exact refl s

/-! ### Publications -/

theorem tryPublish (s : State) : CodeKept s s.tryPublish := by
  by_cases h : s.exchange.mirrorHolder = .link
  · rw [(State.tryPublish_tried s).pending h]
    exact same rfl
  · rw [(State.tryPublish_tried s).begun h]
    exact history rfl rfl (.inl rfl) id

theorem countBlock (s : State) : CodeKept s s.countBlock := by
  have hreset : CodeKept s (s.onReport fun x => { x with blockCount := 0 }) := same rfl
  unfold State.countBlock State.publicationDue
  split_ifs
  · exact same rfl
  · exact same rfl
  · exact hreset.trans (tryPublish _)

theorem mirrorFreed (s : State) : CodeKept s s.mirrorFreed := by
  have hclear : CodeKept s (s.onReport Report.clearPublication) := same rfl
  unfold State.mirrorFreed
  split
  · exact hclear.trans (tryPublish _)
  · exact refl s

theorem publisherAccess (s : State) : CodeKept s s.publisherAccess := by
  have hended : ∀ t : State, CodeKept t t.endPublication := fun t => by
    unfold State.endPublication
    dsimp only
    split
    · exact after (t := ((t.onExchange fun x => { x with mirrorHolder := .none }).onReport Report.clearPublication).raise .mirror) rfl
        (tryPublish _)
    · exact same rfl
  unfold State.publisherAccess
  split
  · exact refl s
  · next p hp =>
    dsimp only
    split
    · exact same rfl
    · exact after (t := s.store (mirrorBase + 4 * p.granted) (fieldBytes p.bytes (4 * p.granted) 4)) rfl (hended _)

theorem grant (s : State) : CodeKept s s.grant := by
  unfold State.grant
  split
  · exact refl s
  · exact same rfl
  · exact same (by simp)
  · exact same (by simp)
  · exact publisherAccess s

end CodeKept

/-! ### Commands -/

theorem exec_codeKept {c : Instr} (hcold : ∀ n, c ≠ .coldStart n) (hloss : c ≠ .retentionLoss) (s : State) :
    Ends (CodeKept s) (exec c s) := by
  have htook : ∀ d, CodeKept s (s.took d) := fun d => CodeKept.same rfl
  by_cases hx : .code ∈ Instr.changes c
  case neg =>
    obtain ⟨t, ht, hkept⟩ := exec_keptBut c s
    exact ⟨t, ht, CodeKept.same (hkept.code hx)⟩
  by_cases hg : c ∈ Instr.grantRows
  case pos => exact ends_grantRow hg (CodeKept.refl s) (CodeKept.grant s)
  cases c <;> simp only [Instr.grantRows, Instr.changes, PartUnit.granted, List.mem_cons, List.not_mem_nil, reduceCtorEq,
    or_false, or_true, not_true, not_false_eq_true, or_self] at hx hg
  case coldStart n => exact absurd rfl (hcold n)
  case retentionLoss => exact absurd rfl hloss
  case topUpRequest amount => exact ⟨_, rfl, (htook _).trans (CodeKept.takeTopUp _ amount)⟩
  case serviceStateNewsCredit st =>
    exact ⟨_, rfl, (CodeKept.same (t := ((s.took (.serviceStateNewsCredit st)).onCredit fun x =>
      { x with serviceView := st }).reevaluateCredit false) (by simp)).trans (CodeKept.serviceNewsTaken _ true)⟩
  case serviceStateNewsTamper =>
    exact ⟨_, rfl, (CodeKept.same (t := (s.took .serviceStateNewsTamper).reevaluateTamper false) (by simp)).trans
      (CodeKept.serviceNewsTaken _ false)⟩
  case enterCode order digits =>
    refine Ends.ite ⟨_, rfl, CodeKept.refl s⟩ ⟨_, rfl, ?_⟩
    split
    · exact (htook _).trans (CodeKept.evaluateCode _ order digits)
    · exact htook _
  case keyWriteNews =>
    show Ends (CodeKept s) (if s.code.evaluation.isSome then _ else _)
    by_cases he : s.code.evaluation.isSome = true
    · rw [if_pos he]
      exact ⟨_, rfl, CodeKept.refl s⟩
    · rw [if_neg he]
      have hnone : s.code.evaluation = none := by simpa using he
      have hemptied : CodeKept s ((s.took .keyWriteNews).onCode fun x => { x with used := [], floor := 0 }) :=
        ⟨fun _ => ⟨Nat.zero_le _, List.Pairwise.nil, fun n hn => absurd hn List.not_mem_nil,
          fun ev hev => absurd (hnone.symm.trans hev) (by simp)⟩, id⟩
      exact ⟨_, rfl, hemptied.andThen (by simp)⟩
  case limitRequest w =>
    refine ⟨_, rfl, ?_⟩
    unfold State.takeLimit
    dsimp only
    exact (CodeKept.same (by simp)).trans (CodeKept.codeAccepted _ _)
  case clearRequest mask =>
    exact ⟨_, rfl, (CodeKept.same (t := (s.took (.clearRequest mask)).clearSources false mask) (by simp)).trans
      (CodeKept.codeAccepted _ _)⟩
  case blockCompletionReport =>
    refine ⟨_, rfl, ?_⟩
    split
    · exact htook _
    · exact (htook _).trans (CodeKept.countBlock _)
  case publicationDue =>
    exact Ends.ite ⟨_, rfl, (htook _).trans (CodeKept.countBlock _)⟩ ⟨_, rfl, CodeKept.refl s⟩
  case mirrorFreedNews => exact ⟨_, rfl, (htook _).trans (CodeKept.mirrorFreed _)⟩

end Sys2Proof.Machine
end

section
/-! PROOFS. What the Exchange Unit's operations keep of the frame record (R168, R172 to R174, R183). -/

namespace Sys2Proof.Machine

/-- What a frame has gathered for its word lies in it by rising address. -/
def Frame.Ordered (f : Frame) : Prop := ∀ w cells, f.word = .gathered w cells →
  cells.Pairwise (fun c d => c.1 < d.1) ∧ ∀ c ∈ cells, c.1 / 4 = w

theorem Frame.ordered_none {f : Frame} (h : f.word = .none) : f.Ordered := fun w cells hw => by simp [h] at hw

theorem Frame.ordered_fetched {f : Frame} {w : Nat} {bytes : List Byte} (h : f.word = .fetched w bytes) : f.Ordered :=
  fun v cells hv => by simp [h] at hv

namespace FrameServed

variable {x y : Exchange} {s : State}

theorem ordered (hx : FrameServed x) {f : Frame} (hf : x.frame = some f) : f.Ordered := fun w cells hw => hx.gathered f w cells hf hw

/-- An update that leaves the link as it stands, or ends the wait of a link reset, and makes no frame, but may move the one that stands. -/
theorem reframe (hx : FrameServed x) (hl : y.link = x.link) (hh : y.hold = x.hold)
    (hr : x.resetPending = false → y.resetPending = false) (hq : y.linkRequest = none) (hf : y.frame ≠ none → x.frame ≠ none)
    (ho : ∀ f, y.frame = some f → f.Ordered) : FrameServed y where
  served h := by
    obtain ⟨hopen, hhold, hreset⟩ := hx.served (hf h)
    exact ⟨hl.trans hopen, hh.trans hhold, hr hreset⟩
  noRequest := hq
  held h := hl.trans (hx.held (hh.symm.trans h))
  gathered f w cells h hw := ho f h w cells hw

/-- An update that leaves the frame and the link as they stand, or ends the wait of a link reset. -/
theorem same (hx : FrameServed x) (hf : y.frame = x.frame) (hl : y.link = x.link) (hh : y.hold = x.hold)
    (hq : y.linkRequest = x.linkRequest) (hr : x.resetPending = false → y.resetPending = false) : FrameServed y :=
  hx.reframe hl hh hr (hq.trans hx.noRequest) (fun h => hf ▸ h) fun _ h => hx.ordered (hf.symm.trans h)

/-- An update that drops the frame. -/
theorem dropped (hf : y.frame = none) (hq : y.linkRequest = none) (hh : y.hold = true → y.link = .closed) : FrameServed y where
  served h := absurd hf h
  noRequest := hq
  held := hh
  gathered f w cells h := absurd (hf.symm.trans h) (by simp)

/-- A frame that begins where the link serves it. -/
theorem opened (hx : FrameServed x) (hs : x.link = .open ∧ x.hold = false ∧ x.resetPending = false) (write : Bool) (walk : Walk)
    (a : BitVec 12) : FrameServed (x.openFrame write walk a) where
  served _ := hs
  noRequest := hx.noRequest
  held := hx.held
  gathered f w cells h hw := by
    obtain rfl := Option.some.inj h
    exact absurd hw (by simp)

/-! ### Bytes of a frame -/

/-- An access of the link in RUN is granted at once, and leaves none waiting. -/
theorem requestLink (hs : FrameServed s.exchange) (hh : s.exchange.hold = false) (a : LinkAccess) :
    FrameServed (s.requestLink a).exchange := by
  rw [State.requestLink_eq, State.onExchange_exchange, if_neg (by simp [hh])]
  cases a with
  | fetch w =>
    refine hs.reframe rfl rfl id rfl (fun h => ?_) fun f hf => ?_
    · exact fun hn => h (show Option.map _ s.exchange.frame = none by rw [hn]; rfl)
    · obtain ⟨g, -, rfl⟩ := Option.map_eq_some_iff.mp hf
      exact Frame.ordered_fetched rfl
  | store cells => exact hs.reframe rfl rfl id rfl id fun f hf => hs.ordered hf

/-- A byte shifted out of the frame that stands. -/
theorem shiftOut (hx : FrameServed x) (hf : x.frame ≠ none) {f : Frame} (ho : f.Ordered) (b : Byte) :
    FrameServed (x.shiftOut f b) :=
  hx.reframe rfl rfl id hx.noRequest (fun _ => hf) fun g hg => by
    obtain rfl := Option.some.inj hg
    exact ho

theorem readEffect (hx : FrameServed x) (a : Nat) : FrameServed (x.readEffect a) :=
  hx.same (by simp) (by simp) (by simp) (by simp) (by simp)

theorem readMemoryByte (hs : FrameServed s.exchange) {f : Frame} (hf : s.exchange.frame = some f) :
    FrameServed (s.readMemoryByte f).exchange := by
  have hhold : s.exchange.hold = false := (hs.served (by simp [hf])).2.1
  have hfetched : FrameServed (if (f.fetchedByte f.address.toNat).isSome then s
      else s.requestLink (.fetch (f.address.toNat / 4))).exchange := by
    split
    · exact hs
    · exact hs.requestLink hhold _
  unfold State.readMemoryByte
  dsimp only
  split
  · exact hfetched
  · next g hg => exact hfetched.shiftOut (by rw [hg]; simp) (hfetched.ordered hg) _

theorem readByte (hs : FrameServed s.exchange) {f : Frame} (hf : s.exchange.frame = some f) : FrameServed (s.readByte f).exchange := by
  unfold State.readByte
  dsimp only
  split_ifs
  · exact (hs.readEffect _).shiftOut (by simp [hf]) (Frame.ordered_none rfl) _
  · exact hs.shiftOut (by simp [hf]) (Frame.ordered_none rfl) _
  · exact hs.readMemoryByte hf

theorem readBytes (n : Nat) : ∀ {s : State}, FrameServed s.exchange → FrameServed (State.readBytes n s).exchange := by
  induction n with
  | zero => exact id
  | succ n ih =>
    intro s hs
    unfold State.readBytes
    split
    · exact hs
    · next f hf => exact ih (hs.readByte hf)

theorem applyBytes (hs : FrameServed s.exchange) (hh : s.exchange.hold = false) (cells : List Host.Cell) :
    FrameServed (s.applyBytes cells).exchange := by
  have hraised : FrameServed (if cells.any fun c => decide (ownerOf c.1 = .part) then s.raise .link else s).exchange ∧
      (if cells.any fun c => decide (ownerOf c.1 = .part) then s.raise .link else s).exchange.hold = false := by
    split
    · exact ⟨hs.same rfl rfl rfl rfl id, hh⟩
    · exact ⟨hs, hh⟩
  unfold State.applyBytes
  dsimp only
  split
  · exact hraised.1
  · exact hraised.1.requestLink hraised.2 _

theorem applyGathered (hs : FrameServed s.exchange) : FrameServed s.applyGathered.exchange := by
  unfold State.applyGathered
  split
  · exact hs
  · next f hf =>
    split
    · exact hs
    · exact hs
    · have hhold : s.exchange.hold = false := (hs.served (by simp [hf])).2.1
      refine applyBytes (s := s.onExchange fun x => { x with frame := some { f with word := .none } }) ?_ hhold _
      refine hs.reframe rfl rfl id hs.noRequest (fun _ => by simp [hf]) fun g hg => ?_
      obtain rfl := Option.some.inj hg
      exact Frame.ordered_none rfl

/-- The bytes gathered for a word with one byte more. -/
theorem gathering (hs : FrameServed x) {f : Frame} (hf : x.frame = some f) (v : Byte) : (f.gathering v).Ordered := by
  intro w cells hw
  obtain ⟨rfl, rfl⟩ := CurrentWord.gathered.inj hw
  refine ⟨gatherByte_pairwise (Frame.gatheredOf_pairwise hs hf _) _ _, fun c hc => ?_⟩
  rcases mem_gatherByte hc with rfl | hc
  · rfl
  · unfold Frame.gatheredOf at hc
    split at hc
    · exact absurd hc List.not_mem_nil
    · exact absurd hc List.not_mem_nil
    · next u held hword =>
      split at hc
      · next hu => exact hu ▸ (hs.ordered hf u held hword).2 c hc
      · exact absurd hc List.not_mem_nil

theorem writeByte (hs : FrameServed s.exchange) {f : Frame} (hf : s.exchange.frame = some f) (v : Byte) :
    FrameServed (s.writeByte f v).exchange := by
  by_cases hreg : 0xFC0 ≤ f.address.toNat
  · have hshifted : FrameServed (s.onExchange fun x => x.shiftOut f 0).exchange := hs.shiftOut (by simp [hf]) (hs.ordered hf) _
    have hwrite : s.writeByte f v = (s.onExchange fun x => x.shiftOut f 0).writeRegister f.address.toNat v := if_pos hreg
    rw [hwrite]
    exact hshifted.same (by simp) (by simp) (by simp) (by simp) (by simp)
  · have hshifted : FrameServed (s.onExchange fun x => x.shiftOut (f.gathering v) 0).exchange :=
      hs.shiftOut (by simp [hf]) (hs.gathering hf v) _
    rw [State.writeByte_memory (by omega)]
    split
    · exact hshifted
    · exact hshifted.applyGathered

theorem writeBytes (vs : List Byte) : ∀ {s : State}, FrameServed s.exchange → FrameServed (State.writeBytes vs s).exchange := by
  induction vs with
  | nil => exact id
  | cons v vs ih =>
    intro s hs
    unfold State.writeBytes
    split
    · exact hs
    · next f hf => exact ih (hs.writeByte hf v)

theorem endSegment (hs : FrameServed s.exchange) (last : Bool) : FrameServed (s.endSegment last).exchange := by
  unfold State.endSegment
  split
  · exact dropped rfl hs.applyGathered.noRequest hs.applyGathered.held
  · exact hs

theorem openServed (hs : FrameServed s.exchange) (h : s.served = true) (write : Bool) (walk : Walk) (a : BitVec 12) :
    FrameServed (s.onExchange fun x => x.openFrame write walk a).exchange := by
  obtain ⟨hopen, hhold, -, hreset⟩ := s.served_iff.mp h
  exact hs.opened ⟨hopen, hhold, hreset⟩ write walk a

theorem readFrame (hs : FrameServed s.exchange) (w : Walk) (g : ReadSegment) : FrameServed (s.readFrame w g).exchange := by
  unfold State.readFrame
  repeat' split
  case h_1.isFalse.isTrue h => exact (readBytes _ (hs.openServed h _ _ _)).endSegment _
  case h_3.isFalse.isTrue => exact (readBytes _ hs).endSegment _
  all_goals exact hs.same rfl rfl rfl rfl id

theorem writeFrame (hs : FrameServed s.exchange) (w : Walk) (g : WriteSegment) : FrameServed (s.writeFrame w g).exchange := by
  unfold State.writeFrame
  repeat' split
  case h_1.isFalse.isTrue h => exact (writeBytes _ (hs.openServed h _ _ _)).endSegment _
  case h_3.isFalse.isTrue => exact (writeBytes _ hs).endSegment _
  all_goals exact hs.same rfl rfl rfl rfl id

/-! ### Grants -/

theorem drained (hs : FrameServed s.exchange) : FrameServed s.drained.exchange := by
  by_cases hw : s.engine.work = []
  · have hended : FrameServed s.writingEnded.exchange := hs.same rfl rfl rfl rfl fun h => by
      show (s.exchange.resetPending && _) = false
      rw [h, Bool.false_and]
    rw [State.drained_emptied hw]
    split
    · exact hended
    · exact hended
  · rw [State.drained_of_work hw]
    exact hs

theorem engineAccess (hs : FrameServed s.exchange) : FrameServed s.engineAccess.exchange := by
  unfold State.engineAccess
  split
  · exact hs
  · exact hs.same (by simp) (by simp) (by simp) (by simp) (by simp)
  · exact hs.same (by simp) (by simp) (by simp) (by simp) (by simp)
  · exact FrameServed.drained (hs.same (by simp) (by simp) (by simp) (by simp) (by simp))
  · exact FrameServed.drained (hs.same (by simp) (by simp) (by simp) (by simp) (by simp))

/-- No access of the link waits between two commands, so a grant leaves the frame. -/
theorem grant (hs : FrameServed s.exchange) : FrameServed s.grant.exchange := by
  unfold State.grant
  split
  · exact hs
  · next h => exact absurd hs.noRequest ((State.nextGrant_link s).mp h).2
  · exact hs.same (by simp) (by simp) (by simp) (by simp) (by simp)
  · exact hs.engineAccess
  · exact hs.same (by simp) (by simp) (by simp) (by simp) (by simp)

/-! ### The link state -/

theorem resetLink (hs : FrameServed s.exchange) : FrameServed s.resetLink.exchange := by
  rw [State.resetLink_eq]
  exact dropped rfl rfl hs.held

/-- The link opens in RUN alone, where no frame stands. -/
theorem tryOpen (hs : FrameServed s.exchange) : FrameServed s.tryOpen.exchange := by
  unfold State.tryOpen
  split
  · next hdue =>
    obtain ⟨hclosed, hhold, -, -⟩ := hdue
    have hnone : s.exchange.frame = none := by
      by_contra h
      exact absurd (hclosed.symm.trans (hs.served h).1) (by decide)
    have hopened : FrameServed (s.onExchange fun x => { x with link := .open }).exchange :=
      dropped hnone hs.noRequest fun h => absurd (hhold.symm.trans h) (by decide)
    unfold State.openLink
    dsimp only
    split
    · exact hopened.resetLink
    · exact hopened
  · exact hs

end FrameServed

/-! ### Commands -/

/-- A frame record stands only while the link is served. -/
def State.FrameKept (s : State) : Prop := FrameServed s.exchange

/-- Every command keeps the frame record. -/
theorem State.FrameKept.exec {s : State} (hs : s.FrameKept) (c : Instr) : Ends State.FrameKept (exec c s) := by
  by_cases hx : .exchange ∈ Instr.changes c
  case neg =>
    obtain ⟨t, ht, hkept⟩ := exec_keptBut c s
    obtain ⟨-, hlink, hframe, -, -, -, -, hreq, hhold, -, hreset, -⟩ := (Exchange.mute_eq_iff _ _).mp (hkept.exchange hx)
    exact ⟨t, ht, FrameServed.same hs hframe hlink hhold hreq fun h => hreset.trans h⟩
  by_cases hg : c ∈ Instr.grantRows
  case pos => exact ends_grantRow hg hs (FrameServed.grant hs)
  cases c <;> simp only [Instr.grantRows, Instr.changes, PartUnit.granted, List.mem_cons, List.not_mem_nil, reduceCtorEq,
    or_false, or_true, not_true, not_false_eq_true, or_self] at hx hg
  case readAscend g => exact ⟨_, rfl, FrameServed.readFrame hs .ascend g⟩
  case readDescend g => exact ⟨_, rfl, FrameServed.readFrame hs .descend g⟩
  case readHold g => exact ⟨_, rfl, FrameServed.readFrame hs .hold g⟩
  case readLineAscend g => exact ⟨_, rfl, FrameServed.readFrame hs .lineAscend g⟩
  case writeAscend g => exact ⟨_, rfl, FrameServed.writeFrame hs .ascend g⟩
  case writeDescend g => exact ⟨_, rfl, FrameServed.writeFrame hs .descend g⟩
  case writeHold g => exact ⟨_, rfl, FrameServed.writeFrame hs .hold g⟩
  case writeLineAscend g => exact ⟨_, rfl, FrameServed.writeFrame hs .lineAscend g⟩
  case coldStart cell =>
    refine Ends.ite ⟨_, rfl, hs⟩ ⟨_, rfl, ?_⟩
    rw [State.FrameKept, State.coldStart_eq]
    exact FrameServed.dropped rfl rfl fun h => Bool.noConfusion h
  case retentionLoss => exact Ends.ite ⟨_, rfl, FrameServed.dropped rfl rfl fun _ => rfl⟩ ⟨_, rfl, hs⟩
  case exchangeHoldEntry => exact ⟨_, rfl, FrameServed.dropped rfl rfl fun _ => rfl⟩
  case exchangeWarmStart =>
    have hrun : FrameServed (((s.took .exchangeWarmStart).onExchange fun x =>
        { x with hold := false, mirrorHolder := .none, stageHolder := .none }).send .mirrorFreedNews).exchange :=
      { served := fun h => ⟨(FrameServed.served hs h).1, rfl, (FrameServed.served hs h).2.2⟩
        noRequest := FrameServed.noRequest (x := s.exchange) hs
        held := fun h => Bool.noConfusion h
        gathered := FrameServed.gathered (x := s.exchange) hs }
    exact ⟨_, rfl, hrun.tryOpen⟩
  case answersWrittenNews =>
    have htold : FrameServed ((s.took .answersWrittenNews).onExchange fun x => { x with answersTold := true }).exchange :=
      FrameServed.same hs rfl rfl rfl rfl id
    exact ⟨_, rfl, htold.tryOpen⟩
  case linkReset =>
    refine ⟨_, rfl, ?_⟩
    split
    · exact FrameServed.resetLink (s := s.onPins fun p => { p with linkrstn := true }) hs
    · exact hs
  case blockCompletionReport =>
    exact ⟨_, rfl, FrameServed.same hs (by split <;> simp) (by split <;> simp) (by split <;> simp) (by split <;> simp)
      (by split <;> simp)⟩
  all_goals
    simp only [Machine.exec, execInvalidCommand, execFrameWhileClosed, execNoticeClear, execNoticeEnable, execSemaphoreTake,
      execSemaphoreGive, execRegisterWriteOther, execEngineHoldEntry, execEngineLinkReset, execPublicationDue,
      execMirrorFreedNews]
    repeat' split
    all_goals exact ⟨_, rfl, FrameServed.same hs (by simp [Exchange.emptyFrame, Exchange.floatBytes])
      (by simp [Exchange.emptyFrame, Exchange.floatBytes]) (by simp [Exchange.emptyFrame, Exchange.floatBytes])
      (by simp [Exchange.emptyFrame, Exchange.floatBytes]) (by simp [Exchange.emptyFrame, Exchange.floatBytes])⟩

end Sys2Proof.Machine
end

section
/-! PROOFS. The three records that every step keeps (R82, R95, R168). -/

namespace Sys2Proof.Machine

theorem Switch.coldFrom_matched (energised : Bool) : (Switch.coldFrom energised).Matched := by
  cases energised <;> exact Switch.matched_none rfl (by decide)

theorem Switch.tick_matched {x : Switch} (h : x.Matched) : x.tick.Matched := by
  cases ho : x.operation with
  | none => exact h.same (by rw [Switch.tick, ho]; rfl) rfl
  | some o =>
    have htick : x.tick.operation = some { o with phase := o.phase.tick } := by rw [Switch.tick, ho]; rfl
    exact h.goesOn ho htick rfl rfl

/-- Every command keeps the operation record and the relay together. -/
theorem exec_matched (c : Instr) (s : State) (hs : s.switch.Matched) : Ends (fun t => t.switch.Matched) (exec c s) := by
  by_cases hx : .switch ∈ Instr.changes c
  case neg =>
    obtain ⟨t, ht, hkept⟩ := exec_keptBut c s
    exact ⟨t, ht, show t.switch.Matched from (hkept.switch hx).symm ▸ hs⟩
  by_cases hcold : ∃ n, c = .coldStart n
  case pos =>
    obtain ⟨n, rfl⟩ := hcold
    refine Ends.ite ⟨_, rfl, hs⟩ ⟨_, rfl, ?_⟩
    rw [State.coldStart_eq]
    exact Switch.coldFrom_matched _
  by_cases hloss : c = .retentionLoss
  case pos =>
    subst hloss
    exact Ends.ite ⟨_, rfl, Switch.matched_none rfl ⟨RelayState.noConfusion, RelayState.noConfusion⟩⟩ ⟨_, rfl, hs⟩
  obtain ⟨t, ht, hkept⟩ := exec_switchKept hx (fun n h => hcold ⟨n, h⟩) hloss s
  exact ⟨t, ht, hkept.matched hs⟩

/-- Every command keeps the history of codes in order. -/
theorem exec_historyOrdered (c : Instr) (s : State) (hs : HistoryOrdered s.code) : Ends (fun t => HistoryOrdered t.code) (exec c s) := by
  by_cases hcold : ∃ n, c = .coldStart n
  case pos =>
    obtain ⟨n, rfl⟩ := hcold
    refine Ends.ite ⟨_, rfl, hs⟩ ⟨_, rfl, ?_⟩
    rw [State.coldStart_eq]
    exact Code.cold_ordered
  by_cases hloss : c = .retentionLoss
  case pos =>
    subst hloss
    exact Ends.ite ⟨_, rfl, Code.cold_ordered⟩ ⟨_, rfl, hs⟩
  obtain ⟨t, ht, hkept⟩ := exec_codeKept (fun n h => hcold ⟨n, h⟩) hloss s
  exact ⟨t, ht, hkept.ordered hs⟩

/-- Settles O5: each record is kept by every command, whatever waits, and by the timers. -/
theorem stepKeepsTheRecords : Obligations.StepKeepsTheRecords := by
  intro s t h
  rw [operationMatchesRelay_iff, operationMatchesRelay_iff]
  refine ⟨fun hs => ?_, fun hs => ?_, fun hs => ?_⟩
  · exact step_keeps (P := fun s => s.switch.Matched) (fun _ _ h => h) (fun _ h => Switch.tick_matched h) exec_matched hs h
  · exact step_keeps (P := fun s => HistoryOrdered s.code) (fun _ _ h => h) (fun _ h => h) exec_historyOrdered hs h
  · exact step_keeps (P := State.FrameKept) (fun _ _ h => h) (fun _ h => h) (fun c _ h => h.exec c) hs h

end Sys2Proof.Machine
end

section
/-! PROOFS. What the operations send, but for the news of a table. -/

namespace Sys2Proof.Machine

/-- The Credit Unit's news of an adopted table is in flight. -/
def State.TableAwaited (s : State) : Prop := ∃ f, Instr.newTableArrival f ∈ s.inFlight

/-- An arrival of another kind is taken. -/
theorem State.took_tableAwaited {s : State} {c : Instr} (h : ∀ f, c.sentForm ≠ .newTableArrival f) :
    (s.took c).TableAwaited ↔ s.TableAwaited :=
  exists_congr fun f => List.mem_erase_of_ne (h f).symm

theorem mem_discardBefore {stop c : Instr} {drop : Instr → Bool} (h : drop c = false) (cs : List Instr) :
    c ∈ discardBefore stop drop cs ↔ c ∈ cs := by
  induction cs with
  | nil => rfl
  | cons d ds ih =>
    unfold discardBefore
    split_ifs with hstop hdrop
    · rfl
    · rw [ih, List.mem_cons]
      exact ⟨.inr, fun hc => hc.resolve_left fun he => by simp [he, hdrop] at h⟩
    · rw [List.mem_cons, ih, List.mem_cons]

theorem State.dropStale_tableAwaited {s : State} {stop : Instr} {drop : Instr → Bool} (h : ∀ f, drop (.newTableArrival f) = false) :
    (s.dropStale stop drop).TableAwaited ↔ s.TableAwaited :=
  exists_congr fun f => mem_discardBefore (h f) _

/-! ### Operations -/

variable (s : State)

@[simp] theorem State.send_tableAwaited (c : Instr) :
    (s.send c).TableAwaited ↔ s.TableAwaited ∨ ∃ f, c = .newTableArrival f := by
  simp only [State.TableAwaited, State.send_inFlight, List.mem_append, List.mem_singleton, eq_comm (b := c), exists_or]

@[simp] theorem State.onEnergy_tableAwaited (f : Energy → Energy) : (s.onEnergy f).TableAwaited ↔ s.TableAwaited := Iff.rfl

@[simp] theorem State.onCalendar_tableAwaited (f : Calendar → Calendar) : (s.onCalendar f).TableAwaited ↔ s.TableAwaited := Iff.rfl

@[simp] theorem State.onCredit_tableAwaited (f : Credit → Credit) : (s.onCredit f).TableAwaited ↔ s.TableAwaited := Iff.rfl

@[simp] theorem State.onCode_tableAwaited (f : Code → Code) : (s.onCode f).TableAwaited ↔ s.TableAwaited := Iff.rfl

@[simp] theorem State.onSwitch_tableAwaited (f : Switch → Switch) : (s.onSwitch f).TableAwaited ↔ s.TableAwaited := Iff.rfl

@[simp] theorem State.onTamper_tableAwaited (f : Tamper → Tamper) : (s.onTamper f).TableAwaited ↔ s.TableAwaited := Iff.rfl

@[simp] theorem State.onSupply_tableAwaited (f : Supply → Supply) : (s.onSupply f).TableAwaited ↔ s.TableAwaited := Iff.rfl

@[simp] theorem State.onSettings_tableAwaited (f : Settings → Settings) : (s.onSettings f).TableAwaited ↔ s.TableAwaited := Iff.rfl

@[simp] theorem State.onExchange_tableAwaited (f : Exchange → Exchange) : (s.onExchange f).TableAwaited ↔ s.TableAwaited := Iff.rfl

@[simp] theorem State.onEngine_tableAwaited (f : Engine → Engine) : (s.onEngine f).TableAwaited ↔ s.TableAwaited := Iff.rfl

@[simp] theorem State.onReport_tableAwaited (f : Report → Report) : (s.onReport f).TableAwaited ↔ s.TableAwaited := Iff.rfl

@[simp] theorem State.onPins_tableAwaited (f : Pins → Pins) : (s.onPins f).TableAwaited ↔ s.TableAwaited := Iff.rfl

@[simp] theorem State.raise_tableAwaited (n : Notice) : (s.raise n).TableAwaited ↔ s.TableAwaited := Iff.rfl

@[simp] theorem State.store_tableAwaited (a : Nat) (bytes : List Byte) : (s.store a bytes).TableAwaited ↔ s.TableAwaited := Iff.rfl

@[simp] theorem State.journal_tableAwaited (e : Event) : (s.journal e).TableAwaited ↔ s.TableAwaited := by
  simp [State.journal]

@[simp] theorem State.journalAt_tableAwaited (t : Nat) (e : Event) : (s.journalAt t e).TableAwaited ↔ s.TableAwaited := by
  simp [State.journalAt]

@[simp] theorem State.answer_tableAwaited (order : OrderId) (code : ResultCode) (data : ResultData) :
    (s.answer order code data).TableAwaited ↔ s.TableAwaited := by
  simp [State.answer]

@[simp] theorem State.countFailure_tableAwaited (o : CodeOutcome) : (s.countFailure o).TableAwaited ↔ s.TableAwaited := by
  simp only [State.countFailure]
  repeat' split
  all_goals simp

@[simp] theorem State.codeAnswer_tableAwaited (order : OrderId) (o : CodeOutcome) (cls serial amount : Nat) (balance : Int) :
    (s.codeAnswer order o cls serial amount balance).TableAwaited ↔ s.TableAwaited := by
  simp [State.codeAnswer]

@[simp] theorem State.codeAccepted_tableAwaited (balance : Int) : (s.codeAccepted balance).TableAwaited ↔ s.TableAwaited := by
  simp only [State.codeAccepted]
  repeat' split
  all_goals simp

@[simp] theorem State.codeOverCap_tableAwaited (balance : Int) : (s.codeOverCap balance).TableAwaited ↔ s.TableAwaited := by
  simp only [State.codeOverCap]
  repeat' split
  all_goals simp

theorem classRequest_ne (cls amount : Nat) (f : Option Bool) : classRequest cls amount ≠ .newTableArrival f := by
  unfold classRequest
  split <;> simp

@[simp] theorem State.judgeCode_tableAwaited (order : OrderId) (n : Nat) : (s.judgeCode order n).TableAwaited ↔ s.TableAwaited := by
  simp only [State.judgeCode]
  repeat' split
  all_goals simp [classRequest_ne]

@[simp] theorem State.evaluateCode_tableAwaited (order : OrderId) (digits : List Byte) :
    (s.evaluateCode order digits).TableAwaited ↔ s.TableAwaited := by
  simp only [State.evaluateCode]
  repeat' split
  all_goals simp

@[simp] theorem State.sweep_tableAwaited (k : SweepKind) : (s.sweep k).TableAwaited ↔ s.TableAwaited := by
  simp only [State.sweep]
  repeat' split
  all_goals simp

@[simp] theorem State.testSweep_tableAwaited : s.testSweep.TableAwaited ↔ s.TableAwaited := by
  simp only [State.testSweep]
  repeat' split
  all_goals simp

@[simp] theorem State.finishWrite_tableAwaited (order : OrderId) (x : SettingId) (clamped : Bool) (applied : Nat) :
    (s.finishWrite order x clamped applied).TableAwaited ↔ s.TableAwaited := by
  simp [State.finishWrite]

@[simp] theorem State.writeNewsTaken_tableAwaited (n : Neighbour) : (s.writeNewsTaken n).TableAwaited ↔ s.TableAwaited := by
  simp only [State.writeNewsTaken]
  repeat' split
  all_goals simp

@[simp] theorem State.finishService_tableAwaited (order : Option OrderId) : (s.finishService order).TableAwaited ↔ s.TableAwaited := by
  simp only [State.finishService]
  repeat' split
  all_goals simp

@[simp] theorem State.serviceNewsTaken_tableAwaited (credit : Bool) : (s.serviceNewsTaken credit).TableAwaited ↔ s.TableAwaited := by
  simp only [State.serviceNewsTaken]
  repeat' split
  all_goals simp

theorem SettingId.news_ne {x : SettingId} {n : Neighbour} {c : Instr} (h : SettingId.news x = some (n, c)) (f : Option Bool) :
    c ≠ .newTableArrival f := by
  rintro rfl
  cases x <;> simp [SettingId.news] at h

@[simp] theorem State.writeTo_tableAwaited (order : OrderId) (x : SettingId) (v : Nat) :
    (s.writeTo order x v).TableAwaited ↔ s.TableAwaited := by
  simp only [State.writeTo]
  split
  · simp
  · next h => simp [SettingId.news_ne h]

@[simp] theorem State.writeSetting_tableAwaited (order : OrderId) (id : Byte) (value : BitVec 64) :
    (s.writeSetting order id value).TableAwaited ↔ s.TableAwaited := by
  simp only [State.writeSetting]
  repeat' split
  all_goals simp

@[simp] theorem State.changeService_tableAwaited (new : ServiceState) (order : Option OrderId) :
    (s.changeService new order).TableAwaited ↔ s.TableAwaited := by
  simp [State.changeService]

@[simp] theorem State.enterService_tableAwaited (order : OrderId) : (s.enterService order).TableAwaited ↔ s.TableAwaited := by
  simp only [State.enterService]
  repeat' split
  all_goals simp

@[simp] theorem State.settingsSecond_tableAwaited : s.settingsSecond.TableAwaited ↔ s.TableAwaited := by
  simp only [State.settingsSecond]
  repeat' split
  all_goals simp

@[simp] theorem State.reevaluate_tableAwaited : s.reevaluate.TableAwaited ↔ s.TableAwaited := by
  simp only [State.reevaluate]
  repeat' split
  all_goals simp

@[simp] theorem State.deliverSecond_tableAwaited : s.deliverSecond.TableAwaited ↔ s.TableAwaited := by
  simp [State.deliverSecond]

@[simp] theorem State.tick_tableAwaited : s.tick.TableAwaited ↔ s.TableAwaited := by
  simp only [State.tick]
  repeat' split
  all_goals simp

@[simp] theorem State.applySet_tableAwaited (delta : Int) : (s.applySet delta).TableAwaited ↔ s.TableAwaited := by
  simp only [State.applySet]
  repeat' split
  all_goals simp

@[simp] theorem State.setTime_tableAwaited (order : OrderId) (target : BitVec 32) :
    (s.setTime order target).TableAwaited ↔ s.TableAwaited := by
  simp only [State.setTime]
  repeat' split
  all_goals simp

@[simp] theorem State.reevaluateCredit_tableAwaited (resend : Bool) : (s.reevaluateCredit resend).TableAwaited ↔ s.TableAwaited := by
  simp only [State.reevaluateCredit]
  repeat' split
  all_goals simp

@[simp] theorem State.recordCreditState_tableAwaited (cause : CreditCause) :
    (s.recordCreditState cause).TableAwaited ↔ s.TableAwaited := by
  simp only [State.recordCreditState]
  repeat' split
  all_goals simp

@[simp] theorem State.evaluateCredit_tableAwaited (cause : CreditCause) : (s.evaluateCredit cause).TableAwaited ↔ s.TableAwaited := by
  simp only [State.evaluateCredit]
  repeat' split
  all_goals simp

@[simp] theorem State.chargeBlock_tableAwaited (billed : Nat) : (s.chargeBlock billed).TableAwaited ↔ s.TableAwaited := by
  simp only [State.chargeBlock]
  repeat' split
  all_goals simp

@[simp] theorem State.hourRule_tableAwaited : s.hourRule.TableAwaited ↔ s.TableAwaited := by
  simp only [State.hourRule]
  repeat' split
  all_goals simp

@[simp] theorem State.drawEmergency_tableAwaited (order : OrderId) : (s.drawEmergency order).TableAwaited ↔ s.TableAwaited := by
  simp only [State.drawEmergency]
  repeat' split
  all_goals simp

@[simp] theorem State.takeTopUp_tableAwaited (amount : Nat) : (s.takeTopUp amount).TableAwaited ↔ s.TableAwaited := by
  simp only [State.takeTopUp]
  repeat' split
  all_goals simp

@[simp] theorem State.takeTable_tableAwaited (friendly : Option Bool) : (s.takeTable friendly).TableAwaited ↔ s.TableAwaited := by
  simp [State.takeTable]

@[simp] theorem State.startOp_tableAwaited (d : OpDirection) (origin : OpOrigin) :
    (s.startOp d origin).TableAwaited ↔ s.TableAwaited := by
  simp [State.startOp]

@[simp] theorem State.arrive_tableAwaited (st : RelayState) : (s.arrive st).TableAwaited ↔ s.TableAwaited := by
  simp only [State.arrive]
  repeat' split
  all_goals simp

@[simp] theorem State.stuckCheck_tableAwaited : s.stuckCheck.TableAwaited ↔ s.TableAwaited := by
  simp only [State.stuckCheck]
  repeat' split
  all_goals simp

@[simp] theorem State.reverseClosing_tableAwaited : s.reverseClosing.TableAwaited ↔ s.TableAwaited := by
  simp only [State.reverseClosing]
  repeat' split
  all_goals simp

@[simp] theorem State.becameNonEmpty_tableAwaited : s.becameNonEmpty.TableAwaited ↔ s.TableAwaited := by
  simp only [State.becameNonEmpty]
  repeat' split
  all_goals simp

@[simp] theorem State.openChoice_tableAwaited : s.openChoice.TableAwaited ↔ s.TableAwaited := by
  simp only [State.openChoice]
  repeat' split
  all_goals simp

@[simp] theorem State.becameEmpty_tableAwaited : s.becameEmpty.TableAwaited ↔ s.TableAwaited := by
  simp only [State.becameEmpty]
  repeat' split
  all_goals simp

@[simp] theorem State.addReason_tableAwaited (r : Reason) : (s.addReason r).TableAwaited ↔ s.TableAwaited := by
  simp only [State.addReason]
  repeat' split
  all_goals simp

@[simp] theorem State.removeReason_tableAwaited (r : Reason) : (s.removeReason r).TableAwaited ↔ s.TableAwaited := by
  simp only [State.removeReason]
  repeat' split
  all_goals simp

@[simp] theorem State.beginDrive_tableAwaited (o : Operation) (cs : Nat) : (s.beginDrive o cs).TableAwaited ↔ s.TableAwaited := by
  simp [State.beginDrive]

@[simp] theorem State.takeReading_tableAwaited (o : Operation) (cs : Nat) : (s.takeReading o cs).TableAwaited ↔ s.TableAwaited := by
  simp only [State.takeReading]
  repeat' split
  all_goals simp

@[simp] theorem State.coilTaken_tableAwaited (cs : Nat) : (s.coilTaken cs).TableAwaited ↔ s.TableAwaited := by
  simp only [State.coilTaken]
  repeat' split
  all_goals simp

@[simp] theorem State.endDrive_tableAwaited : s.endDrive.TableAwaited ↔ s.TableAwaited := by
  simp only [State.endDrive]
  repeat' split
  all_goals simp

@[simp] theorem State.opMatched_tableAwaited (d : OpDirection) : (s.opMatched d).TableAwaited ↔ s.TableAwaited := by
  simp only [State.opMatched]
  repeat' split
  all_goals simp

@[simp] theorem State.opFailed_tableAwaited (o : Operation) : (s.opFailed o).TableAwaited ↔ s.TableAwaited := by
  simp only [State.opFailed]
  repeat' split
  all_goals simp

@[simp] theorem State.retryOp_tableAwaited (o : Operation) : (s.retryOp o).TableAwaited ↔ s.TableAwaited := by
  simp [State.retryOp]

@[simp] theorem State.compareSettled_tableAwaited (o : Operation) : (s.compareSettled o).TableAwaited ↔ s.TableAwaited := by
  simp only [State.compareSettled]
  repeat' split
  all_goals simp

@[simp] theorem State.endSettle_tableAwaited : s.endSettle.TableAwaited ↔ s.TableAwaited := by
  simp only [State.endSettle]
  repeat' split
  all_goals simp

@[simp] theorem State.trip_tableAwaited (billed : Nat) : (s.trip billed).TableAwaited ↔ s.TableAwaited := by
  simp only [State.trip]
  repeat' split
  all_goals simp

@[simp] theorem State.testLimit_tableAwaited (billed : Nat) : (s.testLimit billed).TableAwaited ↔ s.TableAwaited := by
  simp only [State.testLimit]
  repeat' split
  all_goals simp

@[simp] theorem State.backoffSecond_tableAwaited : s.backoffSecond.TableAwaited ↔ s.TableAwaited := by
  simp only [State.backoffSecond]
  repeat' split
  all_goals simp

@[simp] theorem State.stuckRetryTime_tableAwaited : s.stuckRetryTime.TableAwaited ↔ s.TableAwaited := by
  simp only [State.stuckRetryTime]
  repeat' split
  all_goals simp

@[simp] theorem State.stuckSecond_tableAwaited : s.stuckSecond.TableAwaited ↔ s.TableAwaited := by
  simp only [State.stuckSecond]
  repeat' split
  all_goals simp

@[simp] theorem State.switchTick_tableAwaited : s.switchTick.TableAwaited ↔ s.TableAwaited := by
  simp only [State.switchTick]
  repeat' split
  all_goals simp

@[simp] theorem State.consentClosing_tableAwaited : s.consentClosing.TableAwaited ↔ s.TableAwaited := by
  simp only [State.consentClosing]
  repeat' split
  all_goals simp

@[simp] theorem State.takeConsent_tableAwaited (order : OrderId) : (s.takeConsent order).TableAwaited ↔ s.TableAwaited := by
  simp only [State.takeConsent]
  repeat' split
  all_goals simp

@[simp] theorem State.disconnectReply_tableAwaited (order : OrderId) : (s.disconnectReply order).TableAwaited ↔ s.TableAwaited := by
  simp only [State.disconnectReply]
  repeat' split
  all_goals simp

@[simp] theorem State.takeDisconnect_tableAwaited (order : OrderId) : (s.takeDisconnect order).TableAwaited ↔ s.TableAwaited := by
  simp only [State.takeDisconnect]
  repeat' split
  all_goals simp

@[simp] theorem State.takePermit_tableAwaited (order : OrderId) : (s.takePermit order).TableAwaited ↔ s.TableAwaited := by
  simp [State.takePermit]

@[simp] theorem State.takeLimit_tableAwaited (watts : Nat) : (s.takeLimit watts).TableAwaited ↔ s.TableAwaited := by
  simp [State.takeLimit]

@[simp] theorem State.resense_tableAwaited : s.resense.TableAwaited ↔ s.TableAwaited := by
  simp only [State.resense]
  repeat' split
  all_goals simp

@[simp] theorem State.handleEntry_tableAwaited (wr : Writer) (e : Entry) : (s.handleEntry wr e).TableAwaited ↔ s.TableAwaited := by
  simp only [State.handleEntry]
  repeat' split
  all_goals simp

@[simp] theorem State.finishEntry_tableAwaited : s.finishEntry.TableAwaited ↔ s.TableAwaited := by
  simp [State.finishEntry]

@[simp] theorem State.writeEntryAccess_tableAwaited (wr : Writer) (bytes : List Byte) (granted : Nat) :
    (s.writeEntryAccess wr bytes granted).TableAwaited ↔ s.TableAwaited := by
  simp only [State.writeEntryAccess]
  repeat' split
  all_goals simp

@[simp] theorem State.journalAccess_tableAwaited : s.journalAccess.TableAwaited ↔ s.TableAwaited := by
  simp only [State.journalAccess]
  repeat' split
  all_goals simp

@[simp] theorem State.beginPublication_tableAwaited : s.beginPublication.TableAwaited ↔ s.TableAwaited := by
  simp [State.beginPublication]

@[simp] theorem State.tryPublish_tableAwaited : s.tryPublish.TableAwaited ↔ s.TableAwaited := by
  simp only [State.tryPublish]
  repeat' split
  all_goals simp

@[simp] theorem State.publicationDue_tableAwaited : s.publicationDue.TableAwaited ↔ s.TableAwaited := by
  simp only [State.publicationDue]
  repeat' split
  all_goals simp

@[simp] theorem State.countBlock_tableAwaited : s.countBlock.TableAwaited ↔ s.TableAwaited := by
  simp only [State.countBlock]
  repeat' split
  all_goals simp

@[simp] theorem State.mirrorFreed_tableAwaited : s.mirrorFreed.TableAwaited ↔ s.TableAwaited := by
  simp only [State.mirrorFreed]
  repeat' split
  all_goals simp

@[simp] theorem State.endPublication_tableAwaited : s.endPublication.TableAwaited ↔ s.TableAwaited := by
  simp only [State.endPublication]
  repeat' split
  all_goals simp

@[simp] theorem State.publisherAccess_tableAwaited : s.publisherAccess.TableAwaited ↔ s.TableAwaited := by
  simp only [State.publisherAccess]
  repeat' split
  all_goals simp

@[simp] theorem State.postSlot_tableAwaited (n : Fin 8) : (s.postSlot n).TableAwaited ↔ s.TableAwaited := by
  simp only [State.postSlot]
  repeat' split
  all_goals simp

@[simp] theorem State.withdrawSlot_tableAwaited (n : Fin 8) : (s.withdrawSlot n).TableAwaited ↔ s.TableAwaited := by
  simp only [State.withdrawSlot]
  repeat' split
  all_goals simp

@[simp] theorem State.releaseSlot_tableAwaited (n : Fin 8) : (s.releaseSlot n).TableAwaited ↔ s.TableAwaited := by
  simp only [State.releaseSlot]
  repeat' split
  all_goals simp

@[simp] theorem State.completeItself_tableAwaited (o : CurrentOrder) (code : ResultCode) :
    (s.completeItself o code).TableAwaited ↔ s.TableAwaited := by
  simp [State.completeItself]

@[simp] theorem State.handOver_tableAwaited (o : CurrentOrder) (c : Instr) :
    (s.handOver o c).TableAwaited ↔ s.TableAwaited ∨ ∃ f, c = .newTableArrival f := by
  simp [State.handOver]

@[simp] theorem State.takeStage_tableAwaited (o : CurrentOrder) : (s.takeStage o).TableAwaited ↔ s.TableAwaited := by
  simp only [State.takeStage]
  repeat' split
  all_goals simp

theorem orderCommand_ne {order : OrderId} {bytes : List Byte} {c : Instr} (h : orderCommand order bytes = some c) (f : Option Bool) :
    c ≠ .newTableArrival f := by
  rintro rfl
  unfold orderCommand at h
  split at h <;> simp at h

@[simp] theorem State.dispatch_tableAwaited (o : CurrentOrder) : (s.dispatch o).TableAwaited ↔ s.TableAwaited := by
  simp only [State.dispatch]
  repeat' split
  · simp
  · simp
  · next h => simp [orderCommand_ne h]

@[simp] theorem State.stagingDone_tableAwaited (image : List Byte) : (s.stagingDone image).TableAwaited ↔ s.TableAwaited := by
  simp only [State.stagingDone]
  repeat' split
  all_goals simp

@[simp] theorem State.drained_tableAwaited : s.drained.TableAwaited ↔ s.TableAwaited := by
  simp only [State.drained]
  repeat' split
  all_goals simp

@[simp] theorem State.copyAccess_tableAwaited (n : Fin 8) : (s.copyAccess n).TableAwaited ↔ s.TableAwaited := by
  simp only [State.copyAccess]
  repeat' split
  all_goals simp

@[simp] theorem State.stagingAccess_tableAwaited : s.stagingAccess.TableAwaited ↔ s.TableAwaited := by
  simp only [State.stagingAccess]
  repeat' split
  all_goals simp

@[simp] theorem State.completeAnswer_tableAwaited (n : Fin 8) : (s.completeAnswer n).TableAwaited ↔ s.TableAwaited := by
  simp [State.completeAnswer]

@[simp] theorem State.answerAccess_tableAwaited (n : Fin 8) (code : ResultCode) (data : ResultData) :
    (s.answerAccess n code data).TableAwaited ↔ s.TableAwaited := by
  simp only [State.answerAccess]
  repeat' split
  all_goals simp

@[simp] theorem State.stateAccess_tableAwaited (n : Fin 8) : (s.stateAccess n).TableAwaited ↔ s.TableAwaited := by
  simp [State.stateAccess]

@[simp] theorem State.engineAccess_tableAwaited : s.engineAccess.TableAwaited ↔ s.TableAwaited := by
  simp only [State.engineAccess]
  repeat' split
  all_goals simp

@[simp] theorem State.grant_tableAwaited : s.grant.TableAwaited ↔ s.TableAwaited := by
  simp only [State.grant]
  repeat' split
  all_goals simp

@[simp] theorem State.requestLink_tableAwaited (a : LinkAccess) : (s.requestLink a).TableAwaited ↔ s.TableAwaited := by
  simp [State.requestLink]

@[simp] theorem State.linkGive_tableAwaited (m : Semaphore) : (s.linkGive m).TableAwaited ↔ s.TableAwaited := by
  simp only [State.linkGive]
  repeat' split
  all_goals simp

@[simp] theorem State.writeSemaphore_tableAwaited (m : Semaphore) (v : Byte) : (s.writeSemaphore m v).TableAwaited ↔ s.TableAwaited := by
  simp only [State.writeSemaphore]
  repeat' split
  all_goals simp

@[simp] theorem State.sendActions_tableAwaited (v : Byte) (action : Fin 8 → Instr) (h : ∀ n f, action n ≠ .newTableArrival f) :
    (s.sendActions v action).TableAwaited ↔ s.TableAwaited := by
  unfold State.sendActions
  induction List.finRange 8 generalizing s with
  | nil => rfl
  | cons n ns ih =>
    rw [List.foldl_cons, ih]
    split
    · simp [h n]
    · rfl

@[simp] theorem State.writeRegister_tableAwaited (a : Nat) (v : Byte) : (s.writeRegister a v).TableAwaited ↔ s.TableAwaited := by
  simp only [State.writeRegister]
  repeat' split
  all_goals simp

@[simp] theorem State.readMemoryByte_tableAwaited (f : Frame) : (s.readMemoryByte f).TableAwaited ↔ s.TableAwaited := by
  simp only [State.readMemoryByte]
  repeat' split
  all_goals simp

@[simp] theorem State.readByte_tableAwaited (f : Frame) : (s.readByte f).TableAwaited ↔ s.TableAwaited := by
  simp only [State.readByte]
  repeat' split
  all_goals simp

@[simp] theorem State.applyBytes_tableAwaited (cells : List Host.Cell) : (s.applyBytes cells).TableAwaited ↔ s.TableAwaited := by
  simp only [State.applyBytes]
  repeat' split
  all_goals simp

@[simp] theorem State.applyGathered_tableAwaited : s.applyGathered.TableAwaited ↔ s.TableAwaited := by
  simp only [State.applyGathered]
  repeat' split
  all_goals simp

@[simp] theorem State.writeByte_tableAwaited (f : Frame) (v : Byte) : (s.writeByte f v).TableAwaited ↔ s.TableAwaited := by
  simp only [State.writeByte]
  repeat' split
  all_goals simp

@[simp] theorem State.endFrame_tableAwaited : s.endFrame.TableAwaited ↔ s.TableAwaited := by
  simp [State.endFrame]

@[simp] theorem State.endSegment_tableAwaited (last : Bool) : (s.endSegment last).TableAwaited ↔ s.TableAwaited := by
  simp only [State.endSegment]
  repeat' split
  all_goals simp

@[simp] theorem State.readBytes_tableAwaited (n : Nat) : ∀ s : State, (State.readBytes n s).TableAwaited ↔ s.TableAwaited := by
  induction n with
  | zero => exact fun s => Iff.rfl
  | succ n ih =>
    intro s
    simp only [State.readBytes]
    split <;> simp [ih]

@[simp] theorem State.readFrame_tableAwaited (walk : Walk) (g : ReadSegment) : (s.readFrame walk g).TableAwaited ↔ s.TableAwaited := by
  simp only [State.readFrame]
  repeat' split
  all_goals simp

@[simp] theorem State.writeBytes_tableAwaited (vs : List Byte) :
    ∀ s : State, (State.writeBytes vs s).TableAwaited ↔ s.TableAwaited := by
  induction vs with
  | nil => exact fun s => Iff.rfl
  | cons v vs ih =>
    intro s
    simp only [State.writeBytes]
    split <;> simp [ih]

@[simp] theorem State.writeFrame_tableAwaited (walk : Walk) (g : WriteSegment) : (s.writeFrame walk g).TableAwaited ↔ s.TableAwaited := by
  simp only [State.writeFrame]
  repeat' split
  all_goals simp

@[simp] theorem State.resetLink_tableAwaited : s.resetLink.TableAwaited ↔ s.TableAwaited := by
  simp only [State.resetLink]
  repeat' split
  all_goals simp

@[simp] theorem State.openLink_tableAwaited : s.openLink.TableAwaited ↔ s.TableAwaited := by
  simp only [State.openLink]
  repeat' split
  all_goals simp

@[simp] theorem State.tryOpen_tableAwaited : s.tryOpen.TableAwaited ↔ s.TableAwaited := by
  simp only [State.tryOpen]
  repeat' split
  all_goals simp

@[simp] theorem State.deliver_tableAwaited (r : BlockResult) : (s.deliver r).TableAwaited ↔ s.TableAwaited := by
  simp [State.deliver]

@[simp] theorem State.recordBlock_tableAwaited (b : Energy × BlockResult) : (s.recordBlock b).TableAwaited ↔ s.TableAwaited := by
  simp [State.recordBlock]

@[simp] theorem State.completeBlock_tableAwaited (sL sN : Int) (sV : Nat) : (s.completeBlock sL sN sV).TableAwaited ↔ s.TableAwaited := by
  simp only [State.completeBlock]
  repeat' split
  all_goals simp

@[simp] theorem State.reevaluateTamper_tableAwaited (resend : Bool) : (s.reevaluateTamper resend).TableAwaited ↔ s.TableAwaited := by
  simp only [State.reevaluateTamper]
  repeat' split
  all_goals simp

@[simp] theorem State.perform_tableAwaited (mask : Nat) (time : Nat) (e : Event) :
    (s.perform mask time e).TableAwaited ↔ s.TableAwaited := by
  simp only [State.perform]
  repeat' split
  all_goals simp

@[simp] theorem State.recordOccurrence_tableAwaited (i : Source) : (s.recordOccurrence i).TableAwaited ↔ s.TableAwaited := by
  simp only [State.recordOccurrence]
  repeat' split
  all_goals simp

@[simp] theorem State.occur_tableAwaited (i : Source) : (s.occur i).TableAwaited ↔ s.TableAwaited := by
  simp only [State.occur]
  repeat' split
  all_goals simp

@[simp] theorem State.qualify_tableAwaited (i : Source) : (s.qualify i).TableAwaited ↔ s.TableAwaited := by
  simp only [State.qualify]
  repeat' split
  all_goals simp

@[simp] theorem State.withdrawInjection_tableAwaited : s.withdrawInjection.TableAwaited ↔ s.TableAwaited := by
  simp only [State.withdrawInjection]
  repeat' split
  all_goals simp

@[simp] theorem State.testOccurrence_tableAwaited (j : Injection) : (s.testOccurrence j).TableAwaited ↔ s.TableAwaited := by
  simp [State.testOccurrence]

@[simp] theorem State.inject_tableAwaited (order : OrderId) (i : Source) : (s.inject order i).TableAwaited ↔ s.TableAwaited := by
  simp [State.inject]

@[simp] theorem State.selfTest_tableAwaited (order : OrderId) (target : Nat) :
    (s.selfTest order target).TableAwaited ↔ s.TableAwaited := by
  simp only [State.selfTest]
  repeat' split
  all_goals simp

@[simp] theorem State.forcedExpiry_tableAwaited : s.forcedExpiry.TableAwaited ↔ s.TableAwaited := by
  simp only [State.forcedExpiry]
  repeat' split
  all_goals simp

@[simp] theorem State.deadlineExpiry_tableAwaited : s.deadlineExpiry.TableAwaited ↔ s.TableAwaited := by
  simp only [State.deadlineExpiry]
  repeat' split
  all_goals simp

@[simp] theorem State.lineExpiry_tableAwaited (l : Line) : (s.lineExpiry l).TableAwaited ↔ s.TableAwaited := by
  simp only [State.lineExpiry]
  repeat' split
  all_goals simp

@[simp] theorem State.forcedMagnetSecond_tableAwaited : s.forcedMagnetSecond.TableAwaited ↔ s.TableAwaited := by
  simp only [State.forcedMagnetSecond]
  repeat' split
  all_goals simp

@[simp] theorem State.magnetSecond_tableAwaited : s.magnetSecond.TableAwaited ↔ s.TableAwaited := by
  simp only [State.magnetSecond]
  repeat' split
  all_goals simp

@[simp] theorem State.tamperSecond_tableAwaited : s.tamperSecond.TableAwaited ↔ s.TableAwaited := by
  simp [State.tamperSecond]

@[simp] theorem State.compareReport_tableAwaited (i : Source) : (s.compareReport i).TableAwaited ↔ s.TableAwaited := by
  simp only [State.compareReport]
  repeat' split
  all_goals simp

@[simp] theorem State.compareReports_tableAwaited : s.compareReports.TableAwaited ↔ s.TableAwaited := by
  simp [State.compareReports]

@[simp] theorem State.blockTest_tableAwaited (r : BlockResult) : (s.blockTest r).TableAwaited ↔ s.TableAwaited := by
  simp only [State.blockTest]
  repeat' split
  all_goals simp

@[simp] theorem State.tamperBlock_tableAwaited (r : BlockResult) : (s.tamperBlock r).TableAwaited ↔ s.TableAwaited := by
  simp [State.tamperBlock]

@[simp] theorem State.conditionsUnqualified_tableAwaited : s.conditionsUnqualified.TableAwaited ↔ s.TableAwaited := by
  simp [State.conditionsUnqualified]

@[simp] theorem State.reoccurOne_tableAwaited (mask : BitVec 6) (i : Source) : (s.reoccurOne mask i).TableAwaited ↔ s.TableAwaited := by
  simp only [State.reoccurOne]
  repeat' split
  all_goals simp

@[simp] theorem State.reoccur_tableAwaited (mask : BitVec 6) : (s.reoccur mask).TableAwaited ↔ s.TableAwaited := by
  unfold State.reoccur
  induction Source.all generalizing s with
  | nil => rfl
  | cons i is ih => rw [List.foldl_cons, ih, State.reoccurOne_tableAwaited]

@[simp] theorem State.clearSources_tableAwaited (byOrder : Bool) (mask : BitVec 6) :
    (s.clearSources byOrder mask).TableAwaited ↔ s.TableAwaited := by
  simp [State.clearSources]

@[simp] theorem State.clearOrder_tableAwaited (order : OrderId) (mask : Byte) :
    (s.clearOrder order mask).TableAwaited ↔ s.TableAwaited := by
  simp only [State.clearOrder]
  repeat' split
  all_goals simp

@[simp] theorem State.tamperHold_tableAwaited : s.tamperHold.TableAwaited ↔ s.TableAwaited := by
  simp only [State.tamperHold]
  repeat' split
  all_goals simp

@[simp] theorem State.standbyActions_tableAwaited : s.standbyActions.TableAwaited ↔ s.TableAwaited := by
  simp only [State.standbyActions]
  repeat' split
  all_goals simp

@[simp] theorem State.tamperWarm_tableAwaited : s.tamperWarm.TableAwaited ↔ s.TableAwaited := by
  simp [State.tamperWarm]

@[simp] theorem State.readCell_tableAwaited (cell : Nat) : (s.readCell cell).TableAwaited ↔ s.TableAwaited := by
  simp only [State.readCell]
  repeat' split
  all_goals simp

@[simp] theorem State.readCellInHold_tableAwaited (cell : Nat) : (s.readCellInHold cell).TableAwaited ↔ s.TableAwaited := by
  simp only [State.readCellInHold]
  repeat' split
  all_goals simp

@[simp] theorem State.handHoldEntry_tableAwaited : s.handHoldEntry.TableAwaited ↔ s.TableAwaited := by
  simp [State.handHoldEntry]

@[simp] theorem State.enterHold_tableAwaited (cell : Nat) : (s.enterHold cell).TableAwaited ↔ s.TableAwaited := by
  simp only [State.enterHold, State.handHoldEntry_tableAwaited, State.readCellInHold_tableAwaited]
  simp [State.TableAwaited, Instr.supervisorStale]

@[simp] theorem State.journalPower_tableAwaited : s.journalPower.TableAwaited ↔ s.TableAwaited := by
  simp [State.journalPower]

@[simp] theorem State.sweepOnDoubt_tableAwaited : s.sweepOnDoubt.TableAwaited ↔ s.TableAwaited := by
  simp only [State.sweepOnDoubt]
  repeat' split
  all_goals simp

@[simp] theorem State.handWarmStart_tableAwaited : s.handWarmStart.TableAwaited ↔ s.TableAwaited := by
  simp [State.handWarmStart]

@[simp] theorem State.enterRun_tableAwaited (cell : Nat) : (s.enterRun cell).TableAwaited ↔ s.TableAwaited := by
  simp [State.enterRun]

@[simp] theorem State.changeVoltage_tableAwaited (u : Nat) : (s.changeVoltage u).TableAwaited ↔ s.TableAwaited := by
  simp [State.changeVoltage]

@[simp] theorem State.judgeVoltage_tableAwaited (u : Nat) : (s.judgeVoltage u).TableAwaited ↔ s.TableAwaited := by
  simp only [State.judgeVoltage]
  repeat' split
  all_goals simp

@[simp] theorem State.changeSag_tableAwaited (u : Nat) : (s.changeSag u).TableAwaited ↔ s.TableAwaited := by
  simp only [State.changeSag]
  repeat' split
  all_goals simp

@[simp] theorem State.judgeSag_tableAwaited (u : Nat) : (s.judgeSag u).TableAwaited ↔ s.TableAwaited := by
  simp only [State.judgeSag]
  repeat' split
  all_goals simp

@[simp] theorem State.judgeBlock_tableAwaited (u : Nat) : (s.judgeBlock u).TableAwaited ↔ s.TableAwaited := by
  simp [State.judgeBlock]

@[simp] theorem State.backupSecond_tableAwaited (cell : Nat) : (s.backupSecond cell).TableAwaited ↔ s.TableAwaited := by
  simp only [State.backupSecond]
  repeat' split
  all_goals simp

@[simp] theorem State.superviseSecond_tableAwaited (coil cell : Nat) : (s.superviseSecond coil cell).TableAwaited ↔ s.TableAwaited := by
  simp [State.superviseSecond]

end Sys2Proof.Machine
end

section
/-! PROOFS. What the commands keep of the Energy Unit's remainders and counts (R6, R16 to R20) and of the Tamper Unit's records (R118,
R126). -/

namespace Sys2Proof.Machine

/-! ### Ranges -/

/-- A qualification counter and its forced count in their ranges. -/
def Qualifier.InRange (q : Qualifier) : Prop := q.count ≤ 255 ∧ q.forcedCount ≤ 255

/-- The Energy Unit's remainders and counts in their ranges. -/
structure Energy.InRange (x : Energy) : Prop where
  line : x.rL < 2 ^ 32
  neutral : x.rN < 2 ^ 32
  imbalance : x.imbalance.InRange
  reverseFlow : x.reverseFlow.InRange
  bypass : x.bypass.InRange

/-- A source record's occurrence count and standby number in their ranges. -/
def SourceRecord.InRange (r : SourceRecord) : Prop := r.count ≤ 255 ∧ ∀ m, r.standby = some m → m.number ≤ 255

/-- Every source record in its ranges. -/
def Tamper.InRange (x : Tamper) : Prop := ∀ i, (x.record i).InRange

theorem Qualifier.InRange.update {q : Qualifier} (h : q.InRange) (raw : Bool) : (q.update raw).InRange := by
  obtain ⟨_, hforced⟩ := h
  unfold Qualifier.InRange Qualifier.update
  dsimp only
  split_ifs <;> omega

theorem Qualifier.InRange.forced {q : Qualifier} (h : q.InRange) (on : Bool) :
    Qualifier.InRange { q with forced := on, forcedCount := 0 } := ⟨h.1, Nat.zero_le _⟩

theorem Energy.InRange.force {x : Energy} (h : x.InRange) (i : Source) (on : Bool) : (x.force i on).InRange := by
  cases i
  case imbalance => exact { h with imbalance := h.imbalance.forced on }
  case reverse => exact { h with reverseFlow := h.reverseFlow.forced on }
  case bypass => exact { h with bypass := h.bypass.forced on }
  all_goals exact h

theorem countChannel_remainder {a : Int} {remainder creep : Nat} (h : remainder < 2 ^ 32) :
    (countChannel a remainder creep).remainder < 2 ^ 32 := by
  unfold countChannel
  split
  · exact h
  · have hlt : (a.natAbs + remainder) % Config.energyUnit < Config.energyUnit := Nat.mod_lt _ (by decide)
    rwa [show (2 : Nat) ^ 32 = Config.energyUnit by norm_num [Config.energyUnit]]

theorem Energy.InRange.metered {s : State} (h : s.energy.InRange) (sL sN : Int) (sV : Nat) : (s.meterBlock sL sN sV).1.InRange := by
  obtain ⟨hline, hneutral, -⟩ := s.meterBlock_fields sL sN _ _ sV _ _ rfl rfl rfl rfl _ rfl
  obtain ⟨qi, qr, qb, hqi, hqr, hqb, hmeter⟩ := s.meterBlock_eq sL sN sV _ _ _ _ _ _ _ rfl rfl rfl rfl rfl rfl rfl
  have himbalance : (s.meterBlock sL sN sV).1.imbalance = qi := by rw [hmeter]
  have hreverse : (s.meterBlock sL sN sV).1.reverseFlow = qr := by rw [hmeter]
  have hbypass : (s.meterBlock sL sN sV).1.bypass = qb := by rw [hmeter]
  exact {
    line := hline.symm ▸ countChannel_remainder h.line
    neutral := hneutral.symm ▸ countChannel_remainder h.neutral
    imbalance := himbalance.symm ▸ hqi.symm ▸ h.imbalance.update _
    reverseFlow := hreverse.symm ▸ hqr.symm ▸ h.reverseFlow.update _
    bypass := hbypass.symm ▸ hqb.symm ▸ h.bypass.update _ }

theorem SourceRecord.InRange.occur {r : SourceRecord} (h : r.InRange) (t : Nat) : (r.occur t).InRange := ⟨Nat.min_le_left _ _, h.2⟩

theorem SourceRecord.InRange.standbyMark {r : SourceRecord} (h : r.InRange) (t : Nat) : (r.standbyMark t).InRange := by
  refine ⟨h.1, fun m hm => ?_⟩
  unfold SourceRecord.standbyMark at hm
  dsimp only at hm
  split at hm
  · exact Option.some.inj hm ▸ (show 1 ≤ 255 by decide)
  · exact Option.some.inj hm ▸ Nat.min_le_left _ _

theorem Tamper.InRange.setRecord {x : Tamper} (h : x.InRange) (i : Source) {r : SourceRecord} (hr : r.InRange) :
    (x.setRecord i r).InRange := fun j => by
  rw [Tamper.record_setRecord]
  split
  · exact hr
  · exact h j

theorem Tamper.InRange.deactivate {x : Tamper} (h : x.InRange) (i : Source) : (x.deactivate i).InRange := h.setRecord i (h i)

theorem Tamper.InRange.clearLatches {x : Tamper} (h : x.InRange) (mask : BitVec 6) : (x.clearLatches mask).InRange := by
  unfold Tamper.clearLatches
  induction Source.all generalizing x with
  | nil => exact h
  | cons i is ih =>
    rw [List.foldl_cons]
    refine ih ?_
    split
    · exact h.setRecord i (h i)
    · exact h

theorem Tamper.setLine_records (x : Tamper) (l : Line) (g : LineStage) : (x.setLine l g).records = x.records := by
  cases l <;> rfl

theorem Tamper.InRange.same {x y : Tamper} (h : x.InRange) (he : y.records = x.records) : y.InRange := fun i => by
  rw [Tamper.record, he]
  exact h i

theorem Tamper.InRange.moveLine {x : Tamper} (h : x.InRange) (l : Line) (tampered : Bool) : (x.moveLine l tampered).InRange := by
  have hset : ∀ g, (x.setLine l g).InRange := fun g => h.same (x.setLine_records l g)
  unfold Tamper.moveLine
  split_ifs
  · exact hset _
  · exact (hset _).deactivate _
  · exact hset _

/-! ### Operations of the Tamper Unit -/

/-- What the Tamper Unit's operations keep. -/
structure TamperKept (s t : State) : Prop where
  records : s.tamper.InRange → t.tamper.InRange
  energy : s.energy.InRange → t.energy.InRange

namespace TamperKept

variable {s t u : State}

theorem refl (s : State) : TamperKept s s := ⟨id, id⟩

theorem trans (h : TamperKept s t) (h' : TamperKept t u) : TamperKept s u := ⟨h'.records ∘ h.records, h'.energy ∘ h.energy⟩

/-- What leaves the records and the Energy Unit as they stand. -/
theorem same (hr : t.tamper.records = s.tamper.records) (he : t.energy = s.energy) : TamperKept s t :=
  ⟨fun h => h.same hr, fun h => he ▸ h⟩

theorem andThen (h : TamperKept s t) (hr : u.tamper.records = t.tamper.records) (he : u.energy = t.energy) : TamperKept s u :=
  h.trans (same hr he)

theorem after (hr : t.tamper.records = s.tamper.records) (he : t.energy = s.energy) (h : TamperKept t u) : TamperKept s u :=
  (same hr he).trans h

theorem onTamper (s : State) (f : Tamper → Tamper) (h : s.tamper.InRange → (f s.tamper).InRange) : TamperKept s (s.onTamper f) :=
  ⟨h, id⟩

theorem reevaluate (s : State) (resend : Bool) : TamperKept s (s.reevaluateTamper resend) := by
  unfold State.reevaluateTamper
  dsimp only
  split
  · exact same rfl rfl
  · exact refl s

theorem perform (s : State) (mask time : Nat) (e : Event) : TamperKept s (s.perform mask time e) :=
  same (by simp) (by simp)

theorem recordOccurrence (s : State) (i : Source) : TamperKept s (s.recordOccurrence i) := by
  have hoccur : TamperKept s (s.onTamper fun x => x.setRecord i ((x.record i).occur s.calendar.t)) :=
    onTamper s _ fun h => h.setRecord i ((h i).occur _)
  unfold State.recordOccurrence
  dsimp only
  split
  · exact hoccur.trans (onTamper _ _ fun h => h.setRecord i ((h i).standbyMark _))
  · exact hoccur.trans (perform _ _ _ _)

theorem occur (s : State) (i : Source) : TamperKept s (s.occur i) := by
  unfold State.occur
  dsimp only
  split
  · exact recordOccurrence s i
  · exact (recordOccurrence s i).trans (reevaluate _ _)

theorem qualify (s : State) (i : Source) : TamperKept s (s.qualify i) := by
  unfold State.qualify
  split
  · exact refl s
  · exact occur s i

theorem withdrawInjection (s : State) : TamperKept s s.withdrawInjection := by
  unfold State.withdrawInjection
  split
  · exact refl s
  · next j _ =>
    have hend : TamperKept s ((s.onTamper fun x => { x with injection := none }).onEnergy fun x => x.force j.target false) :=
      ⟨fun h => h.same rfl, fun h => h.force _ _⟩
    dsimp only
    split_ifs
    · exact hend
    · exact hend.trans (occur _ _)
    · exact hend

theorem testOccurrence (s : State) (j : Injection) : TamperKept s (s.testOccurrence j) :=
  after (t := (s.journal (.tamper j.target true false j.timer 0)).answer j.order .ok
    (.testOk j.target.index.val j.timer s.calendar.t)) rfl rfl (withdrawInjection _)

theorem selfTest (s : State) (order : OrderId) (target : Nat) : TamperKept s (s.selfTest order target) := by
  unfold State.selfTest
  repeat' split
  case h_2.isFalse => exact ⟨fun h => h.same rfl, fun h => h.force _ _⟩
  all_goals exact same rfl rfl

theorem forcedExpiry (s : State) : TamperKept s s.forcedExpiry := by
  unfold State.forcedExpiry
  split
  · exact refl s
  · next j _ =>
    split
    · exact TamperKept.trans (t := s.onTamper fun x => { x with injection := some { j with
        stage := .qualified, timer := j.timer + (Config.lineMs - j.forcedTimer), forcedTimer := Config.lineMs } })
        (same rfl rfl) (testOccurrence _ _)
    · exact refl s

theorem deadlineExpiry (s : State) : TamperKept s s.deadlineExpiry := by
  unfold State.deadlineExpiry
  split
  · exact refl s
  · split
    · exact refl s
    · next j _ _ =>
      exact after (t := s.answer j.order .failed (.testFailed j.target.index.val j.deadline)) rfl rfl (withdrawInjection _)

/-! ### Lines and seconds -/

theorem lineExpiry (s : State) (l : Line) : TamperKept s (s.lineExpiry l) := by
  have hset : ∀ g, TamperKept s (s.onTamper fun x => x.setLine l g) := fun g => same (Tamper.setLine_records _ _ _) rfl
  unfold State.lineExpiry
  split
  · exact (hset _).trans (qualify _ _)
  · exact refl s

theorem magnetSecond (s : State) : TamperKept s s.magnetSecond := by
  have hline : ∀ g, TamperKept s (s.onTamper fun x => { x with magnetLine := g }) := fun g => same rfl rfl
  unfold State.magnetSecond
  split_ifs
  · exact hline _
  · exact (hline _).trans (qualify _ _)
  · exact refl s

theorem forcedMagnetSecond (s : State) : TamperKept s s.forcedMagnetSecond := by
  have hstage : ∀ j, TamperKept s (s.onTamper fun x => { x with injection := some j }) := fun j => same rfl rfl
  unfold State.forcedMagnetSecond
  split
  · exact refl s
  · split_ifs
    · exact hstage _
    · exact (hstage _).trans (testOccurrence _ _)
    · exact refl s

theorem tamperSecond (s : State) : TamperKept s s.tamperSecond := (magnetSecond s).trans (forcedMagnetSecond _)

/-! ### Block results -/

theorem compareReport (s : State) (i : Source) : TamperKept s (s.compareReport i) := by
  unfold State.compareReport
  split_ifs
  · exact refl s
  · exact qualify s i
  · exact onTamper s _ fun h => h.deactivate i
  · exact refl s

theorem compareReports (s : State) : TamperKept s s.compareReports :=
  ((compareReport s .imbalance).trans (compareReport _ .reverse)).trans (compareReport _ .bypass)

theorem tamperBlock (s : State) (r : BlockResult) : TamperKept s (s.tamperBlock r) := by
  have htest : TamperKept s (s.blockTest r) := by
    unfold State.blockTest
    split
    · exact refl s
    · split
      · exact testOccurrence s _
      · exact refl s
  exact (htest.trans (onTamper _ _ fun h => h.same rfl)).trans (compareReports _)

theorem conditionsUnqualified (s : State) : TamperKept s s.conditionsUnqualified :=
  TamperKept.trans (onTamper s _ fun h => h.same rfl) (compareReports _)

/-! ### Clearing -/

theorem reoccur (s : State) (mask : BitVec 6) : TamperKept s (s.reoccur mask) := by
  unfold State.reoccur
  induction Source.all generalizing s with
  | nil => exact refl s
  | cons i is ih =>
    rw [List.foldl_cons]
    refine TamperKept.trans ?_ (ih _)
    unfold State.reoccurOne
    split
    · exact recordOccurrence s i
    · exact refl s

theorem clearSources (s : State) (byOrder : Bool) (mask : BitVec 6) : TamperKept s (s.clearSources byOrder mask) :=
  have hclear : TamperKept s (s.onTamper fun x => x.clearLatches mask) := onTamper s _ fun h => h.clearLatches mask
  ((hclear.andThen (u := (s.onTamper fun x => x.clearLatches mask).journal (.tamperCleared byOrder mask (s.tamper.latches &&& mask)))
    rfl rfl).trans (reoccur _ mask)).trans (reevaluate _ false)

theorem clearOrder (s : State) (order : OrderId) (mask : Byte) : TamperKept s (s.clearOrder order mask) := by
  unfold State.clearOrder
  split_ifs
  · exact same rfl rfl
  · exact same rfl rfl
  · exact (clearSources s true _).andThen rfl rfl

/-! ### HOLD and the warm start -/

theorem tamperHold (s : State) : TamperKept s s.tamperHold := by
  have hrest : TamperKept s (s.onTamper Tamper.restLines) := onTamper s _ fun h =>
    (Tamper.InRange.deactivate (x := { s.tamper with terminalLine := ⟨.normal, 0⟩, magnetLine := ⟨.normal, 0⟩, hold := true })
      h .terminal).deactivate .magnet
  unfold State.tamperHold
  dsimp only
  split
  · exact hrest.trans (occur _ _)
  · exact hrest

theorem standbyActions (s : State) : TamperKept s s.standbyActions := by
  unfold State.standbyActions
  split
  · exact refl s
  · exact (perform s _ _ _).trans (onTamper _ _ fun h => h.setRecord .case ⟨(h .case).1, fun m hm => absurd hm (by simp)⟩)

theorem tamperWarm (s : State) : TamperKept s s.tamperWarm := by
  have hrun : TamperKept s (s.onTamper fun x => { x with hold := false }) := same rfl rfl
  exact ((((hrun.trans (standbyActions _)).trans (withdrawInjection _)).trans (reevaluate _ true))).andThen rfl rfl

end TamperKept

/-! ### Commands -/

theorem exec_energyKept {c : Instr} (hcold : ∀ n, c ≠ .coldStart n) (hloss : c ≠ .retentionLoss) (s : State) :
    Ends (TamperKept s) (exec c s) := by
  have htook : ∀ d, TamperKept s (s.took d) := fun d => TamperKept.same rfl rfl
  have hsecond : ∀ d, TamperKept s (s.took d).tamperSecond := fun d => (htook d).trans (TamperKept.tamperSecond _)
  by_cases hx : .energy ∈ Instr.changes c ∨ .tamper ∈ Instr.changes c
  case neg =>
    obtain ⟨henergy, htamper⟩ := not_or.mp hx
    obtain ⟨t, ht, hkept⟩ := exec_keptBut c s
    exact ⟨t, ht, TamperKept.same (congrArg Tamper.records (hkept.tamper htamper)) (hkept.energy henergy)⟩
  cases c <;> simp only [Instr.changes, PartUnit.granted, List.mem_cons, List.not_mem_nil, reduceCtorEq, or_false, or_true,
    or_self] at hx
  case coldStart n => exact absurd rfl (hcold n)
  case retentionLoss => exact absurd rfl hloss
  case blockCompletion sL sN sV =>
    refine Ends.ite ⟨_, rfl, ?_⟩ ⟨_, rfl, TamperKept.refl s⟩
    unfold State.completeBlock
    split
    · exact ⟨id, fun h => { h with }⟩
    · refine ⟨fun h => h.same (by simp), fun h => ?_⟩
      rw [State.recordBlock_energy]
      exact h.metered sL sN sV
  case calibrationWriteNews channel =>
    have hpos : 0 < 2 ^ 32 := Nat.two_pow_pos 32
    cases channel
    · exact ⟨_, rfl, TamperKept.andThen (t := (s.took (.calibrationWriteNews .line)).onEnergy fun x => { x with rL := 0 })
        ⟨id, fun h => { h with line := hpos }⟩ (by simp) (by simp)⟩
    · exact ⟨_, rfl, TamperKept.andThen (t := (s.took (.calibrationWriteNews .neutral)).onEnergy fun x => { x with rN := 0 })
        ⟨id, fun h => { h with neutral := hpos }⟩ (by simp) (by simp)⟩
  case energyHoldEntry =>
    exact ⟨_, rfl, id, fun h => { h with
      imbalance := ⟨Nat.zero_le _, h.imbalance.2⟩
      reverseFlow := ⟨Nat.zero_le _, h.reverseFlow.2⟩
      bypass := ⟨Nat.zero_le _, h.bypass.2⟩ }⟩
  case energyWarmStart => exact ⟨_, rfl, id, fun h => { h with }⟩
  case conditionsUnqualifiedNews => exact ⟨_, rfl, (htook _).trans (TamperKept.conditionsUnqualified _)⟩
  case lineChange line tampered =>
    have hpin : TamperKept s (s.onPins fun p => p.setLine line tampered) := TamperKept.same rfl rfl
    refine ⟨_, rfl, ?_⟩
    split
    · exact hpin.trans (TamperKept.onTamper _ _ fun h => h.moveLine line tampered)
    · exact hpin
  case qualificationTimerExpiry line => exact ⟨_, rfl, TamperKept.lineExpiry s line⟩
  case tamperSecond =>
    refine ⟨_, rfl, ?_⟩
    split
    · exact htook _
    · exact hsecond _
  case magnetCountReached => exact Ends.ite ⟨_, rfl, hsecond _⟩ ⟨_, rfl, TamperKept.refl s⟩
  case tamperBlockResult r =>
    refine ⟨_, rfl, ?_⟩
    split
    · exact htook _
    · exact (htook _).trans (TamperKept.tamperBlock _ r)
  case clearRequest mask =>
    exact ⟨_, rfl, ((htook (.clearRequest mask)).trans (TamperKept.clearSources _ false mask)).andThen (by simp) (by simp)⟩
  case clearTamper order mask => exact ⟨_, rfl, (htook _).trans (TamperKept.clearOrder _ order mask)⟩
  case actionMaskNews => exact ⟨_, rfl, ((htook .actionMaskNews).trans (TamperKept.reevaluate _ false)).andThen (by simp) (by simp)⟩
  case serviceStateNewsTamper =>
    exact ⟨_, rfl, ((htook .serviceStateNewsTamper).trans (TamperKept.reevaluate _ false)).andThen (by simp) (by simp)⟩
  case tamperHoldEntry =>
    exact ⟨_, rfl, TamperKept.after (t := (s.dropStale .tamperHoldEntry Instr.tamperStale).took .tamperHoldEntry) rfl rfl
      (TamperKept.tamperHold _)⟩
  case tamperWarmStart => exact ⟨_, rfl, (htook _).trans (TamperKept.tamperWarm _)⟩
  case selfTest order target => exact ⟨_, rfl, (htook _).trans (TamperKept.selfTest _ order _)⟩
  case forcedTimerExpiry => exact ⟨_, rfl, TamperKept.forcedExpiry s⟩
  case injectionDeadline => exact ⟨_, rfl, TamperKept.deadlineExpiry s⟩
  case tamperLinkReset => exact ⟨_, rfl, (htook _).trans (TamperKept.withdrawInjection _)⟩
  case integrityTestRequest =>
    refine Ends.ite ⟨_, rfl, (htook .integrityTestRequest).trans ?_⟩ ⟨_, rfl, TamperKept.refl s⟩
    unfold State.testSweep
    dsimp only
    split
    · exact TamperKept.same (by simp) (by simp)
    · exact TamperKept.same (by simp [State.onTamper]) (by simp)

end Sys2Proof.Machine
end

section
/-! PROOFS. The ranges of the Settings Unit (R151, R153, R161). -/

namespace Sys2Proof.Machine

/-- The settings and the sweep count in their ranges. -/
structure Settings.InRange (x : Settings) : Prop where
  sweepCount : x.sweepCount ≤ 59
  values : ∀ i : SettingId, i.row.low ≤ x.values[i.index] ∧ x.values[i.index] ≤ i.row.high

theorem SettingId.index_inj {i j : SettingId} (h : i.index = j.index) : i = j := by
  have hi := SettingId.ofId_id i
  rw [h] at hi
  exact Option.some.inj (hi.symm.trans (SettingId.ofId_id j))

theorem SettingRow.clamp_inRange {r : SettingRow} (h : r.low ≤ r.high) (v : Nat) :
    r.low ≤ SettingRow.clamp r v ∧ SettingRow.clamp r v ≤ r.high := by
  rw [SettingRow.clamp_eq h]
  omega

/-- What a setting reads after a store. -/
theorem Settings.stored_value (x : Settings) (i j : SettingId) (v : Nat) :
    (x.stored i v).values[j.index] = if j = i then v else x.values[j.index] := by
  show (x.values.set i.index v)[j.index] = _
  split
  · next h => rw [h, Fin.getElem_fin, Vector.getElem_set_self]
  · next h =>
    have hne : i.index.val ≠ j.index.val := fun he => h (SettingId.index_inj (Fin.ext he)).symm
    rw [Fin.getElem_fin, Vector.getElem_set_ne _ _ hne]
    rfl

namespace Settings.InRange

variable {x y : Settings} {s : State}

theorem same (h : x.InRange) (hv : y.values = x.values) (hs : y.sweepCount = x.sweepCount) : y.InRange :=
  ⟨hs ▸ h.sweepCount, hv ▸ h.values⟩

/-- A write stores a clamped value (R153). -/
theorem stored (h : x.InRange) (i : SettingId) (v : Nat) : (x.stored i (SettingRow.clamp i.row v)).InRange := by
  refine ⟨h.sweepCount, fun j => ?_⟩
  rw [Settings.stored_value]
  split
  · next hij => exact hij ▸ SettingRow.clamp_inRange (SettingId.low_le_high j) v
  · exact h.values j

theorem sweep (h : s.settings.InRange) (k : SweepKind) : (s.sweep k).settings.InRange := by
  obtain ⟨fault, hfault⟩ := s.sweep_settings k
  rw [hfault]
  exact h.same rfl rfl

theorem testSweep (h : s.settings.InRange) : s.testSweep.settings.InRange := by
  have hentered : s.testEntered.settings.InRange :=
    ((h.same (y := s.testMarked.settings) rfl rfl).sweep (s := s.testMarked) .test).same rfl rfl
  rw [State.testSweep_eq]
  split
  · exact hentered
  · exact hentered

theorem finishWrite (h : s.settings.InRange) (order : OrderId) (i : SettingId) (clamped : Bool) (applied : Nat) :
    (s.finishWrite order i clamped applied).settings.InRange :=
  (h.same (y := s.freed.settings) rfl rfl).sweep (s := s.freed) .afterWrite

theorem writeNewsTaken (h : s.settings.InRange) (n : Neighbour) : (s.writeNewsTaken n).settings.InRange := by
  unfold State.writeNewsTaken
  split
  · split
    · exact h.finishWrite _ _ _ _
    · exact h
  · exact h

theorem finishService (h : s.settings.InRange) (order : Option OrderId) : (s.finishService order).settings.InRange := by
  unfold State.finishService
  split
  · exact h.same rfl rfl
  · simp only [State.codeAccepted_frame]
    exact h.same rfl rfl

theorem serviceNewsTaken (h : s.settings.InRange) (credit : Bool) : (s.serviceNewsTaken credit).settings.InRange := by
  unfold State.serviceNewsTaken
  split
  · dsimp only
    split
    · exact h.same rfl rfl
    · exact h.finishService _
  · exact h

theorem writeTo (h : s.settings.InRange) (order : OrderId) (i : SettingId) (v : Nat) : (s.writeTo order i v).settings.InRange := by
  have hstored : (s.onSettings fun y => y.stored i (SettingRow.clamp i.row v)).settings.InRange := h.stored i v
  unfold State.writeTo
  dsimp only
  split
  · exact hstored.finishWrite _ _ _ _
  · exact hstored.same rfl rfl

theorem writeSetting (h : s.settings.InRange) (order : OrderId) (id : Byte) (value : BitVec 64) :
    (s.writeSetting order id value).settings.InRange := by
  unfold State.writeSetting
  split_ifs
  · exact h
  · split
    · exact h
    · exact h.writeTo _ _ _

theorem enterService (h : s.settings.InRange) (order : OrderId) : (s.enterService order).settings.InRange := by
  unfold State.enterService
  split
  · exact h
  · exact h.same rfl rfl

theorem settingsSecond (h : s.settings.InRange) : s.settingsSecond.settings.InRange := by
  unfold State.settingsSecond
  split
  · next hlt => exact ⟨Nat.le_of_lt_succ hlt, h.values⟩
  · have hzero : (s.onSettings fun x => { x with sweepCount := 0 }).settings.InRange := ⟨Nat.zero_le _, h.values⟩
    exact hzero.sweep _

end Settings.InRange

/-- Every command but a cold start and a loss of retention keeps the settings and the sweep count in their ranges. -/
theorem exec_settingsInRange {c : Instr} (hcold : ∀ n, c ≠ .coldStart n) (hloss : c ≠ .retentionLoss) {s : State}
    (hs : s.settings.InRange) : Ends (fun t => t.settings.InRange) (exec c s) := by
  have htook : ∀ d, (s.took d).settings.InRange := fun _ => hs
  by_cases hx : .settings ∈ Instr.changes c
  case neg =>
    obtain ⟨t, ht, hkept⟩ := exec_keptBut c s
    exact ⟨t, ht, show t.settings.InRange from (hkept.settings hx).symm ▸ hs⟩
  cases c <;> simp only [Instr.changes, PartUnit.granted, List.mem_cons, List.not_mem_nil, reduceCtorEq, or_false, or_self] at hx
  case coldStart n => exact absurd rfl (hcold n)
  case retentionLoss => exact absurd rfl hloss
  case calibrationWriteNews channel =>
    exact ⟨_, rfl, Settings.InRange.writeNewsTaken (s := (s.took (.calibrationWriteNews channel)).onEnergy _) hs .energy⟩
  case serviceStateNewsCredit st =>
    have hview : (((s.took (.serviceStateNewsCredit st)).onCredit fun x => { x with serviceView := st }).reevaluateCredit
        false).settings.InRange := by simpa using hs
    exact ⟨_, rfl, hview.serviceNewsTaken true⟩
  case keyWriteNews =>
    show Ends _ (if s.code.evaluation.isSome then _ else _)
    refine Ends.ite ⟨_, rfl, hs⟩ ⟨_, rfl, ?_⟩
    exact Settings.InRange.writeNewsTaken (s := (s.took .keyWriteNews).onCode _) hs .code
  case actionMaskNews =>
    have hreason : ((s.took .actionMaskNews).reevaluateTamper false).settings.InRange := by simpa using hs
    exact ⟨_, rfl, hreason.writeNewsTaken .tamper⟩
  case serviceStateNewsTamper =>
    have hreason : ((s.took .serviceStateNewsTamper).reevaluateTamper false).settings.InRange := by simpa using hs
    exact ⟨_, rfl, hreason.serviceNewsTaken false⟩
  case writeSetting order id value => exact Ends.ite ⟨_, rfl, (htook _).writeSetting order id value⟩ ⟨_, rfl, hs⟩
  case enterService order =>
    refine Ends.ite ⟨_, rfl, ?_⟩ ⟨_, rfl, hs⟩
    split
    · exact (htook _).enterService order
    · exact hs
  case releaseRequest => exact Ends.ite ⟨_, rfl, hs.same rfl rfl⟩ ⟨_, rfl, hs⟩
  case settingsSecond => exact Ends.ite ⟨_, rfl, (htook _).settingsSecond⟩ ⟨_, rfl, hs⟩
  case periodicSweep => exact Ends.ite ⟨_, rfl, (htook _).settingsSecond⟩ ⟨_, rfl, hs⟩
  case warmStartSweep => exact Ends.ite ⟨_, rfl, (htook _).sweep _⟩ ⟨_, rfl, hs⟩
  case integrityTestRequest => exact Ends.ite ⟨_, rfl, (htook _).testSweep⟩ ⟨_, rfl, hs⟩
  case settingsWarmStart => exact Ends.ite ⟨_, rfl, ⟨Nat.zero_le _, hs.values⟩⟩ ⟨_, rfl, hs⟩

end Sys2Proof.Machine
end

section
/-! PROOFS. The ranges of the Supply Supervisor (R137, R142 to R144, R147) and of the Calendar Unit (R25, R34). -/

namespace Sys2Proof.Machine

/-- The supervisor's counts in their ranges. -/
structure Supply.InRange (x : Supply) : Prop where
  overVoltageCount : x.overVoltageCount ≤ 240
  sagCount : x.sagCount ≤ 8
  backupCount : x.backupCount ≤ 3599
  holdTimer : x.holdTimer ≤ 60

theorem Supply.voltageLimit_le (x : Supply) : x.voltageLimit ≤ 240 := by
  unfold Supply.voltageLimit
  split
  · exact Nat.le_refl _
  · decide

namespace Supply.InRange

variable {s : State}

theorem readCell (h : s.supply.InRange) (cell : Nat) : (s.readCell cell).supply.InRange := by
  unfold State.readCell
  split
  · split
    · exact h
    · exact { h with }
  · exact { h with }

theorem readCellInHold (h : s.supply.InRange) (cell : Nat) : (s.readCellInHold cell).supply.InRange := by
  unfold State.readCellInHold
  split
  · exact { h with }
  · exact h

theorem sweepOnDoubt (h : s.supply.InRange) : s.sweepOnDoubt.supply.InRange := by
  unfold State.sweepOnDoubt
  split
  · exact { h with }
  · exact h

theorem enterHold (h : s.supply.InRange) (cell : Nat) : (s.enterHold cell).supply.InRange := by
  have hreset : (s.onSupply fun x => { x with
      power := .hold, holdStart := s.calendar.t, overVoltageCount := 0, sagCount := 0, holdTimer := 0 }).supply.InRange :=
    { h with
      overVoltageCount := Nat.zero_le _
      sagCount := Nat.zero_le _
      holdTimer := Nat.zero_le _ }
  unfold State.enterHold
  simp only [State.handHoldEntry_frame]
  refine Supply.InRange.readCellInHold ?_ cell
  exact hreset

theorem enterRun (h : s.supply.InRange) (cell : Nat) : (s.enterRun cell).supply.InRange := by
  have hrun : (s.onSupply fun x => { x with power := .run }).journalPower.supply.InRange := { h with }
  have hread := hrun.readCell cell
  have hcount : ∀ t : State, t.supply.InRange → (t.onSupply fun x => { x with backupCount := 0 }).supply.InRange := fun t ht =>
    { ht with
      backupCount := Nat.zero_le _ }
  unfold State.enterRun
  simp only [State.handWarmStart_frame, State.send_supply]
  exact (hcount _ hread).sweepOnDoubt

theorem changeVoltage (h : s.supply.InRange) (u : Nat) : (s.changeVoltage u).supply.InRange :=
  have hzero : (s.onSupply fun x => { x with overVoltage := !s.supply.overVoltage, overVoltageCount := 0 }).supply.InRange :=
    { h with
      overVoltageCount := Nat.zero_le _ }
  hzero

theorem judgeVoltage (h : s.supply.InRange) (u : Nat) : (s.judgeVoltage u).supply.InRange := by
  unfold State.judgeVoltage
  split
  · split
    · next hlt =>
      exact { h with
        overVoltageCount := Nat.le_trans (Nat.le_of_lt hlt) (s.supply.voltageLimit_le) }
    · exact h.changeVoltage u
  · exact { h with
      overVoltageCount := Nat.zero_le _ }

theorem changeSag (h : s.supply.InRange) (u : Nat) : (s.changeSag u).supply.InRange := by
  unfold State.changeSag
  split
  · exact { h with
      sagCount := Nat.zero_le _ }
  · exact { h with
      sagCount := Nat.zero_le _ }

theorem judgeSag (h : s.supply.InRange) (u : Nat) : (s.judgeSag u).supply.InRange := by
  unfold State.judgeSag
  split
  · split
    · next hlt =>
      exact { h with
        sagCount := Nat.le_of_lt hlt }
    · exact h.changeSag u
  · exact { h with
      sagCount := Nat.zero_le _ }

theorem judgeBlock (h : s.supply.InRange) (u : Nat) : (s.judgeBlock u).supply.InRange := (h.judgeVoltage u).judgeSag u

theorem superviseSecond (h : s.supply.InRange) (coil cell : Nat) : (s.superviseSecond coil cell).supply.InRange := by
  unfold State.superviseSecond State.backupSecond
  split
  · next hlt =>
    exact { h with
      backupCount := Nat.le_of_lt_succ hlt }
  · have hzero : ((s.send (.coilReading coil)).onSupply fun x => { x with backupCount := 0 }).supply.InRange :=
      { h with
        backupCount := Nat.zero_le _ }
    exact hzero.readCell cell

theorem tick (h : s.supply.InRange) : s.tick.supply.InRange := by
  unfold State.tick
  dsimp only
  split
  · simpa using h
  · exact { h with
      holdTimer := Nat.min_le_right _ _ }

end Supply.InRange

/-- Every command but a cold start and a loss of retention keeps the supervisor's counts in their ranges. -/
theorem exec_supplyInRange {c : Instr} (hcold : ∀ n, c ≠ .coldStart n) (hloss : c ≠ .retentionLoss) {s : State}
    (hs : s.supply.InRange) : Ends (fun t => t.supply.InRange) (exec c s) := by
  have htook : ∀ d, (s.took d).supply.InRange := fun _ => hs
  have hpin : ∀ f, (s.onPins f).supply.InRange := fun _ => hs
  by_cases hx : .supervisor ∈ Instr.changes c
  case neg =>
    obtain ⟨t, ht, hkept⟩ := exec_keptBut c s
    exact ⟨t, ht, show t.supply.InRange from (hkept.supply hx).symm ▸ hs⟩
  cases c <;> simp only [Instr.changes, PartUnit.granted, List.mem_cons, List.not_mem_nil, reduceCtorEq, or_false, or_self] at hx
  case coldStart n => exact absurd rfl (hcold n)
  case retentionLoss => exact absurd rfl hloss
  case secondTick => exact Ends.ite ⟨_, rfl, hs.tick⟩ ⟨_, rfl, hs⟩
  case holdEntry cell =>
    refine ⟨_, rfl, ?_⟩
    split
    · exact (hpin _).enterHold cell
    · exact hs
  case holdReading cell =>
    have hzero : (s.onSupply fun x => { x with holdTimer := 0 }).supply.InRange :=
      { hs with
        holdTimer := Nat.zero_le _ }
    exact Ends.ite ⟨_, rfl, hzero.readCellInHold cell⟩ ⟨_, rfl, hs⟩
  case warmStart cell =>
    refine Ends.ite ⟨_, rfl, ?_⟩ ⟨_, rfl, hs⟩
    split
    · exact (hpin _).enterRun cell
    · exact hs
  case supervisorBlockResult r =>
    refine ⟨_, rfl, ?_⟩
    split
    · exact (htook _).judgeBlock r.voltage
    · exact hs
  case overVoltageSet r => exact Ends.ite ⟨_, rfl, (htook _).judgeBlock r.voltage⟩ ⟨_, rfl, hs⟩
  case overVoltageClear r => exact Ends.ite ⟨_, rfl, (htook _).judgeBlock r.voltage⟩ ⟨_, rfl, hs⟩
  case sagCountReached r => exact Ends.ite ⟨_, rfl, (htook _).judgeBlock r.voltage⟩ ⟨_, rfl, hs⟩
  case supervisorSecond coil cell =>
    refine ⟨_, rfl, ?_⟩
    split
    · exact (htook _).superviseSecond coil cell
    · exact hs
  case backupReading coil cell => exact Ends.ite ⟨_, rfl, (htook _).superviseSecond coil cell⟩ ⟨_, rfl, hs⟩

/-! ### The Calendar Unit -/

/-- Meter time and the allowance in their ranges. -/
structure Calendar.InRange (x : Calendar) : Prop where
  time : x.t ≤ 4294967295
  allowance : x.allowance ≤ 900

/-- A limited delta keeps meter time in its range. -/
theorem limitedDelta_time (t allowance : Nat) (requested : Int) :
    ((t : Int) + limitedDelta t allowance requested).toNat ≤ 4294967295 := by
  have hmax : (Config.timeMax : Int) = 4294967295 := rfl
  have hlow : -(t : Int) ≤ (Config.timeMax : Int) - t := by omega
  unfold limitedDelta
  dsimp only
  rw [clampInt_eq hlow, hmax]
  omega

namespace Calendar.InRange

variable {x : Calendar} {s : State}

theorem evaluated (h : x.InRange) : x.evaluated.InRange := ⟨h.time, h.allowance⟩

theorem advance (h : x.InRange) : x.advance.InRange := ⟨Nat.min_le_right _ _, h.allowance⟩

theorem renewed (h : x.InRange) : x.renewed.InRange := by
  unfold Calendar.renewed
  split
  · exact ⟨h.time, Nat.le_refl _⟩
  · exact h

theorem reevaluate (h : s.calendar.InRange) : s.reevaluate.calendar.InRange := by
  unfold State.reevaluate
  dsimp only
  split
  · exact h.evaluated
  · exact h.evaluated

theorem tick (h : s.calendar.InRange) : s.tick.calendar.InRange := by
  have hadvanced : (s.onCalendar Calendar.advance).calendar.InRange := h.advance
  unfold State.tick
  dsimp only
  split
  · simpa using hadvanced.reevaluate
  · exact hadvanced

/-- The set of T to a time in its range. -/
theorem applySet (h : s.calendar.InRange) {delta : Int} (hd : ((s.calendar.t : Int) + delta).toNat ≤ 4294967295) :
    (s.applySet delta).calendar.InRange := by
  unfold State.applySet
  split
  · exact h
  · have hset : (((s.onCalendar fun x => { x with t := ((x.t : Int) + delta).toNat }).journal
        (.time s.calendar.t delta)).send .newTArrival).calendar.InRange := ⟨hd, h.allowance⟩
    exact hset.reevaluate

theorem setTime (h : s.calendar.InRange) (order : OrderId) (target : BitVec 32) : (s.setTime order target).calendar.InRange := by
  unfold State.setTime
  dsimp only
  split
  · have htarget : ((s.calendar.t : Int) + ((target.toNat : Int) - s.calendar.t)).toNat ≤ 4294967295 := by
      have hlt := target.isLt
      omega
    exact h.applySet htarget
  · have hrenewed : (s.onCalendar Calendar.renewed).calendar.InRange := h.renewed
    have hspent : ∀ n, ((s.onCalendar Calendar.renewed).onCalendar fun x => { x with allowance := x.allowance - n }).calendar.InRange :=
      fun _ => ⟨hrenewed.time, Nat.le_trans (Nat.sub_le _ _) hrenewed.allowance⟩
    exact (hspent _).applySet (limitedDelta_time _ _ _)

theorem takeImage (h : s.calendar.InRange) (order : OrderId) (image : List Byte) : (s.takeImage order image).calendar.InRange := by
  unfold State.takeImage
  split
  · exact h
  · exact ⟨h.time, h.allowance⟩

end Calendar.InRange

/-- Every command but a cold start and a loss of retention keeps meter time and the allowance in their ranges. -/
theorem exec_calendarInRange {c : Instr} (hcold : ∀ n, c ≠ .coldStart n) (hloss : c ≠ .retentionLoss) {s : State}
    (hs : s.calendar.InRange) : Ends (fun t => t.calendar.InRange) (exec c s) := by
  have htook : ∀ d, (s.took d).calendar.InRange := fun _ => hs
  by_cases hx : .calendar ∈ Instr.changes c
  case neg =>
    obtain ⟨t, ht, hkept⟩ := exec_keptBut c s
    exact ⟨t, ht, show t.calendar.InRange from (hkept.calendar hx).symm ▸ hs⟩
  cases c <;> simp only [Instr.changes, PartUnit.granted, List.mem_cons, List.not_mem_nil, reduceCtorEq, or_false, or_self] at hx
  case coldStart n => exact absurd rfl (hcold n)
  case retentionLoss => exact absurd rfl hloss
  case secondTick => exact Ends.ite ⟨_, rfl, hs.tick⟩ ⟨_, rfl, hs⟩
  case calendarWarmStart => exact ⟨_, rfl, (htook _).reevaluate⟩
  case setTime order target =>
    refine ⟨_, rfl, ?_⟩
    split
    · exact (htook _).setTime order target
    · exact hs
  case tariffImageArrival order image =>
    refine ⟨_, rfl, ?_⟩
    split
    · exact (htook _).takeImage order image
    · exact hs

end Sys2Proof.Machine
end

section
/-! PROOFS. The ranges of the Report Unit (R206 to R208, R210). -/

namespace Sys2Proof.Machine

/-- The queue, the indices of the journal and the block count in their ranges. -/
structure Report.InRange (x : Report) : Prop where
  queue : x.queue.length ≤ 32
  writeIndex : x.w < 48
  readIndex : x.p < 48
  blockCount : x.blockCount ≤ 7

namespace Report.InRange

variable {x y : Report} {s : State}

theorem same (h : x.InRange) (hq : y.queue = x.queue) (hw : y.w = x.w) (hp : y.p = x.p) (hb : y.blockCount = x.blockCount) :
    y.InRange :=
  ⟨hq ▸ h.queue, hw ▸ h.writeIndex, hp ▸ h.readIndex, hb ▸ h.blockCount⟩

/-! ### The journal writer -/

theorem handle (h : x.InRange) (t : Nat) (e : Entry) : (x.handle t e).InRange := by
  rw [Report.handle_eq]
  exact h.same rfl rfl rfl rfl

theorem takeNext (h : x.InRange) (t : Nat) : (x.takeNext t).InRange := by
  unfold Report.takeNext
  split
  · exact h
  · split
    · next e q _ hq =>
      have hlength : q.length ≤ 32 := Nat.le_of_succ_le (by simpa [hq] using h.queue)
      have hrest : Report.InRange { x with queue := q } := ⟨hlength, h.writeIndex, h.readIndex, h.blockCount⟩
      exact hrest.handle t e
    · exact h

theorem enqueue (h : x.InRange) (e : Entry) : (x.enqueue e).InRange := by
  unfold Report.enqueue
  split
  · next hlt =>
    refine ⟨?_, h.writeIndex, h.readIndex, h.blockCount⟩
    rw [List.length_append]
    exact hlt
  · exact h.same rfl rfl rfl rfl

theorem entryDone (h : x.InRange) (t : Nat) : (x.entryDone t).InRange := by
  unfold Report.entryDone
  split
  · exact h
  · split
    · exact h.same rfl rfl rfl rfl
    · exact Report.InRange.takeNext (x := { x with writer := none }) (h.same rfl rfl rfl rfl) t

theorem settle (h : x.InRange) (r : Nat) : (x.settle r).InRange := by
  refine ⟨h.queue, h.writeIndex, ?_, h.blockCount⟩
  show (if x.accepts r then r else x.w) < 48
  split
  · next hr => exact ((Report.accepts_iff x r).mp hr).1
  · exact h.writeIndex

theorem judge (h : x.InRange) (t : Nat) (wr : Writer) (e : Entry) : (x.judge t wr e).InRange := by
  unfold Report.judge
  split_ifs
  · exact h.same rfl rfl rfl rfl
  · exact h.entryDone t
  · exact h.same rfl rfl rfl rfl

theorem handleEntry (h : s.report.InRange) (wr : Writer) (e : Entry) : (s.handleEntry wr e).report.InRange := by
  have hjudged := (h.settle (Memory.read s.exchange.mem 8).toNat).judge s.calendar.t wr e
  unfold State.handleEntry
  dsimp only
  split
  · exact hjudged
  · exact hjudged

theorem finishEntry (h : s.report.InRange) : s.finishEntry.report.InRange := by
  have hadvanced : Report.InRange { s.report with w := (s.report.w + 1) % Config.ringEntries, seq := s.report.seq + 1 } :=
    ⟨h.queue, Nat.mod_lt _ (by decide), h.readIndex, h.blockCount⟩
  exact hadvanced.entryDone _

theorem journalAccess (h : s.report.InRange) : s.journalAccess.report.InRange := by
  unfold State.journalAccess
  split
  · exact h
  · split
    · exact h.handleEntry _ _
    · unfold State.writeEntryAccess
      split
      · exact h.same rfl rfl rfl rfl
      · exact h.finishEntry
    · exact h

theorem stopWriter (h : x.InRange) : x.stopWriter.InRange := by
  rw [Report.stopWriter_rest]
  exact h.same rfl rfl rfl rfl

theorem resume (h : x.InRange) (t : Nat) : (x.resume t).InRange := by
  have hidle : Report.InRange { x with writer := none } := h.same rfl rfl rfl rfl
  unfold Report.resume
  split
  · exact h.takeNext t
  · split
    · exact hidle.handle t _
    · exact h.same rfl rfl rfl rfl
    · exact hidle.takeNext t
    · exact h
    · exact h

/-! ### The publisher -/

theorem tryPublish (h : s.report.InRange) : s.tryPublish.report.InRange := by
  unfold State.tryPublish
  split
  · exact h.same rfl rfl rfl rfl
  · exact h.same rfl rfl rfl rfl

theorem countBlock (h : s.report.InRange) : s.countBlock.report.InRange := by
  unfold State.countBlock
  split
  · next hlt => exact ⟨h.queue, h.writeIndex, h.readIndex, Nat.le_of_lt_succ hlt⟩
  · have hzero : (s.onReport fun x => { x with blockCount := 0 }).report.InRange :=
      ⟨h.queue, h.writeIndex, h.readIndex, Nat.zero_le _⟩
    unfold State.publicationDue
    split
    · exact hzero.same rfl rfl rfl rfl
    · exact hzero.tryPublish

theorem clearPublication (h : s.report.InRange) : (s.onReport Report.clearPublication).report.InRange := h.same rfl rfl rfl rfl

theorem mirrorFreed (h : s.report.InRange) : s.mirrorFreed.report.InRange := by
  unfold State.mirrorFreed
  split
  · exact h.clearPublication.tryPublish
  · exact h

theorem endPublication (h : s.report.InRange) : s.endPublication.report.InRange := by
  have hcleared : (((s.onExchange fun x => { x with mirrorHolder := .none }).onReport Report.clearPublication).raise
      .mirror).report.InRange := h.clearPublication
  unfold State.endPublication
  dsimp only
  split
  · exact hcleared.tryPublish
  · exact hcleared

theorem publisherAccess (h : s.report.InRange) : s.publisherAccess.report.InRange := by
  unfold State.publisherAccess
  split
  · exact h
  · next p _ =>
    dsimp only
    split
    · exact h.same rfl rfl rfl rfl
    · exact Report.InRange.endPublication (s := s.store (mirrorBase + 4 * p.granted) (fieldBytes p.bytes (4 * p.granted) 4)) h

theorem grant (h : s.report.InRange) : s.grant.report.InRange := by
  unfold State.grant
  split
  · exact h
  · exact h
  · exact h.journalAccess
  · simpa using h
  · exact h.publisherAccess

end Report.InRange

/-- Every command but a cold start and a loss of retention keeps the Report Unit's values in their ranges. -/
theorem exec_reportInRange {c : Instr} (hcold : ∀ n, c ≠ .coldStart n) (hloss : c ≠ .retentionLoss) {s : State}
    (hs : s.report.InRange) : Ends (fun t => t.report.InRange) (exec c s) := by
  have htook : ∀ d, (s.took d).report.InRange := fun _ => hs
  by_cases hx : .report ∈ Instr.changes c
  case neg =>
    obtain ⟨t, ht, hkept⟩ := exec_keptBut c s
    exact ⟨t, ht, show t.report.InRange from (hkept.report hx).symm ▸ hs⟩
  by_cases hg : c ∈ Instr.grantRows
  case pos => exact ends_grantRow hg hs hs.grant
  cases c <;> simp only [Instr.grantRows, Instr.changes, PartUnit.granted, List.mem_cons, List.not_mem_nil, reduceCtorEq,
    or_false, or_true, not_true, not_false_eq_true, or_self] at hx hg
  case coldStart n => exact absurd rfl (hcold n)
  case retentionLoss => exact absurd rfl hloss
  case entryArrival e => exact ⟨_, rfl, (hs.enqueue e).takeNext _⟩
  case reportHoldEntry => exact ⟨_, rfl, hs.stopWriter.same rfl rfl rfl rfl⟩
  case reportWarmStart =>
    have hrun : Report.InRange { s.report with hold := false, blockCount := 0 } :=
      ⟨hs.queue, hs.writeIndex, hs.readIndex, Nat.zero_le _⟩
    exact ⟨_, rfl, hrun.resume _⟩
  case blockCompletionReport =>
    refine ⟨_, rfl, ?_⟩
    split
    · exact hs
    · exact (htook _).countBlock
  case publicationDue => exact Ends.ite ⟨_, rfl, (htook _).countBlock⟩ ⟨_, rfl, hs⟩
  case mirrorFreedNews => exact ⟨_, rfl, (htook _).mirrorFreed⟩

end Sys2Proof.Machine
end

section
/-! PROOFS. The ranges of the Credit Unit (R44, R45, R55), and the floor of the balance (R45, R58). -/

namespace Sys2Proof.Machine

/-- The remainder of charging and the balance's cap. -/
structure Credit.InRange (x : Credit) : Prop where
  remainder : x.q < 1000000000
  balance : x.c ≤ 10000000000

/-- The balance stands at the debt floor or above it. -/
def State.AboveFloor (s : State) : Prop := -(s.calendar.table.df : Int) ≤ s.credit.c

/-! ### Operations on the unit -/

theorem Credit.InRange.take {x : Credit} (h : x.InRange) (df amount : Nat) : (x.take df amount).InRange := by
  have hc := h.balance
  unfold Credit.take
  split
  · exact ⟨h.remainder, show x.c - amount ≤ _ by omega⟩
  · exact ⟨h.remainder, show -(df : Int) ≤ _ by omega⟩

theorem Credit.take_floor (x : Credit) (df amount : Nat) : -(df : Int) ≤ (x.take df amount).c := by
  unfold Credit.take
  split
  · next h => exact h
  · exact Int.le_refl _

theorem Credit.InRange.chargeHours {x : Credit} (h : x.InRange) (hour df sc : Nat) : (x.chargeHours hour df sc).InRange := by
  unfold Credit.chargeHours
  split
  · have htaken := h.take df ((hour - x.hLast) * sc)
    exact ⟨htaken.remainder, htaken.balance⟩
  · exact h

theorem Credit.chargeHours_floor {x : Credit} {df : Nat} (h : -(df : Int) ≤ x.c) (hour sc : Nat) :
    -(df : Int) ≤ (x.chargeHours hour df sc).c := by
  unfold Credit.chargeHours
  split
  · exact x.take_floor df _
  · exact h

theorem Credit.InRange.clampFloor {x : Credit} (h : x.InRange) (df : Nat) : (x.clampFloor df).InRange := by
  unfold Credit.clampFloor
  split
  · exact ⟨h.remainder, show -(df : Int) ≤ _ by omega⟩
  · exact h

theorem Credit.clampFloor_floor (x : Credit) (df : Nat) : -(df : Int) ≤ (x.clampFloor df).c := by
  unfold Credit.clampFloor
  split
  · exact Int.le_refl _
  · next h => exact Int.not_lt.mp h

theorem Credit.topUp_c (x : Credit) (amount : Nat) : (x.topUp amount).c = x.c + amount * 1000 := by
  unfold Credit.topUp
  dsimp only
  split
  · rfl
  · rfl

theorem Credit.topUp_q (x : Credit) (amount : Nat) : (x.topUp amount).q = x.q := by
  unfold Credit.topUp
  dsimp only
  split
  · rfl
  · rfl

/-! ### Operations on the state -/

/-- What the commands keep of the balance. -/
structure CreditKept (s t : State) : Prop where
  inRange : s.credit.InRange → t.credit.InRange
  floor : s.AboveFloor → t.AboveFloor

namespace CreditKept

variable {s t u : State}

theorem refl (s : State) : CreditKept s s := ⟨id, id⟩

theorem trans (h : CreditKept s t) (h' : CreditKept t u) : CreditKept s u := ⟨h'.inRange ∘ h.inRange, h'.floor ∘ h.floor⟩

/-- What leaves the balance, the remainder and the table as they stand. -/
theorem same (hc : t.credit.c = s.credit.c) (hq : t.credit.q = s.credit.q) (ht : t.calendar.table = s.calendar.table) :
    CreditKept s t :=
  ⟨fun h => ⟨hq ▸ h.remainder, hc ▸ h.balance⟩, fun h => by rwa [State.AboveFloor, hc, ht]⟩

theorem onCredit (s : State) (f : Credit → Credit) (hr : s.credit.InRange → (f s.credit).InRange)
    (hf : s.AboveFloor → -(s.calendar.table.df : Int) ≤ (f s.credit).c) : CreditKept s (s.onCredit f) :=
  ⟨hr, hf⟩

theorem reevaluateCredit (s : State) (resend : Bool) : CreditKept s (s.reevaluateCredit resend) := by
  unfold State.reevaluateCredit
  dsimp only
  split
  · exact same rfl rfl rfl
  · exact same rfl rfl rfl

theorem recordCreditState (s : State) (cause : CreditCause) : CreditKept s (s.recordCreditState cause) := by
  unfold State.recordCreditState
  dsimp only
  split
  · exact refl s
  · exact same rfl rfl rfl

theorem evaluateCredit (s : State) (cause : CreditCause) : CreditKept s (s.evaluateCredit cause) := by
  unfold State.evaluateCredit
  dsimp only
  split
  · exact recordCreditState s cause
  · exact (recordCreditState s cause).trans (reevaluateCredit _ _)

theorem chargeBlock (s : State) (billed : Nat) : CreditKept s (s.chargeBlock billed) := by
  have hremainder : ∀ n, CreditKept s (s.onCredit fun y => { y with q := n % Config.chargeUnit }) := fun n =>
    onCredit s _ (fun h => ⟨Nat.mod_lt n (by decide), h.balance⟩) id
  unfold State.chargeBlock
  dsimp only
  split
  · exact hremainder _
  · exact ((hremainder _).trans (onCredit _ _ (fun h => h.take _ _) fun _ => Credit.take_floor _ _ _)).trans (evaluateCredit _ _)

theorem chargeHours (s : State) : CreditKept s (s.onCredit fun x =>
    x.chargeHours (hourOf s.calendar.t) s.calendar.table.df s.calendar.table.sc) :=
  onCredit s _ (fun h => h.chargeHours _ _ _) fun h => Credit.chargeHours_floor h _ _

theorem hourRule (s : State) : CreditKept s s.hourRule := by
  unfold State.hourRule
  split
  · exact (chargeHours s).trans (evaluateCredit _ _)
  · exact refl s

theorem drawEmergency (s : State) (order : OrderId) : CreditKept s (s.drawEmergency order) := by
  have hdrawn : CreditKept s ((s.onCredit fun x => { x with em := true, ea := false }).journal
      (.emergency s.credit.c s.calendar.table.ec)) := same rfl rfl rfl
  unfold State.drawEmergency
  split
  · exact (hdrawn.trans (evaluateCredit _ _)).trans (same rfl rfl rfl)
  · exact same rfl rfl rfl

/-- A top-up within the cap (R55). -/
theorem takeTopUp (s : State) (amount : Nat) : CreditKept s (s.takeTopUp amount) := by
  unfold State.takeTopUp
  split
  · exact same (by simp) (by simp) (by simp)
  · next hcap =>
    have hsum : s.credit.c + amount * 1000 ≤ 10000000000 := Int.not_lt.mp hcap
    have htopped : CreditKept s (s.onCredit fun x => x.topUp amount) := by
      refine onCredit s _ (fun h => ⟨?_, ?_⟩) fun h => ?_
      · rw [Credit.topUp_q]
        exact h.remainder
      · rwa [Credit.topUp_c]
      · have habove : -(s.calendar.table.df : Int) ≤ s.credit.c := h
        rw [Credit.topUp_c]
        omega
    exact (htopped.trans (evaluateCredit _ .topUp)).trans (same (by simp) (by simp) (by simp))

end CreditKept

/-! ### A new table -/

/-- What the news of a table does to the balance (R58). -/
theorem State.takeTable_clamped (s : State) (friendly : Option Bool) :
    CreditKept (s.onCredit fun x => x.clampFloor s.calendar.table.df) (s.takeTable friendly) := by
  have hview : ∀ t : State, CreditKept t (t.onCredit fun x => x.view friendly) := fun t => by
    unfold Credit.view
    cases friendly
    · exact CreditKept.same rfl rfl rfl
    · exact CreditKept.same rfl rfl rfl
  exact ((CreditKept.recordCreditState _ .tariff).trans (hview _)).trans (CreditKept.reevaluateCredit _ false)

theorem Credit.InRange.takeTable {s : State} (h : s.credit.InRange) (friendly : Option Bool) : (s.takeTable friendly).credit.InRange :=
  (s.takeTable_clamped friendly).inRange (h.clampFloor _)

theorem State.takeTable_aboveFloor (s : State) (friendly : Option Bool) : (s.takeTable friendly).AboveFloor :=
  (s.takeTable_clamped friendly).floor (s.credit.clampFloor_floor _)

/-! ### The table -/

theorem State.reevaluate_table (s : State) : s.reevaluate.calendar.table = s.calendar.table := by
  unfold State.reevaluate
  dsimp only
  split
  · rfl
  · rfl

theorem State.tick_table (s : State) : s.tick.calendar.table = s.calendar.table := by
  unfold State.tick
  dsimp only
  split
  · rw [State.deliverSecond]
    exact State.reevaluate_table (s.onCalendar Calendar.advance)
  · rfl

theorem State.applySet_table (s : State) (delta : Int) : (s.applySet delta).calendar.table = s.calendar.table := by
  unfold State.applySet
  split
  · rfl
  · exact State.reevaluate_table _

theorem Calendar.renewed_table (x : Calendar) : x.renewed.table = x.table := by
  unfold Calendar.renewed
  split
  · rfl
  · rfl

theorem State.setTime_table (s : State) (order : OrderId) (target : BitVec 32) :
    (s.setTime order target).calendar.table = s.calendar.table := by
  unfold State.setTime
  dsimp only
  split
  · exact State.applySet_table _ _
  · exact (State.applySet_table _ _).trans s.calendar.renewed_table

/-! ### Commands -/

/-- Every command but a start, a loss of retention and those of an adoption keeps the balance between its floor and its cap. -/
theorem exec_creditKept {c : Instr} (hcold : ∀ n, c ≠ .coldStart n) (hloss : c ≠ .retentionLoss)
    (himage : ∀ order image, c ≠ .tariffImageArrival order image) (htable : ∀ f, c ≠ .newTableArrival f) (s : State) :
    Ends (CreditKept s) (exec c s) := by
  have htook : ∀ d, CreditKept s (s.took d) := fun d => CreditKept.same rfl rfl rfl
  by_cases hx : .credit ∈ Instr.changes c ∨ .calendar ∈ Instr.changes c
  case neg =>
    obtain ⟨hcredit, hcalendar⟩ := not_or.mp hx
    obtain ⟨t, ht, hkept⟩ := exec_keptBut c s
    exact ⟨t, ht, CreditKept.same (congrArg Credit.c (hkept.credit hcredit)) (congrArg Credit.q (hkept.credit hcredit))
      (congrArg Calendar.table (hkept.calendar hcalendar))⟩
  cases c <;> simp only [Instr.changes, PartUnit.granted, List.mem_cons, List.not_mem_nil, reduceCtorEq, or_false,
    or_self] at hx
  case coldStart n => exact absurd rfl (hcold n)
  case retentionLoss => exact absurd rfl hloss
  case tariffImageArrival order image => exact absurd rfl (himage order image)
  case newTableArrival f => exact absurd rfl (htable f)
  case secondTick => exact Ends.ite ⟨_, rfl, CreditKept.same (by simp) (by simp) s.tick_table⟩ ⟨_, rfl, CreditKept.refl s⟩
  case calendarWarmStart => exact ⟨_, rfl, CreditKept.same (by simp) (by simp) (State.reevaluate_table _)⟩
  case setTime order target =>
    refine ⟨_, rfl, ?_⟩
    split
    · exact CreditKept.same (by simp) (by simp) (State.setTime_table _ _ _)
    · exact htook _
  case friendlyFlagNews f =>
    have hview : CreditKept s ((s.took (.friendlyFlagNews f)).onCredit fun x => { x with friendlyView := f }) :=
      CreditKept.same rfl rfl rfl
    exact ⟨_, rfl, hview.trans (CreditKept.reevaluateCredit _ false)⟩
  case newTArrival => exact ⟨_, rfl, (htook .newTArrival).trans (CreditKept.hourRule _)⟩
  case creditBlockResult r => exact ⟨_, rfl, (htook (.creditBlockResult r)).trans (CreditKept.chargeBlock _ r.billed)⟩
  case creditSecond => exact ⟨_, rfl, (htook .creditSecond).trans (CreditKept.hourRule _)⟩
  case emergency order => exact ⟨_, rfl, (htook (.emergency order)).trans (CreditKept.drawEmergency _ order)⟩
  case topUpRequest amount => exact ⟨_, rfl, (htook (.topUpRequest amount)).trans (CreditKept.takeTopUp _ amount)⟩
  case serviceStateNewsCredit st =>
    have hview : CreditKept s ((s.took (.serviceStateNewsCredit st)).onCredit fun x => { x with serviceView := st }) :=
      CreditKept.same rfl rfl rfl
    exact ⟨_, rfl, (hview.trans (CreditKept.reevaluateCredit _ false)).trans (CreditKept.same (by simp) (by simp) (by simp))⟩
  case creditWarmStart =>
    exact ⟨_, rfl, (((htook .creditWarmStart).trans (CreditKept.chargeHours _)).trans (CreditKept.recordCreditState _ .hour)).trans
      (CreditKept.reevaluateCredit _ true)⟩

end Sys2Proof.Machine
end

section
/-! PROOFS. The news of a table stays in flight until it is taken. -/

namespace Sys2Proof.Machine

theorem Instr.sentForm_ne_tableNews {c : Instr} (h : ∀ f, c ≠ .newTableArrival f) (f : Option Bool) :
    c.sentForm ≠ .newTableArrival f := by
  intro he
  cases c
  case newTableArrival g => exact h g rfl
  all_goals exact Instr.noConfusion he

/-- A removal of other kinds leaves the news in flight. -/
theorem State.TableAwaited.filtered {s t : State} (h : s.TableAwaited) {keep : Instr → Bool} (ht : t.inFlight = s.inFlight.filter keep)
    (hkeep : ∀ f, keep (.newTableArrival f) = true) : t.TableAwaited := by
  obtain ⟨f, hf⟩ := h
  exact ⟨f, ht ▸ List.mem_filter.mpr ⟨hf, hkeep f⟩⟩

/-- An adoption sends the news; a refusal leaves what is in flight. -/
theorem State.takeImage_awaited {s : State} (order : OrderId) (image : List Byte) (h : s.TableAwaited ∨ imageFault image = none) :
    (s.takeImage order image).TableAwaited := by
  unfold State.takeImage
  split
  · next hfault => simpa using h.resolve_right (by simp [hfault])
  · simp

/-- Every command but the news itself, a start and a loss of retention leaves the news in flight. -/
theorem exec_tableAwaited {c : Instr} (hcold : ∀ n, c ≠ .coldStart n) (hloss : c ≠ .retentionLoss)
    (htable : ∀ f, c ≠ .newTableArrival f) {s : State} (hs : s.TableAwaited) : Ends State.TableAwaited (exec c s) := by
  have htook : ∀ t : State, t.TableAwaited → (t.took c).TableAwaited := fun t ht =>
    (State.took_tableAwaited (Instr.sentForm_ne_tableNews htable)).mpr ht
  have hdropped : ∀ drop : Instr → Bool, (∀ f, drop (.newTableArrival f) = false) → ((s.dropStale c drop).took c).TableAwaited :=
    fun drop hdrop => htook _ ((State.dropStale_tableAwaited hdrop).mpr hs)
  have htamper := hdropped Instr.tamperStale fun _ => rfl
  have hlink := hdropped Instr.linkAction fun _ => rfl
  have hblock := hdropped Instr.blockReport fun _ => rfl
  cases c
  case coldStart n => exact absurd rfl (hcold n)
  case retentionLoss => exact absurd rfl hloss
  case newTableArrival f => exact absurd rfl (htable f)
  case tariffImageArrival order image =>
    refine ⟨_, rfl, ?_⟩
    split
    · exact State.takeImage_awaited order image (.inl (htook s hs))
    · exact htook s hs
  case switchHoldEntry => exact ⟨_, rfl, (hdropped Instr.switchStale fun _ => rfl).filtered rfl fun _ => rfl⟩
  case engineHoldEntry => exact ⟨_, rfl, hlink.filtered rfl fun _ => rfl⟩
  case engineWarmStart => exact ⟨_, rfl, (htook s hs).filtered rfl fun _ => rfl⟩
  all_goals clear hcold hloss htable
  all_goals simp only [exec, execBlockCompletion, execCalibrationWriteNews, execEnergyHoldEntry,
    execConditionsUnqualifiedNews, execEnergyWarmStart, execSecondTick, execFriendlyFlagNews, execCalendarWarmStart,
    execSetTime, execNewTArrival, execStagingCopyDone, execCreditBlockResult,
    execCreditSecond, execEmergency, execTopUpRequest, execServiceStateNewsCredit, execCreditWarmStart, execEnterCode,
    execKeyWriteNews, execCodeWarmStart, execReasonRequest, execConsent, execDisconnect, execPermit, execCoilReadingRequest,
    execCoilReading, execDriveEnd, execSettleEnd, execLoadSenseChange, execStuckRetry, execSwitchBlockResult, execTrip,
    execSwitchSecond, execBackoffExpiry, execClosedTimeExpiry, execLimitRequest, execSwitchWarmStart,
    execLineChange, execQualificationTimerExpiry, execTamperSecond, execMagnetCountReached, execTamperBlockResult,
    execClearRequest, execClearTamper, execActionMaskNews, execServiceStateNewsTamper, execTamperHoldEntry,
    execTamperWarmStart, execSelfTest, execForcedTimerExpiry, execInjectionDeadline, execTamperLinkReset, execHoldEntry,
    execHoldReading, execWarmStart, execSupervisorBlockResult, execOverVoltageSet, execOverVoltageClear,
    execSagCountReached, execSupervisorSecond, execBackupReading, execWriteSetting, execEnterService, execReleaseRequest,
    execSettingsSecond, execPeriodicSweep, execWarmStartSweep, execIntegrityTestRequest, execSettingsWarmStart,
    execReadAscend, execReadDescend, execReadHold, execReadLineAscend, execWriteAscend, execWriteDescend, execWriteHold,
    execWriteLineAscend, execInvalidCommand, execFrameWhileClosed, execAccessGrant, execPost, execWithdraw, execRelease,
    execNoticeClear, execNoticeEnable, execSemaphoreTake, execSemaphoreGive, execRegisterWriteOther, execExchangeHoldEntry,
    execExchangeWarmStart, execAnswersWrittenNews, execLinkReset, execLinkrstnRelease, execSlotCopyDone, execOwnerAnswer,
    execOwnerPark, execRelayStateReport, execAnswerComplete, execStateByteWritten,
    execEngineLinkReset, execEntryArrival, execEntryHandling, execEntryWritten, execReportHoldEntry, execReportWarmStart,
    execBlockCompletionReport, execPublicationDue, execMirrorFreedNews, execPublicationEnd]
  all_goals repeat' split
  all_goals rw [ends_next]
  all_goals simp [htook, htamper, hlink, hblock, hs]

end Sys2Proof.Machine
end

section
/-! PROOFS. The ranges that every step keeps. -/

namespace Sys2Proof.Machine

/-- The ranges, unit by unit. -/
structure State.InRange (s : State) : Prop where
  energy : s.energy.InRange
  calendar : s.calendar.InRange
  credit : s.credit.InRange
  floor : s.TableAwaited ∨ s.AboveFloor
  failures : s.code.failures ≤ 4
  switch : s.switch.InRange
  tamper : s.tamper.InRange
  supply : s.supply.InRange
  settings : s.settings.InRange
  report : s.report.InRange

theorem ranges_iff (s : State) : Ranges s ↔ s.InRange where
  mp h := {
    energy := ⟨h.lineRemainder, h.neutralRemainder, h.qualifiers _ (by simp), h.qualifiers _ (by simp), h.qualifiers _ (by simp)⟩
    calendar := ⟨h.time, h.allowance⟩
    credit := ⟨h.chargeRemainder, h.balance⟩
    floor := h.debtFloor
    failures := h.failures
    switch := ⟨h.stuckWait, h.limitRun, h.closedTime, h.trips, h.backoff, h.lastDuty⟩
    tamper := h.occurrences
    supply := ⟨h.overVoltageCount, h.sagCount, h.backupCount, h.holdTimer⟩
    settings := ⟨h.sweepCount, h.settings⟩
    report := ⟨h.queue, h.writeIndex, h.readIndex, h.blockCount⟩ }
  mpr h := {
    time := h.calendar.time
    allowance := h.calendar.allowance
    lineRemainder := h.energy.line
    neutralRemainder := h.energy.neutral
    chargeRemainder := h.credit.remainder
    balance := h.credit.balance
    debtFloor := h.floor
    failures := h.failures
    stuckWait := h.switch.stuckWait
    limitRun := h.switch.limitRun
    closedTime := h.switch.closedTime
    trips := h.switch.trips
    backoff := h.switch.backoff
    lastDuty := h.switch.lastDuty
    qualifiers := by
      simp only [List.mem_cons, List.not_mem_nil, or_false, forall_eq_or_imp, forall_eq]
      exact ⟨h.energy.imbalance, h.energy.reverseFlow, h.energy.bypass⟩
    occurrences := h.tamper
    overVoltageCount := h.supply.overVoltageCount
    sagCount := h.supply.sagCount
    backupCount := h.supply.backupCount
    holdTimer := h.supply.holdTimer
    sweepCount := h.settings.sweepCount
    settings := h.settings.values
    queue := h.report.queue
    writeIndex := h.report.writeIndex
    readIndex := h.report.readIndex
    blockCount := h.report.blockCount }

/-! ### Starts and the loss of retention -/

/-- What a cold start and a loss of retention leave stands in its ranges. -/
theorem State.InRange.ofCold {t : State} (henergy : t.energy = State.reset.energy) (hcalendar : t.calendar = State.reset.calendar)
    (hcredit : t.credit = State.reset.credit) (hcode : t.code = State.reset.code) (hswitch : t.switch.InRange)
    (htamper : t.tamper.records = State.reset.tamper.records) (hsupply : t.supply.InRange)
    (hsettings : t.settings = State.reset.settings) (hreport : t.report.InRange) : t.InRange := by
  have hreset := (ranges_iff State.reset).mp State.reset_ranges
  have habove : State.reset.AboveFloor := show (0 : Int) ≤ 0 from Int.le_refl 0
  exact {
    energy := henergy ▸ hreset.energy
    calendar := hcalendar ▸ hreset.calendar
    credit := hcredit ▸ hreset.credit
    floor := .inr (by rwa [State.AboveFloor, hcalendar, hcredit])
    failures := hcode ▸ hreset.failures
    switch := hswitch
    tamper := hreset.tamper.same htamper
    supply := hsupply
    settings := hsettings ▸ hreset.settings
    report := hreport }

theorem Switch.coldFrom_inRange (energised : Bool) : (Switch.coldFrom energised).InRange := by
  cases energised <;> constructor <;> decide

theorem exec_coldStart_inRange (cell : Nat) {s : State} (hs : s.InRange) : Ends State.InRange (exec (.coldStart cell) s) := by
  refine Ends.ite ⟨_, rfl, hs⟩ ⟨_, rfl, ?_⟩
  rw [State.coldStart_eq]
  exact State.InRange.ofCold rfl rfl rfl rfl (Switch.coldFrom_inRange _) rfl
    ⟨Nat.zero_le _, Nat.zero_le _, Nat.zero_le _, Nat.zero_le _⟩ rfl ((ranges_iff State.reset).mp State.reset_ranges).report

theorem exec_retentionLoss_inRange {s : State} (hs : s.InRange) : Ends State.InRange (exec .retentionLoss s) := by
  have hreport := ((ranges_iff State.reset).mp State.reset_ranges).report
  refine Ends.ite ⟨_, rfl, ?_⟩ ⟨_, rfl, hs⟩
  exact State.InRange.ofCold rfl rfl rfl rfl
    ⟨Nat.zero_le _, Nat.zero_le _, Nat.zero_le _, Nat.zero_le _, Nat.zero_le _, Nat.zero_le _⟩ rfl
    ⟨Nat.zero_le _, Nat.zero_le _, Nat.zero_le _, Nat.zero_le _⟩ rfl (hreport.same rfl rfl rfl rfl)

/-! ### The other commands -/

/-- The balance stands at its floor or above it, but between an adoption and the news of it (R45, R58). -/
theorem exec_floor {c : Instr} (hcold : ∀ n, c ≠ .coldStart n) (hloss : c ≠ .retentionLoss) {s : State}
    (hs : s.TableAwaited ∨ s.AboveFloor) : Ends (fun t => t.TableAwaited ∨ t.AboveFloor) (exec c s) := by
  by_cases htable : ∃ f, c = .newTableArrival f
  case pos =>
    obtain ⟨f, rfl⟩ := htable
    exact ⟨_, rfl, .inr (State.takeTable_aboveFloor _ f)⟩
  have htable' : ∀ f, c ≠ .newTableArrival f := fun f h => htable ⟨f, h⟩
  rcases hs with hs | hs
  · obtain ⟨t, ht, hawaited⟩ := exec_tableAwaited hcold hloss htable' hs
    exact ⟨t, ht, .inl hawaited⟩
  by_cases himage : ∃ order image, c = .tariffImageArrival order image
  case neg =>
    obtain ⟨t, ht, hkept⟩ := exec_creditKept hcold hloss (fun order image h => himage ⟨order, image, h⟩) htable' s
    exact ⟨t, ht, .inr (hkept.floor hs)⟩
  obtain ⟨order, image, rfl⟩ := himage
  refine ⟨_, rfl, ?_⟩
  split
  · cases hfault : imageFault image with
    | none => exact .inl (State.takeImage_awaited order image (.inr hfault))
    | some fault =>
      rw [State.takeImage, hfault]
      exact .inr hs
  · exact .inr hs

theorem exec_creditInRange {c : Instr} (hcold : ∀ n, c ≠ .coldStart n) (hloss : c ≠ .retentionLoss) {s : State}
    (hs : s.credit.InRange) : Ends (fun t => t.credit.InRange) (exec c s) := by
  by_cases htable : ∃ f, c = .newTableArrival f
  case pos =>
    obtain ⟨f, rfl⟩ := htable
    exact ⟨_, rfl, Credit.InRange.takeTable (s := s.took (.newTableArrival f)) hs f⟩
  by_cases himage : ∃ order image, c = .tariffImageArrival order image
  case pos =>
    obtain ⟨order, image, rfl⟩ := himage
    obtain ⟨t, ht, hkept⟩ := exec_keptBut (.tariffImageArrival order image) s
    exact ⟨t, ht, show t.credit.InRange from (hkept.credit (by simp [Instr.changes])).symm ▸ hs⟩
  obtain ⟨t, ht, hkept⟩ := exec_creditKept hcold hloss (fun order image h => himage ⟨order, image, h⟩)
    (fun f h => htable ⟨f, h⟩) s
  exact ⟨t, ht, hkept.inRange hs⟩

theorem exec_switchInRange {c : Instr} (hcold : ∀ n, c ≠ .coldStart n) (hloss : c ≠ .retentionLoss) {s : State}
    (hs : s.switch.InRange) (hbackoff : s.setting .limitBackoff ≤ 600) : Ends (fun t => t.switch.InRange) (exec c s) := by
  by_cases hx : .switch ∈ Instr.changes c
  · obtain ⟨t, ht, hkept⟩ := exec_switchKept hx hcold hloss s
    exact ⟨t, ht, hkept.inRange hbackoff hs⟩
  · obtain ⟨t, ht, hkept⟩ := exec_keptBut c s
    exact ⟨t, ht, show t.switch.InRange from (hkept.switch hx).symm ▸ hs⟩

/-- Every command keeps the ranges, whatever waits. -/
theorem exec_inRange (c : Instr) {s : State} (hs : s.InRange) : Ends State.InRange (exec c s) := by
  by_cases hcold : ∃ n, c = .coldStart n
  case pos =>
    obtain ⟨n, rfl⟩ := hcold
    exact exec_coldStart_inRange n hs
  by_cases hloss : c = .retentionLoss
  case pos =>
    subst hloss
    exact exec_retentionLoss_inRange hs
  have hcold' : ∀ n, c ≠ .coldStart n := fun n h => hcold ⟨n, h⟩
  have hbackoff : s.setting .limitBackoff ≤ 600 := (hs.settings.values .limitBackoff).2
  obtain ⟨t, ht, hkept⟩ := exec_energyKept hcold' hloss s
  obtain ⟨u, hu, hcode⟩ := exec_codeKept hcold' hloss s
  obtain rfl := Host.Outcome.next.inj (ht.symm.trans hu)
  exact ⟨t, ht, {
    energy := hkept.energy hs.energy
    calendar := (exec_calendarInRange hcold' hloss hs.calendar).of_eq ht
    credit := (exec_creditInRange hcold' hloss hs.credit).of_eq ht
    floor := (exec_floor hcold' hloss hs.floor).of_eq ht
    failures := hcode.failures hs.failures
    switch := (exec_switchInRange hcold' hloss hs.switch hbackoff).of_eq ht
    tamper := hkept.records hs.tamper
    supply := (exec_supplyInRange hcold' hloss hs.supply).of_eq ht
    settings := (exec_settingsInRange hcold' hloss hs.settings).of_eq ht
    report := (exec_reportInRange hcold' hloss hs.report).of_eq ht }⟩

/-! ### The timers -/

theorem Switch.InRange.tick {x : Switch} (h : x.InRange) : x.tick.InRange := { h with }

theorem Tamper.tick_records (x : Tamper) : x.tick.records = x.records := by
  unfold Tamper.tick
  split
  · rfl
  · rfl

/-- The timers count for no value of the ranges. -/
theorem State.InRange.tickMs {s : State} (hs : s.InRange) : s.tickMs.InRange :=
  { hs with
    switch := hs.switch.tick
    tamper := hs.tamper.same (Tamper.tick_records _) }

/-- Settles O6: the ranges unit by unit, kept by every command and by the timers. -/
theorem stepKeepsTheRanges : Obligations.StepKeepsTheRanges := by
  intro s t hs h
  rw [ranges_iff] at hs ⊢
  exact step_keeps (P := State.InRange) (fun _ _ h => { h with }) (fun _ h => h.tickMs) (fun c _ h => exec_inRange c h) hs h

end Sys2Proof.Machine
end
